-- ==== Sys2Proof/Word.lean ====
section
/-! DEFINITION. The words of the block: registers are 64 bits wide (R8); a beat is 1,024 bits (R383). -/
namespace Sys2Proof

/-- A register, a descriptor word, a payload on KRP: 64 bits (R8). -/
abbrev Word := BitVec 64

/-- A byte of a buffer. -/
abbrev Byte := BitVec 8

/-- A beat on TAP_A, TAP_B or TAP_C (R383). -/
abbrev Beat := BitVec 1024

end Sys2Proof
end

