-- ==== Sys2Proof/Machine/Bits.lean ====
section
/-! DEFINITION. Fields of words, packing of register views, saturating and wrapping counts, and the sparse
canonical maps that hold the arrays of the block. -/
namespace Sys2Proof.Machine

/-- Bits [hi:lo] of a word, as a number. -/
def fld (w : Word) (hi lo : Nat) : Nat := (w.toNat / 2 ^ lo) % 2 ^ (hi - lo + 1)

/-- Bit `b` of a word. -/
def bitOf (w : Word) (b : Nat) : Bool := fld w b b == 1

/-- 1 or 0. -/
def b2n (b : Bool) : Nat := if b then 1 else 0

/-- Bit `b` of a number. -/
def nbit (n b : Nat) : Bool := (n / 2 ^ b) % 2 == 1

/-- A number built from fields (low bit, width, value); each value is cut to its width. -/
def packN : List (Nat × Nat × Nat) → Nat
  | [] => 0
  | (lo, w, v) :: r => (v % 2 ^ w) * 2 ^ lo + packN r

/-- A register view built from fields (low bit, width, value). -/
def pack (fs : List (Nat × Nat × Nat)) : Word := BitVec.ofNat 64 (packN fs)

/-- `w` with bits [hi:lo] replaced by `v`. -/
def setFld (w : Word) (hi lo v : Nat) : Word :=
  let n := w.toNat
  let old := fld w hi lo
  BitVec.ofNat 64 (n - old * 2 ^ lo + (v % 2 ^ (hi - lo + 1)) * 2 ^ lo)

/-- Add to a count that saturates at its width of `w` bits. -/
def satAdd (w n k : Nat) : Nat := min (n + k) (2 ^ w - 1)

/-- Add to a count that wraps at its width of `w` bits. -/
def wrapAdd (w n k : Nat) : Nat := (n + k) % 2 ^ w

/-- A number below 2^w read as two's complement. -/
def toSigned (w n : Nat) : Int := if n % 2 ^ w < 2 ^ (w - 1) then (n % 2 ^ w : Nat) else (n % 2 ^ w : Nat) - (2 ^ w : Nat)

/-- ⌈a / b⌉. -/
def ceilDiv (a b : Nat) : Nat := (a + b - 1) / b

/-- A sparse array: (index, value) pairs, indices strictly rising, no value equal to the array's default. -/
abbrev SMap (α : Type) := List (Nat × α)

/-- The value at index `k`, `d` where the array lists none. -/
def sget {α : Type} (d : α) : SMap α → Nat → α
  | [], _ => d
  | (i, v) :: r, k => if i == k then v else sget d r k

/-- Write `v` at index `k`, keeping the canonical form. -/
def sset {α : Type} [DecidableEq α] (d : α) : SMap α → Nat → α → SMap α
  | [], k, v => if v = d then [] else [(k, v)]
  | (i, x) :: r, k, v =>
    if k < i then (if v = d then (i, x) :: r else (k, v) :: (i, x) :: r)
    else if i == k then (if v = d then r else (k, v) :: r)
    else (i, x) :: sset d r k v

/-- Rewrite the value at index `k`. -/
def supd {α : Type} [DecidableEq α] (d : α) (m : SMap α) (k : Nat) (f : α → α) : SMap α :=
  sset d m k (f (sget d m k))

/-- Every index strictly above `lo` in rising order, and no default listed. -/
def swfFrom {α : Type} [DecidableEq α] (d : α) : Nat → SMap α → Bool
  | _, [] => true
  | lo, (i, v) :: r => decide (lo ≤ i) && decide (v ≠ d) && swfFrom d (i + 1) r

/-- The canonical form of a sparse array. -/
def swf {α : Type} [DecidableEq α] (d : α) (m : SMap α) : Bool := swfFrom d 0 m

/-- The numbers below `n`, rising. -/
def upto (n : Nat) : List Nat := List.range n

/-- Element `i` of a list of numbers, 0 beyond its end. -/
def nthN (l : List Nat) (i : Nat) : Nat := l.getD i 0

/-- Word `i` of a list of words, 0 beyond its end. -/
def nthW (l : List Word) (i : Nat) : Word := l.getD i 0

/-- The list with element `i` replaced, unchanged beyond its end. -/
def setNth {α : Type} : List α → Nat → α → List α
  | [], _, _ => []
  | _ :: r, 0, v => v :: r
  | x :: r, k + 1, v => x :: setNth r k v

/-- The little-endian number of a list of bytes. -/
def leNat : List Byte → Nat
  | [] => 0
  | b :: r => b.toNat + 256 * leNat r

/-- The `n` little-endian bytes of a number. -/
def leBytes : Nat → Nat → List Byte
  | 0, _ => []
  | n + 1, v => BitVec.ofNat 8 v :: leBytes n (v / 256)

/-- The bytes of a list of words, each word little-endian. -/
def wordsBytes : List Word → List Byte
  | [] => []
  | w :: r => leBytes 8 w.toNat ++ wordsBytes r

/-- The 64-bit little-endian words of a list of bytes (the last word filled with zeros). -/
def bytesWords (bs : List Byte) : List Word :=
  (upto (ceilDiv bs.length 8)).map fun i => BitVec.ofNat 64 (leNat ((bs.drop (8 * i)).take 8))

end Sys2Proof.Machine
end

