-- ==== Sys2Proof/Machine/Build.lean ====
section
/-! DEFINITION. The build-time parameters of an instance (R3, R4) and the places of tiles, columns and clusters. -/
namespace Sys2Proof.Machine

/-- What is fixed when an instance is built (R3). The defaults are the reference integration. [DESIGN CHOICE, log entry 3] -/
structure Build where
  cols : Nat := 48
  memPorts : Nat := 5
  partitions : Nat := 9
  spares : Nat := 64
  tiles : Nat := 2304
deriving DecidableEq, Repr

/-- The legal builds (R3). Every partition holds a non-spare position, so there are at least as many of these as partitions. -/
def Build.ok (b : Build) : Bool :=
  decide (64 ≤ b.tiles) && decide (b.tiles ≤ 4096) && b.cols % 4 == 0 && decide (8 ≤ b.cols) && decide (b.cols ≤ 64) &&
  b.tiles % (4 * b.cols) == 0 && decide (1 ≤ b.partitions) && decide (b.partitions ≤ 16) &&
  decide (b.partitions + b.spares ≤ b.tiles)

/-- IDENT_CONFIG (R3). -/
def Build.identConfig (b : Build) : Word :=
  pack [(0, 16, b.tiles), (16, 16, b.spares), (32, 8, b.partitions), (40, 8, b.memPorts), (48, 8, b.cols)]

/-- The logical tile count (R4). -/
def Build.logical (b : Build) : Nat := b.tiles - b.spares

/-- The column of a physical position. -/
def Build.col (b : Build) (n : Nat) : Nat := n % b.cols

/-- The row of a physical position. -/
def Build.row (b : Build) (n : Nat) : Nat := n / b.cols

/-- The cluster of a physical position (R414). -/
def Build.cluster (b : Build) (n : Nat) : Nat := (b.row n / 4) * (b.cols / 4) + b.col n / 4

/-- How many clusters there are (R3). -/
def Build.clusters (b : Build) : Nat := b.tiles / 16

/-- The lowest-numbered position of a cluster (R414). -/
def Build.clusterFirst (b : Build) (k : Nat) : Nat :=
  let c := b.cols / 4
  (4 * (k / c)) * b.cols + 4 * (k % c)

/-- Every position. -/
def Build.positions (b : Build) : List Nat := upto b.tiles

end Sys2Proof.Machine
end

