-- ==== Sys2Proof/Machine/Float.lean ====
section
/-! DEFINITION. The values of the element formats as exact dyadic numbers, their decoding (R33, R35, R65), one
rounding (R42, R34), and the residues modulo 2^31 − 1 (R64). -/
namespace Sys2Proof.Machine

/-- A decoded value: NaN, an infinity, or (−1)^neg × m × 2^e exactly (R33). -/
inductive Fl where
  | nan
  | inf (neg : Bool)
  | fin (neg : Bool) (m : Nat) (e : Int)
deriving DecidableEq, Repr, Inhabited

/-- Positive zero. -/
def flZero : Fl := .fin false 0 0

/-- m × 2^e, exactly. -/
def flInt (m : Int) (e : Int) : Fl := .fin (decide (m < 0)) m.natAbs e

/-- A finite value's signed significand. -/
def sgnM (neg : Bool) (m : Nat) : Int := if neg then -(m : Int) else m

/-- Whether a value is finite. -/
def flFinite : Fl → Bool
  | .fin _ _ _ => true
  | _ => false

/-- 2^k for a non-negative k, 1 otherwise. -/
def pow2 (k : Int) : Nat := 2 ^ k.toNat

/-- Whether m1 × 2^e1 < m2 × 2^e2. -/
def dyLt (m1 e1 m2 e2 : Int) : Bool :=
  let e := min e1 e2
  decide (m1 * pow2 (e1 - e) < m2 * pow2 (e2 - e))

/-- Whether a < b; NaN compares with nothing. -/
def flLt : Fl → Fl → Bool
  | .nan, _ => false
  | _, .nan => false
  | .inf n1, .inf n2 => n1 && !n2
  | .inf n1, .fin _ _ _ => n1
  | .fin _ _ _, .inf n2 => !n2
  | .fin n1 m1 e1, .fin n2 m2 e2 => dyLt (sgnM n1 m1) e1 (sgnM n2 m2) e2

/-- Equality in every bit of one format, NaN payloads apart: +0 and −0 differ (R43). -/
def flSame : Fl → Fl → Bool
  | .nan, .nan => true
  | .inf a, .inf b => a == b
  | .fin n1 m1 e1, .fin n2 m2 e2 =>
    (n1 == n2) && !(dyLt m1 e1 m2 e2) && !(dyLt m2 e2 m1 e1)
  | _, _ => false

/-- Equality as numbers. -/
def flEq (a b : Fl) : Bool := flFinite a && flFinite b && !(flLt a b) && !(flLt b a)

/-- The negative of a value. -/
def flNeg : Fl → Fl
  | .nan => .nan
  | .inf n => .inf (!n)
  | .fin n m e => .fin (!n) m e

/-- The magnitude of a value. -/
def flAbs : Fl → Fl
  | .nan => .nan
  | .inf _ => .inf false
  | .fin _ m e => .fin false m e

/-- The exact product. -/
def flMul : Fl → Fl → Fl
  | .nan, _ => .nan
  | _, .nan => .nan
  | .inf a, .inf b => .inf (a != b)
  | .inf a, .fin b m _ => if m = 0 then .nan else .inf (a != b)
  | .fin a m _, .inf b => if m = 0 then .nan else .inf (a != b)
  | .fin a m e, .fin b n f => .fin (a != b) (m * n) (e + f)

/-- The exact sum; a zero sum of two values takes the sign IEEE 754 gives it under rounding `mode` (R34). -/
def flAdd (mode : Nat) : Fl → Fl → Fl
  | .nan, _ => .nan
  | _, .nan => .nan
  | .inf a, .inf b => if a == b then .inf a else .nan
  | .inf a, .fin _ _ _ => .inf a
  | .fin _ _ _, .inf b => .inf b
  | .fin a m e, .fin b n f =>
    let g := min e f
    let s : Int := sgnM a m * pow2 (e - g) + sgnM b n * pow2 (f - g)
    if s = 0 then .fin (if a == b then a else mode == 3) 0 0 else flInt s g

/-- What rounding needs of a format: precision, smallest normal exponent, largest finite magnitude as max × 2^maxE,
and whether it has a subnormal range (MXINT8 and the integers have none). -/
structure Grid where
  p : Nat
  emin : Int
  maxM : Nat
  maxE : Int
  sub : Bool
deriving DecidableEq, Repr

/-- Width in bits of an element of a format (R33, R383); 0 where the code has no entry. -/
def fmtBits (c : Nat) : Nat :=
  match c with
  | 0x01 => 32 | 0x02 => 16 | 0x03 => 16
  | 0x10 => 8 | 0x11 => 8 | 0x12 => 6 | 0x13 => 6 | 0x14 => 4 | 0x15 => 8
  | 0x20 => 8 | 0x21 => 4 | 0x22 => 32 | 0x31 => 128
  | _ => 0

/-- Elements of a beat (R383); 0 where the code has no entry. -/
def fmtPerBeat (c : Nat) : Nat :=
  match c with
  | 0x01 => 32 | 0x22 => 32 | 0x02 => 64 | 0x03 => 64 | 0x31 => 8
  | 0x10 => 128 | 0x11 => 128 | 0x15 => 128 | 0x20 => 128
  | 0x12 => 160 | 0x13 => 160 | 0x14 => 256 | 0x21 => 256
  | _ => 0

/-- An MX format (R35). -/
def fmtMX (c : Nat) : Bool := decide (0x10 ≤ c) && decide (c ≤ 0x15)

/-- An integer operand format (R489). -/
def fmtInt (c : Nat) : Bool := c == 0x20 || c == 0x21

/-- A binary format: binary32, binary16, bfloat16. -/
def fmtBin (c : Nat) : Bool := c == 1 || c == 2 || c == 3

/-- A scaled format (R489). -/
def fmtScaled (c : Nat) : Bool := fmtBin c || fmtMX c

/-- A code of the operand table (R33). -/
def fmtOperand (c : Nat) : Bool := fmtScaled c || fmtInt c

/-- Mantissa width, exponent width and bias of a floating element (R65, R34). -/
def fmtFields (c : Nat) : Nat × Nat × Nat :=
  match c with
  | 0x01 => (23, 8, 127) | 0x02 => (10, 5, 15) | 0x03 => (7, 8, 127)
  | 0x10 => (3, 4, 7) | 0x11 => (2, 5, 15) | 0x12 => (2, 3, 3) | 0x13 => (3, 2, 1) | 0x14 => (1, 2, 1)
  | _ => (0, 0, 0)

/-- The rounding grid of a format, without block scale (R33, R51). -/
def fmtGrid (c : Nat) : Grid :=
  match c with
  | 0x01 => ⟨24, -126, 2 ^ 24 - 1, 104, true⟩
  | 0x02 => ⟨11, -14, 2 ^ 11 - 1, 5, true⟩
  | 0x03 => ⟨8, -126, 2 ^ 8 - 1, 120, true⟩
  | 0x10 => ⟨4, -6, 14, 5, true⟩
  | 0x11 => ⟨3, -14, 7, 13, true⟩
  | 0x12 => ⟨3, -2, 7, 2, true⟩
  | 0x13 => ⟨4, 0, 15, -1, true⟩
  | 0x14 => ⟨2, 0, 3, 1, true⟩
  | 0x15 => ⟨8, 1, 127, -6, false⟩
  | _ => ⟨24, -126, 2 ^ 24 - 1, 104, true⟩

/-- Precision of a format in bits (R33). -/
def fmtPrec (c : Nat) : Nat := (fmtGrid c).p

/-- The exponent of an E8M0 scale, none for the NaN encoding (R35). -/
def scaleExp (s : Nat) : Option Int := if s % 256 = 255 then none else some ((s % 256 : Nat) - 127)

/-- A floating element by its sign, exponent and mantissa fields, with 2^x for its block scale (R65). -/
def decodeFloating (c bits : Nat) (x : Int) : Fl :=
  let (w, ew, b) := fmtFields c
  let f := bits % 2 ^ w
  let e := (bits / 2 ^ w) % 2 ^ ew
  let neg := (bits / 2 ^ (w + ew)) % 2 == 1
  let top := 2 ^ ew - 1
  if fmtBin c && e == top then (if f = 0 then .inf neg else .nan)
  else if c == 0x10 && e == top && f == 2 ^ w - 1 then .nan
  else if c == 0x11 && e == top then (if f = 0 then .inf neg else .nan)
  else if e = 0 then .fin neg f (1 - (b : Int) - w + x)
  else .fin neg (2 ^ w + f) ((e : Int) - b - w + x)

/-- The value of an element encoding `bits` with block scale byte `scale` (R33, R35, R65). -/
def decodeElem (c bits scale : Nat) : Fl :=
  if fmtBin c then decodeFloating c bits 0
  else if c == 0x20 then flInt (toSigned 8 bits) 0
  else if c == 0x21 then flInt (toSigned 4 bits) 0
  else if c == 0x22 then flInt (toSigned 32 bits) 0
  else if c == 0x31 then flInt (toSigned 96 (bits / 2 ^ 32)) (toSigned 32 bits)
  else match scaleExp scale with
    | none => .nan
    | some x => if c == 0x15 then flInt (toSigned 8 bits) (x - 6) else decodeFloating c bits x

/-- The exponent field q of an FX96E element (R66). -/
def fx96q (bits : Nat) : Int := toSigned 32 bits

/-- Round a magnitude right by `sh` bits: 0 ties to even, 1 toward zero, 2 toward positive, 3 toward negative,
4 ties away (R34). -/
def roundShift (mode : Nat) (neg : Bool) (m sh : Nat) : Nat :=
  let q := m / 2 ^ sh
  let r := m % 2 ^ sh
  let half := 2 ^ (sh - 1)
  let up : Bool :=
    if sh = 0 then false
    else match mode with
      | 0 => decide (r > half) || (r == half && q % 2 == 1)
      | 1 => false
      | 2 => decide (r > 0) && !neg
      | 3 => decide (r > 0) && neg
      | _ => decide (r ≥ half)
  q + (if up then 1 else 0)

/-- Whether IEEE 754's rounding `mode` carries an overflow of this sign to the infinity (R34). -/
def overflowInf (mode : Nat) (neg : Bool) : Bool :=
  match mode with
  | 0 => true | 1 => false | 2 => !neg | 3 => neg | _ => true

/-- A value as the grid's format holds it: a two's complement format has one zero (R33). -/
def oneZero (g : Grid) : Fl → Fl
  | .fin n m e => .fin (n && (g.sub || m != 0)) m e
  | v => v

/-- One rounding of an exact value to a grid, then FTZ; `inf` says whether an overflow of a sign becomes the infinity or the
largest finite magnitude. `sx` is the exponent of a block scale. -/
def roundGrid (g : Grid) (sx : Int) (mode : Nat) (inf : Bool → Bool) (ftz : Bool) : Fl → Fl
  | .nan => .nan
  | .inf n => .inf n
  | .fin n m e =>
    if m = 0 then oneZero g (.fin n 0 0)
    else
      let q := max ((Nat.log2 m : Int) + e - g.p + 1) (g.emin + sx - g.p + 1)
      let m' := if e ≥ q then m * pow2 (e - q) else roundShift mode n m (q - e).toNat
      if dyLt g.maxM (g.maxE + sx) m' q then
        (if inf n then .inf n else .fin n g.maxM (g.maxE + sx))
      else if ftz && g.sub && dyLt m' q 1 (g.emin + sx) then .fin n 0 0
      else oneZero g (.fin n m' q)

/-- One rounding, then FTZ and OVF_SAT (R42): an overflow saturates, or becomes the infinity whatever the rounding. [DEDUCED, log entry 157] -/
def roundTo (g : Grid) (sx : Int) (mode : Nat) (sat ftz : Bool) (x : Fl) : Fl := roundGrid g sx mode (fun _ => !sat) ftz x

/-- One binary32 rounding in a directed mode, as the bounded form uses it (R45, R46). -/
def r32 (mode : Nat) (x : Fl) : Fl := roundGrid (fmtGrid 1) 0 mode (overflowInf mode) false x

/-- The binary32 encoding read as a value. -/
def f32 (bits : Nat) : Fl := decodeElem 1 bits 0

/-- p = 2^31 − 1 (R64). -/
def resP : Nat := 2 ^ 31 - 1

/-- res(m × 2^q) (R64). -/
def resMQ (m q : Int) : Nat := ((m % (resP : Int)).toNat * 2 ^ (q % 31).toNat) % resP

/-- The residue of a value, none for NaN and the infinities (R64, R67). -/
def resFl : Fl → Option Nat
  | .fin n m e => some (resMQ (sgnM n m) e)
  | _ => none

/-- The unit in the last place of x in a grid scaled by 2^sx, as an exponent of two (R51); MXINT8 has one for every x. -/
def ulpExp (g : Grid) (sx : Int) : Fl → Int
  | .fin _ m e =>
    if m = 0 || !g.sub then g.emin + sx - g.p + 1
    else max ((Nat.log2 m : Int) + e) (g.emin + sx) - g.p + 1
  | _ => g.emin + sx - g.p + 1

end Sys2Proof.Machine
end

