-- ==== Sys2Proof/Config.lean ====
section
/-! DEFINITION. The free values: constants with no body. Nothing can evaluate one, so a claim holds whatever its
value is. Each is named in the assumption log. -/
namespace Sys2Proof.Config

/-- How far the reference unit's approximation r lies from the exact result of a ULP function (R52), in units of 2^-30 ulp; the
unit keeps it within its bound. By the function's code, the element's index in its row, the row, the operand, the gain, the
bias and the epsilon. [DESIGN CHOICE, log entry 13] -/
opaque ulpError : Nat → Nat → List Machine.Fl → Machine.Fl → Machine.Fl → Machine.Fl → Machine.Fl → Int

/-- The result of a ULP function on operands for which neither the manual nor IEEE 754 states one: an infinity where the formula
of R71 has the form 0 × ∞ (R52). Arguments as for `ulpError`. [DESIGN CHOICE, log entry 13] -/
opaque ulpUnstated : Nat → Nat → List Machine.Fl → Machine.Fl → Machine.Fl → Machine.Fl → Machine.Fl → Machine.Fl

/-- The value of KMAC256: length in bits, key, customisation string number, input words (R97, R435). [DESIGN CHOICE, log entry 11] -/
opaque kmacValue : (bits key custom : Nat) → List Nat → Nat
/-- KMAC256 of the block, of `bits` bits. [DESIGN CHOICE, log entry 11] -/
def kmac (bits key custom : Nat) (data : List Nat) : Nat := kmacValue bits key custom data % 2 ^ bits

/-- The value of SHA3-384 on a list of bytes. [DESIGN CHOICE, log entry 11] -/
opaque sha3Value : List Byte → BitVec 384
/-- SHA3-384 of a list of bytes, as a number (R208, R331, R442). [DESIGN CHOICE, log entry 11] -/
def sha3_384 (bytes : List Byte) : Nat := (sha3Value bytes).toNat

/-- The value of an ML-KEM-1024 shared key. [DESIGN CHOICE, log entry 11] -/
opaque kemValue : Nat → Nat → BitVec 256
/-- The key that encapsulation or decapsulation under ML-KEM-1024 yields (R181, R437). [DESIGN CHOICE, log entry 11] -/
def kem (key x : Nat) : Nat := (kemValue key x).toNat

/-- A byte of an ML-KEM-1024 ciphertext: by the encapsulation key, the draw and its index. [DESIGN CHOICE, log entry 11] -/
opaque kemByte : (ek draw : Nat) → Nat → Byte
/-- An ML-KEM-1024 ciphertext, 1,568 bytes (R177, R445). [DESIGN CHOICE, log entry 11] -/
def kemCipher (ek draw : Nat) : List Byte := (List.range 1568).map (kemByte ek draw)

/-- A byte of the encapsulation key of an ML-KEM-1024 key pair. [DESIGN CHOICE, log entry 11] -/
opaque ekByte : Nat → Nat → Byte
/-- The encapsulation key of the pair that a seed d ‖ z makes: 1,568 bytes (R434, R442). [DESIGN CHOICE, log entry 11] -/
def kemPublic (key : Nat) : List Byte := (List.range 1568).map (ekByte key)

/-- A byte of the public key of an attestation key. [DESIGN CHOICE, log entry 11] -/
opaque attByte : Nat → Nat → Byte
/-- The public key of an attestation key: ML-DSA-87, 2,592 bytes (R434, R442). [DESIGN CHOICE, log entry 11] -/
def attPublic (key : Nat) : List Byte := (List.range 2592).map (attByte key)

/-- A byte of an ML-DSA-87 signature: by the attestation key, the message and its index. [DESIGN CHOICE, log entry 11] -/
opaque signByte : (key : Nat) → List Byte → Nat → Byte
/-- An ML-DSA-87 signature, 4,627 bytes (R178, R442). [DESIGN CHOICE, log entry 11] -/
def sign (key : Nat) (bytes : List Byte) : List Byte := (List.range 4627).map (signByte key bytes)

/-- A byte of what AES-256-GCM makes of a message: by the key, the nonce, the additional authenticated data, the
message and its index. [DESIGN CHOICE, log entry 11] -/
opaque cipherByte : (key nonce : Nat) → (aad bytes : List Byte) → Nat → Byte
/-- Authenticated encryption under a key and a nonce, with additional authenticated data: as many ciphertext bytes as the message has, and a tag of 16 (R137, R177,
R445). [DESIGN CHOICE, log entry 11] -/
def sealBytes (key nonce : Nat) (aad bytes : List Byte) : List Byte :=
  (List.range (bytes.length + 16)).map (cipherByte key nonce aad bytes)

/-- A byte of what decryption gives. [DESIGN CHOICE, log entry 11] -/
opaque plainByte : (key nonce : Nat) → List Byte → Nat → Byte
/-- What decryption of as many ciphertext bytes gives (R192, R196). [DESIGN CHOICE, log entry 11] -/
def openBytes (key nonce : Nat) (bytes : List Byte) : List Byte :=
  (List.range bytes.length).map (plainByte key nonce bytes)

/-- A value of the entropy source or of a value the manual leaves free, the n-th drawn (R435). [DESIGN CHOICE, log entry 12] -/
opaque draw : Nat → Nat

/-- What a byte offset of eMRAM holds where the manual gives no content: words of the index area whose layout it leaves
open, and slots that a cut or failed write has left (R306, R307, R415). [DESIGN CHOICE, log entry 15] -/
opaque emramWord : Nat → Word

/-- The straps tray_pen and jtag_mfr of the integrator (R402, R406). [DESIGN CHOICE, log entry 16] -/
opaque trayPen : Nat
/-- The strap tray_static_addr (R402). [DESIGN CHOICE, log entry 16] -/
opaque trayStatic : Nat
/-- The manufacturer identity that IDCODE reads (R406). [DESIGN CHOICE, log entry 16] -/
opaque jtagMfr : Nat

/-- What the TRAY endpoint answers where the manual gives no value: by the number of the command code (R402). [DESIGN CHOICE, log entry 16] -/
opaque trayValue : Nat → Nat

/-- How many payloads a checker sends up its riser for an operation by its close: the manual does not say what else than
the verdict takes one (R81, R473). [DESIGN CHOICE, log entry 17] -/
opaque riserPayloads : Nat → Nat

/-- What host memory holds at an address for a length, at the n-th draw: read by commands that arrive as plain register
writes and so carry no data of it. [DESIGN CHOICE, log entry 18] -/
opaque hostBytes : (addr len n : Nat) → List Byte

end Sys2Proof.Config
end

