-- ==== Sys2Proof/Machine/Ref.lean ====
section
/-! DEFINITION. The functions that the reference unit computes under ULP contracts (R52, R71): each to within 2^-20 ulp of
the exact result, far inside the unit's own bound of 2^-10 ulp. Fixed-point numbers count units of 2^-320. -/
namespace Sys2Proof.Machine

/-- One in fixed point. -/
def fxOne : Int := 2 ^ 320

/-- The product of two fixed-point numbers. -/
def fxMul (a b : Int) : Int := a * b / fxOne

/-- The quotient of two fixed-point numbers. -/
def fxDiv (a b : Int) : Int := a * fxOne / b

/-- A finite value in fixed point, cut below 2^-320. -/
def toFx : Fl → Int
  | .fin n m e => if e + 320 ≥ 0 then sgnM n m * pow2 (e + 320) else sgnM n (m / pow2 (-(e + 320)))
  | _ => 0

/-- A fixed-point number as a value. -/
def ofFx (v : Int) : Fl := flInt v (-320)

/-- Σ ± t / (2k + 1) over the powers q^-(2k+1), `t` being the power of the first k. -/
def invSeries (alt : Bool) (q : Int) : Nat → Nat → Int → Int
  | 0, _, _ => 0
  | f + 1, k, t =>
    let u := t / (2 * k + 1 : Nat)
    (if alt && k % 2 == 1 then -u else u) + invSeries alt q f (k + 1) (t / (q * q))

/-- ln 2 = 2 artanh 1/3. -/
def fxLn2 : Int := 2 * invSeries false 3 110 0 (fxOne / 3)

/-- π = 16 arctan 1/5 − 4 arctan 1/239. -/
def fxPi : Int := 16 * invSeries true 5 75 0 (fxOne / 5) - 4 * invSeries true 239 25 0 (fxOne / 239)

/-- One step of Newton's method for √n, as often as the fuel says. -/
def newton (n : Nat) : Nat → Nat → Nat
  | 0, x => x
  | f + 1, x => newton n f ((x + n / x) / 2)

/-- √n to within one. -/
def rootN (n : Nat) : Nat := if n = 0 then 0 else newton n 14 (2 ^ (Nat.log2 n / 2 + 1))

/-- √(k/π) in fixed point. -/
def fxRootOverPi (k : Nat) : Int := rootN ((k : Int) * 2 ^ 960 / fxPi).toNat

/-- Σ r^k / k!, `t` being the first term. -/
def expSeries (r : Int) : Nat → Nat → Int → Int
  | 0, _, _ => 0
  | f + 1, k, t => t + expSeries r f (k + 1) (fxMul t r / (k + 1 : Nat))

/-- e^t, its exponent held at 4096: so far above every element, a distance counts as many ulp at any exponent. Below
e^-1024, a value as far below every ulp. -/
def expFx (t : Int) : Fl :=
  if t < -1024 * fxOne then .fin false 1 (-2048)
  else
    let k := (t + fxLn2 / 2) / fxLn2
    .fin false (expSeries (t - k * fxLn2) 64 0 fxOne).toNat (min k 4096 - 320)

/-- ln of m × 2^e, m > 0: with m = 2^b (1 + z) / (1 − z). -/
def logOf (m : Nat) (e : Int) : Fl :=
  let b := Nat.log2 m
  let b := if m * m > 2 ^ (2 * b + 1) then b + 1 else b
  let z := ((m : Int) - 2 ^ b) * fxOne / ((m : Int) + 2 ^ b)
  let z2 := fxMul z z
  let rec go : Nat → Nat → Int → Int
    | 0, _, _ => 0
    | f + 1, k, t => t / (2 * k + 1 : Nat) + go f (k + 1) (fxMul t z2)
  ofFx (2 * go 70 0 z + (b + e) * fxLn2)

/-- The reciprocal of m × 2^e, m > 0. -/
def recipOf (n : Bool) (m : Nat) (e : Int) : Fl :=
  let k := 320 + Nat.log2 m
  .fin n (2 ^ k / m) (-(k : Int) - e)

/-- 1/√(m × 2^e), m > 0. -/
def rsqrtOf (m : Nat) (e : Int) : Fl :=
  let k : Int := 640 + Nat.log2 m
  let k := if (k + e) % 2 = 0 then k else k + 1
  .fin false (rootN (2 ^ k.toNat / m)) (-((k + e) / 2))

/-- The greatest value below 1 in fixed point. -/
def belowOne : Fl := ofFx (fxOne - 1)

/-- tanh of a fixed-point number. -/
def tanhFx (t : Int) : Fl :=
  if t > 512 * fxOne then belowOne
  else if t < -512 * fxOne then flNeg belowOne
  else
    let e := toFx (expFx (2 * t))
    ofFx (fxDiv (e - fxOne) (e + fxOne))

/-- 1/(1 + e^-t). -/
def sigmoidFx (t : Int) : Fl :=
  if t > 200 * fxOne then belowOne
  else if t < -160 * fxOne then expFx t
  else
    let e := toFx (expFx t)
    ofFx (fxDiv e (e + fxOne))

/-- x/2 (1 + tanh u) = x / (1 + e^-2u), u = √(2/π) (x + 0.044715 x³). -/
def geluTanh (x : Fl) : Fl :=
  let t := toFx x + toFx (flMul x (flMul x x)) * 44715 / 1000000
  flMul x (sigmoidFx (fxMul (fxRootOverPi 8) t))

/-- Σ t, each term x² / (2k + 3) times the one before. -/
def erfSeries (x2 : Int) : Nat → Nat → Int → Int
  | 0, _, _ => 0
  | f + 1, k, t => t + erfSeries x2 f (k + 1) (fxMul t x2 / (2 * k + 3 : Nat))

/-- x/2 (1 + erf (x/√2)), with erf (x/√2) = √(2/π) x e^(−x²/2) Σ x^2k / (1 · 3 ⋯ (2k + 1)). -/
def geluErf (x : Fl) : Fl :=
  let t := toFx x
  if t > 17 * fxOne then flMul x belowOne
  else if t < -17 * fxOne then flMul x (.fin false 1 (-320))
  else
    let x2 := fxMul t t
    let s := flMul (ofFx (erfSeries x2 700 0 fxOne)) (expFx (-x2 / 2))
    let erf := toFx (flMul (flMul (ofFx (fxRootOverPi 2)) x) s)
    flMul x (ofFx ((fxOne + erf) / 2))

/-- The exact sum of values. -/
def flSum (l : List Fl) : Fl := l.foldl (flAdd 0) flZero

/-- p √k / √a for finite p and a > 0. -/
def overRoot (p : Fl) (k : Nat) (a : Fl) : Fl :=
  match p, a with
  | .fin n pm pe, .fin _ am ae =>
    let sh := 2 * pe - ae + 800
    .fin n (rootN (if sh ≥ 0 then pm * pm * k * pow2 sh / am else pm * pm * k / (am * pow2 (-sh)))) (-400)
  | _, _ => .nan

/-- What a row function needs of a row: it holds no NaN, no positive infinity, no negative infinity. -/
structure RowKind where
  nan : Bool := false
  pos : Bool := false
  neg : Bool := false
deriving DecidableEq, Repr

/-- The kinds of non-finite values in a row. -/
def rowKind (l : List Fl) : RowKind := ⟨l.contains .nan, l.contains (.inf false), l.contains (.inf true)⟩

/-- SOFTMAX_ROW: e^(x_i − max) over the sum of these; −∞ contributes e^−∞ = 0. -/
def softmaxOf (row : List Fl) (x : Fl) : Fl :=
  let fin := row.filter flFinite
  if (rowKind row).nan || (rowKind row).pos || fin.isEmpty then .nan
  else
    let top := (fin.drop 1).foldl (fun a b => if flLt a b then b else a) (fin.headD flZero)
    let ex (v : Fl) : Fl := expFx (toFx v - toFx top)
    match x with
    | .fin _ _ _ =>
      match ofFx ((fin.map fun v => toFx (ex v)).sum) with
      | .fin _ m e => flMul (ex x) (recipOf false m e)
      | v => v
    | _ => flZero

/-- The sign of a value as a value. -/
def flSign : Fl → Fl
  | .fin n m _ => .fin n (if m = 0 then 0 else 1) 0
  | v => v

/-- A normalised element x / √a with its gain and bias, √k over the root: infinite gains and biases as IEEE 754 has them. -/
def normed (x : Fl) (k : Nat) (a gain bias : Fl) : Fl :=
  flAdd 0 (if flFinite gain then overRoot (flMul x gain) k a else flMul (flSign x) gain) bias

/-- The function of a class on one element of a row (or on one element `x`), where its value is stated: none where the
formula has the form 0 × ∞ at an infinity, or divides by an infinite mean. -/
def ulpValue (cls : Nat) (row : List Fl) (x gain bias eps : Fl) : Option Fl :=
  let n := row.length
  let nf (k : Nat) := flInt k 0
  match cls, x with
  | 0x20, _ => some (softmaxOf row x)
  | 0x21, _ =>
    if (rowKind row).nan then some .nan
    else if (rowKind row).pos || (rowKind row).neg then none
    else some (normed x n (flAdd 0 (flSum (row.map fun v => flMul v v)) (flMul (nf n) eps)) gain flZero)
  | 0x22, _ =>
    let k := rowKind row
    if k.nan || k.pos || k.neg then some .nan
    else
      let s := flSum row
      let a := flAdd 0 (flAdd 0 (flMul (nf n) (flSum (row.map fun v => flMul v v))) (flNeg (flMul s s))) (flMul (nf (n * n)) eps)
      some (normed (flAdd 0 (flMul (nf n) x) (flNeg s)) 1 a gain bias)
  | _, .nan => some .nan
  | 0x13, .inf neg => some (if neg then flZero else .inf false)
  | 0x13, v => some (expFx (toFx v))
  | 0x14, .inf neg => some (if neg then .nan else .inf false)
  | 0x14, .fin neg m e => some (if m = 0 then .inf true else if neg then .nan else logOf m e)
  | 0x15, .inf neg => some (.fin neg 0 0)
  | 0x15, .fin neg m e => some (if m = 0 then .inf neg else recipOf neg m e)
  | 0x16, .inf neg => some (if neg then .nan else flZero)
  | 0x16, .fin neg m e => some (if m = 0 then .inf neg else if neg then .nan else rsqrtOf m e)
  | 0x17, .inf neg => some (flInt (if neg then -1 else 1) 0)
  | 0x17, .fin neg m e => some (if m = 0 then .fin neg 0 0 else tanhFx (toFx (.fin neg m e)))
  | 0x18, .inf neg => some (if neg then flZero else flInt 1 0)
  | 0x18, v => some (sigmoidFx (toFx v))
  | 0x19, .inf neg => if neg then none else some (.inf false)
  | 0x19, v => some (flMul v (sigmoidFx (toFx v)))
  | 0x1A, .inf neg => if neg then none else some (.inf false)
  | 0x1A, v => some (geluTanh v)
  | _, .inf neg => if neg then none else some (.inf false)
  | _, v => some (geluErf v)

end Sys2Proof.Machine
end

