-- ==== Sys2Proof/Machine/Num.lean ====
section
/-! DEFINITION. The contract record (R56–R59), the operation classes (R71), the descriptor (R381), and what the
residue and reference units compute: bounds, ordered emulation and pip outcomes (R42–R54, R105). -/
namespace Sys2Proof.Machine

/-- A contract record: four words (R56). -/
structure Contract where
  w0 : Word := 0
  w1 : Word := 0
  w2 : Word := 0
  w3 : Word := 0
deriving DecidableEq, Repr

/-- Field accessors of a contract record (R56). -/
def cNo (c : Contract) : Nat := fld c.w0 7 0
/-- CLASS: 0 EXACT, 1 ORDERED, 2 BOUNDED, 3 ULP. -/
def cClass (c : Contract) : Nat := fld c.w0 11 8
/-- FMT_A. -/
def cFmtA (c : Contract) : Nat := fld c.w0 23 16
/-- FMT_B. -/
def cFmtB (c : Contract) : Nat := fld c.w0 31 24
/-- FMT_ACC. -/
def cFmtAcc (c : Contract) : Nat := fld c.w0 39 32
/-- FMT_C. -/
def cFmtC (c : Contract) : Nat := fld c.w0 47 40
/-- KIND: 0 DOT, 1 REDUCE, 2 ELEMENTWISE. -/
def cKind (c : Contract) : Nat := fld c.w0 51 48
/-- ORDER: 0 NONE, 1 SEQUENTIAL, 2 PAIRWISE. -/
def cOrder (c : Contract) : Nat := fld c.w1 3 0
/-- FUSED. -/
def cFused (c : Contract) : Bool := bitOf c.w1 4
/-- LEAF_LOG2. -/
def cLeaf (c : Contract) : Nat := fld c.w1 11 8
/-- ROUND. -/
def cRound (c : Contract) : Nat := fld c.w1 19 16
/-- OVF_SAT. -/
def cSat (c : Contract) : Bool := bitOf c.w1 24
/-- FTZ. -/
def cFtz (c : Contract) : Bool := bitOf c.w1 25
/-- DAZ. -/
def cDaz (c : Contract) : Bool := bitOf c.w1 26
/-- ULP_N. -/
def cUlpN (c : Contract) : Nat := fld c.w1 63 48
/-- The RESIDUE bit of METHODS (R57). -/
def cRes (c : Contract) : Bool := bitOf c.w2 0
/-- The PIP bit of METHODS (R57). -/
def cPip (c : Contract) : Bool := bitOf c.w2 1
/-- The SIGNATURE bit of METHODS (R57). -/
def cSig (c : Contract) : Bool := bitOf c.w2 2
/-- BOUND_SCALE, encoded. -/
def cBoundBits (c : Contract) : Nat := fld c.w2 63 32
/-- BOUND_SCALE as a value. -/
def cBound (c : Contract) : Fl := f32 (cBoundBits c)
/-- FLOOR_DENSITY. -/
def cFloor (c : Contract) : Nat := fld c.w3 19 0
/-- SAMPLE_DENSITY. -/
def cSample (c : Contract) : Nat := fld c.w3 39 20
/-- AUDIT_DENSITY. -/
def cAudit (c : Contract) : Nat := fld c.w3 59 40

/-- The binary32 value of at least 1.03125 that BOUND_SCALE must be (R44). -/
def boundScaleOk (c : Contract) : Bool :=
  match cBound c with
  | .fin false m e => !(dyLt m e 33 (-5))
  | _ => false

/-- FMT_ACC of the three binary formats. -/
def accBin (f : Nat) : Bool := fmtBin f

/-- The legal values of a contract record and the rules of its class (R38, R41, R44, R50, R56, R59), each with the byte offset of its
field in the record. -/
def contractRules (c : Contract) : List (Bool × Nat) :=
  let a := cFmtA c; let b := cFmtB c; let fc := cFmtC c; let acc := cFmtAcc c
  let k := cKind c; let cl := cClass c
  [(fld c.w0 63 52 == 0, 6), (fld c.w0 15 12 == 0, 1), (fld c.w1 47 27 == 0, 11), (fld c.w1 23 20 == 0, 10),
   (fld c.w1 15 12 == 0, 9), (fld c.w1 7 5 == 0, 8), (fld c.w2 31 3 == 0, 16), (fld c.w3 63 60 == 0, 31),
   (decide (1 ≤ cNo c), 0), (decide (k ≤ 2), 6), (decide (cl ≤ 3), 1), (decide (cOrder c ≤ 2), 8),
   (decide (cRound c ≤ 4), 10), (decide (cLeaf c ≤ 8) && (cOrder c == 2 || cLeaf c == 0), 9),
   (cl == 1 || !(cFused c), 8), (cl == 3 || cUlpN c == 0, 14),
   (if cl == 1 || cl == 2 then boundScaleOk c else cBoundBits c == 0, 20),
   (cl != 3 || !(cRes c), 16), (decide (cFloor c ≤ cSample c), 26), (decide (cSample c ≤ cAudit c), 29),
   (fmtInt a || fmtScaled a, 2), (b == 0 || (if fmtInt a then fmtInt b else fmtScaled b), 3),
   (if k == 1 then b == 0 else k != 0 || fmtOperand b, 3), (k != 2 || cl == 3, 1)] ++
  match cl with
  | 0 => [(acc == 0x30, 4), (fmtMX a || fmtInt a, 2), (b == 0 || fmtMX b || fmtInt b, 3), (k == 0 || k == 1, 6),
      (if fmtInt a then fc == 0x22 || fc == 0x31 else fc == 0x31, 5), (cOrder c == 0, 8), (cRound c == 0, 10)]
  | 1 => [(accBin acc, 4), (accBin fc, 5), (cOrder c == 1 || cOrder c == 2, 8), (k == 0, 6), (fmtOperand a, 2)]
  | 2 => [(accBin acc, 4), (accBin fc, 5), (cOrder c == 0, 8), (k == 0 || k == 1, 6), (fmtOperand a, 2)]
  | _ => [(k == 2, 6), (fmtScaled a, 2), (b == 0 || fmtScaled b, 3), (acc == 0, 4), (fmtScaled fc, 5)]

/-- A descriptor's fields (R381). -/
structure Desc where
  tag : Nat := 0
  ctx : Nat := 0
  mb : Nat := 0
  contract : Nat := 0
  cls : Nat := 0
  firstB : Bool := false
  aM : Bool := false
  bN : Bool := false
  cM : Bool := false
  fmtA : Nat := 0
  fmtB : Nat := 0
  fmtC : Nat := 0
  q : Int := 0
  m : Nat := 0
  n : Nat := 0
  k : Nat := 0
  batch : Nat := 1
  eps : Nat := 0
deriving DecidableEq, Repr

/-- The fields of six descriptor words (R381). -/
def descOf (ws : List Word) : Desc :=
  let w0 := nthW ws 0; let w1 := nthW ws 1; let w2 := nthW ws 2
  let w3 := nthW ws 3; let w4 := nthW ws 4; let w5 := nthW ws 5
  { tag := fld w0 63 32, ctx := fld w0 31 0, mb := fld w1 63 32, contract := fld w1 31 24,
    cls := fld w1 23 16, firstB := bitOf w1 15, aM := bitOf w1 14, bN := bitOf w1 13, cM := bitOf w1 12,
    fmtA := fld w2 63 56, fmtB := fld w2 55 48, fmtC := fld w2 47 40, q := toSigned 32 (fld w2 31 0),
    m := fld w3 63 32, n := fld w3 31 0, k := fld w4 63 32, batch := fld w4 31 16, eps := fld w5 63 32 }

/-- A class the manual defines (R71). -/
def clsDefined (c : Nat) : Bool :=
  (decide (1 ≤ c) && decide (c ≤ 9)) || (decide (0x10 ≤ c) && decide (c ≤ 0x1B)) || (decide (0x20 ≤ c) && decide (c ≤ 0x22))

/-- KIND DOT (R71). -/
def clsDot (c : Nat) : Bool := decide (1 ≤ c) && decide (c ≤ 8)
/-- SUM, the REDUCE class. -/
def clsSum (c : Nat) : Bool := c == 9
/-- ELEMENTWISE classes. -/
def clsElem (c : Nat) : Bool := decide (0x10 ≤ c)
/-- A row function. -/
def clsRow (c : Nat) : Bool := decide (0x20 ≤ c)
/-- MM_ACC. -/
def clsAcc (c : Nat) : Bool := c == 3
/-- A class with a B stream (R383). -/
def clsHasB (c : Nat) : Bool := clsDot c || c == 0x10 || c == 0x11 || c == 0x12 || c == 0x21 || c == 0x22
/-- KIND of a class (R71). -/
def clsKind (c : Nat) : Nat := if clsDot c then 0 else if clsSum c then 1 else 2
/-- The row form with w from a stationary entry (R70). -/
def clsUsesStat (c : Nat) : Bool := c == 6 || c == 7 || c == 8

/-- The three tapped data streams. -/
inductive Stream where
  | a | b | c
deriving DecidableEq, Repr

/-- Lines and line length of a stream of one member (R383). -/
def streamShape (d : Desc) (s : Stream) : Nat × Nat :=
  match s with
  | .a => if clsDot d.cls then (if d.aM then (d.k, d.m) else (d.m, d.k))
          else if clsSum d.cls then (d.k, d.n) else (d.m, d.n)
  | .b => if clsDot d.cls then (if d.bN then (d.k, d.n) else (d.n, d.k))
          else if d.cls == 0x10 || d.cls == 0x11 then (d.m, d.n)
          else if d.cls == 0x12 then (2 * d.m, d.n)
          else if d.cls == 0x21 then (1, d.n) else if d.cls == 0x22 then (2, d.n) else (0, 0)
  | .c => if clsSum d.cls then (1, d.n)
          else if clsDot d.cls then (if d.cM then (d.n, d.m) else (d.m, d.n)) else (d.m, d.n)

/-- The format of a stream. -/
def streamFmt (d : Desc) : Stream → Nat
  | .a => d.fmtA
  | .b => d.fmtB
  | .c => d.fmtC

/-- Whether a class uses a stream (R383). -/
def streamUsed (d : Desc) : Stream → Bool
  | .a => true
  | .b => clsHasB d.cls
  | .c => true

/-- The expected beat count of a stream (R383). -/
def streamBeats (d : Desc) (s : Stream) : Nat :=
  if streamUsed d s then
    (streamShape d s).1 * ceilDiv (streamShape d s).2 (fmtPerBeat (streamFmt d s)) * d.batch
  else 0

/-- The member, the line, the position of a beat's first element, and how many elements it carries (R383). -/
def beatPlace (d : Desc) (s : Stream) (i : Nat) : Nat × Nat × Nat × Nat :=
  let (lines, len) := streamShape d s
  let per := fmtPerBeat (streamFmt d s)
  let bpl := ceilDiv len per
  let g := i / (lines * bpl)
  let r := i % (lines * bpl)
  let pos := (r % bpl) * per
  (g, r / bpl, pos, min per (len - pos))

/-- One element of a beat: member, row and column index in its operand, encoding and scale byte.
For A the indices are (i, k), for B (k, j), for C (i, j); SUM's inputs are (t, j) on A. -/
structure Elem where
  g : Nat
  r : Nat
  c : Nat
  bits : Nat
  scale : Nat
deriving DecidableEq, Repr

/-- Whether a stream's lines run over the operand's second index. -/
def lineSecond (d : Desc) : Stream → Bool
  | .a => clsDot d.cls && d.aM
  | .b => clsDot d.cls && !d.bN
  | .c => clsDot d.cls && d.cM

/-- The elements of beat `i` of a stream (R383). -/
def beatElems (d : Desc) (s : Stream) (i : Nat) (data : Beat) (scale : Word) : List Elem :=
  let (g, line, pos, cnt) := beatPlace d s i
  let w := fmtBits (streamFmt d s)
  (upto cnt).map fun e =>
    let bits := (data.toNat / 2 ^ (w * e)) % 2 ^ w
    let sc := (scale.toNat / 2 ^ (8 * (e / 32))) % 256
    if lineSecond d s then ⟨g, pos + e, line, bits, sc⟩ else ⟨g, line, pos + e, bits, sc⟩

/-- The operation identity packed as op (R98). -/
def opIdent (d : Desc) : Nat :=
  ((d.ctx * 2 ^ 32) % 2 ^ 64) ^^^ ((d.tag * 2 ^ 16) % 2 ^ 64) ^^^ (d.mb % 2 ^ 64)

/-- The grain index packed as idx (R98). -/
def grainIdx (g i j : Nat) : Nat := (g % 2 ^ 16) * 2 ^ 48 + (i % 2 ^ 24) * 2 ^ 24 + (j % 2 ^ 24)

/-- The selector (R98). -/
def pipSelect (k0 k1 op idx : Word) : Word :=
  let x := op ^^^ k0
  let x := (x ^^^ (x >>> 31)) * (0xA3B195C27D4E61F7 : Word)
  let x := x ^^^ idx ^^^ k1
  let x := (x ^^^ (x >>> 29)) * (0xD6E82F0B93C54A1D : Word)
  x ^^^ (x >>> 32)

/-- One word folded into a signature register (R107). -/
def foldSig (s w : Word) : Word :=
  (s <<< 1) ^^^ (if bitOf s 63 then (0x42F0E1EBA9EA3693 : Word) else 0) ^^^ w

/-- A list of words folded in order. -/
def foldSigs (s : Word) (ws : List Word) : Word := ws.foldl foldSig s

/-- A beat folded as its sixteen words, low word first (R107). -/
def foldBeat (s : Word) (data : Beat) : Word :=
  foldSigs s ((upto 16).map fun i => BitVec.ofNat 64 (data.toNat / 2 ^ (64 * i)))

/-- The effective precision of the bounded form (R45). -/
def boundPrec (c : Contract) : Nat := min (fmtPrec (cFmtAcc c)) (fmtPrec (cFmtC c))

/-- K′ of the bounded form (R45). -/
def boundK (c : Contract) (k : Nat) : Nat := if fmtPrec (cFmtC c) ≥ fmtPrec (cFmtAcc c) then k else k + 1

/-- The WIDE_K condition K′ × 2^(−p) > 2^(−6) (R48). -/
def wideK (p k' : Nat) : Bool := decide (k' * 2 ^ 6 > 2 ^ p)

/-- BOUND_SCALE × K′ × 2^(−p) × S, binary32 rounded upward at every operation (R45). -/
def boundOf (c : Contract) (k' : Nat) (s : Fl) : Fl :=
  let x := r32 2 (flMul (cBound c) (r32 2 (flInt k' 0)))
  let y := r32 2 (flMul x (flInt 1 (-(boundPrec c : Int))))
  r32 2 (flMul y s)

/-- The comparison of R46: MISMATCH where d_lo − e_hi > B or e_lo − d_hi > B, exactly. -/
def boundFails (dlo dhi elo ehi b : Fl) : Bool :=
  flLt b (flAdd 0 dlo (flNeg ehi)) || flLt b (flAdd 0 elo (flNeg dhi))

/-- A quantity of the residue unit: a residue in the exact form; a binary32 interval and magnitude sum in the bounded
form (R64, R45, R46, R72). -/
structure Quant where
  r : Nat := 0
  lo : Fl := flZero
  hi : Fl := flZero
  mag : Fl := flZero
deriving DecidableEq, Repr

/-- An element as a quantity; none where it receives no residue (R67). -/
def quantOf (exact : Bool) (v : Fl) : Option Quant :=
  if !(flFinite v) then none
  else if exact then (resFl v).map fun r => { r := r }
  else some { lo := r32 3 v, hi := r32 2 v, mag := r32 2 (flAbs v) }

/-- The sum of two quantities (R64, R46). -/
def quantAdd (exact : Bool) (x y : Quant) : Quant :=
  if exact then { r := (x.r + y.r) % resP }
  else { lo := r32 3 (flAdd 3 x.lo y.lo), hi := r32 2 (flAdd 2 x.hi y.hi), mag := r32 2 (flAdd 2 x.mag y.mag) }

/-- The product of two quantities that are not NaN; an infinite end times zero is zero. [DESIGN CHOICE, log entry 21] -/
def flMulZ (x y : Fl) : Fl :=
  match flMul x y with
  | .nan => flZero
  | v => v

/-- The lesser of two values. -/
def flMin (a b : Fl) : Fl := if flLt b a then b else a
/-- The greater of two values. -/
def flMax (a b : Fl) : Fl := if flLt a b then b else a

/-- The product of a reduced quantity and a MAC-side element (R45, R46, R64). -/
def quantMul (exact : Bool) (x y : Quant) : Quant :=
  if exact then { r := (x.r * y.r) % resP }
  else
    let ps := [flMulZ x.lo y.lo, flMulZ x.lo y.hi, flMulZ x.hi y.lo, flMulZ x.hi y.hi]
    let mn := ps.foldl flMin (ps.headD flZero)
    let mx := ps.foldl flMax (ps.headD flZero)
    { lo := r32 3 mn, hi := r32 2 mx, mag := r32 2 (flMulZ x.mag y.mag) }

/-- The outcome of a pip (R55). -/
inductive PipOut where
  | agree | within | mismatch | undecidable
deriving DecidableEq, Repr

/-- An exact sum of finite values as (m, e). -/
def exactSum (vs : List Fl) : Fl := vs.foldl (fun s v => flAdd 0 s v) flZero

/-- The exponent of the lowest set bit of a finite non-zero value. -/
def lowBitExp : Fl → Option Int
  | .fin _ m e => if m = 0 then none else some (e + ((upto (Nat.log2 m + 1)).find? (fun i => nbit m i)).getD 0)
  | _ => none

/-- Whether a value needs a bit above weight 2^(L + 318) (R54). -/
def beyondWindow (l : Int) : Fl → Bool
  | .fin _ m e => !(dyLt m e 1 (l + 319))
  | _ => true

/-- The 320-bit window is exceeded by a product or a partial sum (R54). [DEDUCED, log entry 160] -/
def windowExceeded (ps : List Fl) : Bool :=
  match (ps.filterMap lowBitExp) with
  | [] => false
  | x :: r =>
    let l := r.foldl min x
    let sums := ps.foldl (fun (acc : Fl × Bool) p =>
      let s := flAdd 0 acc.1 p
      (s, acc.2 || beyondWindow l p || beyondWindow l s)) (flZero, false)
    sums.2

/-- A subnormal binary operand reads as zero under DAZ (R42). -/
def dazOperand (daz : Bool) (fmt : Nat) (v : Fl) : Fl :=
  match v with
  | .fin n m e =>
    if daz && fmtBin fmt && dyLt m e 1 (fmtGrid fmt).emin then .fin n 0 0 else .fin n m e
  | _ => v

/-- One rounding to the accumulation format (R42). -/
def rndAcc (c : Contract) (x : Fl) : Fl :=
  roundTo (fmtGrid (cFmtAcc c)) 0 (cRound c) (cSat c) (cFtz c) x

/-- One leaf of the ordered procedure (R42). -/
def orderedLeaf (c : Contract) : List Fl → Fl
  | [] => flZero
  | p :: ps => ps.foldl (fun s x =>
      if cFused c then rndAcc c (flAdd (cRound c) s x)
      else rndAcc c (flAdd (cRound c) s (rndAcc c x))) (rndAcc c p)

/-- Cut a list into pieces of `n`, with fuel. -/
def chunks {α : Type} (n : Nat) : Nat → List α → List (List α)
  | 0, _ => []
  | _, [] => []
  | f + 1, l => l.take n :: chunks n f (l.drop n)

/-- Adjacent pairs summed, an odd one passed up unchanged (R42). -/
def pairUp (c : Contract) : List Fl → List Fl
  | x :: y :: r => rndAcc c (flAdd (cRound c) x y) :: pairUp c r
  | l => l

/-- The tree of R42, with fuel. -/
def treeUp (c : Contract) : Nat → List Fl → Fl
  | 0, l => l.headD flZero
  | f + 1, l => match l with
    | [] => flZero
    | [x] => x
    | l => treeUp c f (pairUp c l)

/-- The ordered emulation (R42). -/
def orderedResult (c : Contract) (ps : List Fl) : Fl :=
  let n := ps.length
  let leaf := if cOrder c == 1 then max n 1 else 2 ^ cLeaf c
  let parts := (chunks leaf (n + 1) ps).map (orderedLeaf c)
  roundTo (fmtGrid (cFmtC c)) 0 (cRound c) (cSat c) (cFtz c) (treeUp c (n + 1) parts)

/-- The magnitude sum Σ |a||b| of a pip's products. -/
def magSum (ps : List Fl) : Fl := exactSum (ps.map flAbs)

/-- BOUND_SCALE × K′ × 2^(−p) as an exact value. -/
def boundFactor (c : Contract) (k : Nat) : Fl :=
  flMul (flMul (cBound c) (flInt (boundK c k) 0)) (flInt 1 (-(boundPrec c : Int)))

/-- The pip outcome under BOUNDED (R49). [DEDUCED, log entry 158] -/
def pipBounded (c : Contract) (k : Nat) (ps : List Fl) (h : Fl) : PipOut :=
  let rhs := r32 2 (flMul (boundFactor c k) (magSum ps))
  if !(flFinite h) then
    (if cSat c then .mismatch
     else
       let gsum := r32 2 (flMul (magSum ps) (flAdd 0 (flInt 1 0) (boundFactor c k)))
       let ga := fmtGrid (cFmtAcc c); let gc := fmtGrid (cFmtC c)
       let lim := flMin (.fin false ga.maxM ga.maxE) (.fin false gc.maxM gc.maxE)
       if flLt gsum lim then .mismatch else .undecidable)
  else if !(flFinite rhs) then .undecidable
  else if flLt rhs (flAbs (flAdd 0 h (flNeg (exactSum ps)))) then .mismatch else .within

/-- The result format's grid scale: the exponent of an MX result block, 0 otherwise, and where the block's scale is NaN (R51). [DESIGN CHOICE, log entry 169] -/
def resScale (fmt scale : Nat) : Int := if fmtMX fmt then (scaleExp scale).getD 0 else 0

/-- The pip outcome of one ULP element (R52): `exact` where the reference unit computes ρ itself. [DESIGN CHOICE, log entry 13] -/
def pipUlp (c : Contract) (exact : Bool) (scale : Nat) (r h : Fl) : PipOut :=
  let g := fmtGrid (cFmtC c)
  let sx := resScale (cFmtC c) scale
  let n := cUlpN c
  let rnd := roundTo g sx (cRound c) (cSat c) (cFtz c)
  let ue := ulpExp g sx r
  if flFinite r && n == 0 then
    let band := if exact then flZero else .fin false 1 (ue - 10)
    let lo := if exact then rnd r else rnd (flAdd 0 r (flNeg band))
    let hi := if exact then rnd r else rnd (flAdd 0 r band)
    if flSame lo hi then (if flSame lo h then .agree else .mismatch) else .undecidable
  else if flFinite r && flFinite h then
    let dist := flAbs (flAdd 0 h (flNeg r))
    let inner := flInt ((n : Int) * 2 ^ 10 - 1) (ue - 10)
    let outer := flInt ((n : Int) * 2 ^ 10 + 1) (ue - 10)
    if !(flLt inner dist) then .agree else if flLt outer dist then .mismatch else .undecidable
  else
    match r, h with
    | .nan, .nan => .agree
    | .inf a, .inf b => if a == b then .agree else .mismatch
    | .fin a m e, .inf b =>
      let lim := flAdd 0 (.fin false g.maxM (g.maxE + sx)) (flInt (-(n : Int)) ue)
      if n ≥ 1 && !(cSat c) && a == b && !(flLt (.fin false m e) lim) then .agree else .mismatch
    | _, _ => .mismatch

/-- The pip outcome of one element whose exact result is `rho` to within 2^-20 ulp, where the reference unit's r lies `err` × 2^-30 ulp
from it, kept within the bound of R52. An outcome that every r within the bound gives is the outcome. [DESIGN CHOICE, log entry 13] -/
def pipUlpNear (c : Contract) (scale : Nat) (rho h : Fl) (err : Int) : PipOut :=
  let g := fmtGrid (cFmtC c)
  let sx := resScale (cFmtC c) scale
  let ue := ulpExp g sx rho
  let off (k : Int) : Fl := flAdd 0 rho (flInt k (ue - 30))
  let lim : Int := 2 ^ 20 - 2 ^ 10
  let free := pipUlp c false scale (off (max (-lim) (min lim err))) h
  let lo := off (-(2 ^ 20)); let hi := off (2 ^ 20)
  if cUlpN c == 0 then
    let rnd (k : Int) : Fl := roundTo g sx (cRound c) (cSat c) (cFtz c) (off k)
    if flSame (rnd (-(2 ^ 21))) (rnd (2 ^ 21)) then (if flSame (rnd 0) h then .agree else .mismatch) else free
  else if flFinite h then
    let dl := flAbs (flAdd 0 h (flNeg lo)); let dh := flAbs (flAdd 0 h (flNeg hi))
    let inner := flInt ((cUlpN c : Int) * 2 ^ 10 - 1) (min (ulpExp g sx lo) (ulpExp g sx hi) - 10)
    let outer := flInt ((cUlpN c : Int) * 2 ^ 10 + 1) (max (ulpExp g sx lo) (ulpExp g sx hi) - 10)
    if !(flLt inner dl) && !(flLt inner dh) then .agree
    else if flLt outer dl && flLt outer dh && (flLt h lo || flLt hi h) then .mismatch
    else free
  else if pipUlp c false scale lo h == pipUlp c false scale hi h then pipUlp c false scale lo h
  else free

/-- The outcome of one element `h` of an elementwise class (R52, R71): ADD, MUL and FMA are computed exactly; the others
to within the unit's bound. [DESIGN CHOICE, log entry 13] [PRESUMED, log entry 14] -/
def ulpOutcome (c : Contract) (cls idx : Nat) (row : List Fl) (x b d : Fl) (eps scale : Nat) (h : Fl) : PipOut :=
  match cls with
  | 0x10 => pipUlp c true scale (flAdd (cRound c) x b) h
  | 0x11 => pipUlp c true scale (flMul x b) h
  | 0x12 => pipUlp c true scale (flAdd (cRound c) (flMul x b) d) h
  | _ =>
    let e := f32 eps
    match ulpValue cls row x b d e with
    | some v => if flFinite v then pipUlpNear c scale v h (Config.ulpError cls idx row x b d e) else pipUlp c true scale v h
    | none => pipUlp c true scale (Config.ulpUnstated cls idx row x b d e) h

/-- The mismatch-first combination of a row fragment's elements (R105). -/
def pipCombine (l : List PipOut) : PipOut :=
  if l.contains .mismatch then .mismatch else if l.contains .undecidable then .undecidable
  else if l.contains .within then .within else .agree

end Sys2Proof.Machine
end

