-- ==== Sys2Proof/Machine/StTap.lean ====
section
/-! DEFINITION. State of the taps and of a checker tile: the shell's descriptor state of a host tile, the residue
unit, the reference unit, the signatures, the arbitration of a host position, the hang watch, the tile's counters and
event ring (R70–R128, R275–R279, R380–R387, R473–R478). -/
namespace Sys2Proof.Machine

/-- A screening level (R234). -/
inductive Level where
  | off | sentry | sample | audit | quarantine
deriving DecidableEq, Repr

/-- Causes of unscreened elements and of skipped pips, in the order of STEP_COV_CAUSE (R123). -/
inductive Cause where
  | declared | contract | drop | deficit | order | workset | statMiss | carryMiss | wideK | nonfinite
  | incomplete | rowLimit | loading | collIncomplete | noResidue
  | pipIncomplete | captureLimit | captureBusy | backlog | pipDrop
deriving DecidableEq, Repr

/-- The index c of a cause (R123). -/
def causeIdx : Cause → Nat
  | .declared => 0 | .contract => 1 | .drop => 2 | .deficit => 3 | .order => 4 | .workset => 5
  | .statMiss => 6 | .carryMiss => 7 | .wideK => 8 | .nonfinite => 9 | .incomplete => 10
  | .rowLimit => 11 | .loading => 12 | .collIncomplete => 13 | .noResidue => 14 | .pipIncomplete => 15
  | .captureLimit => 16 | .captureBusy => 17 | .backlog => 18 | .pipDrop => 19

/-- The outcome of an operation or of its residue checks (R80, R106). -/
inductive OpOut where
  | agree | within | mismatch | unscreened
deriving DecidableEq, Repr

/-- An operation as the shell holds it while one of its streams is open (R384), with the opening of its token group,
the number of markers accepted before its descriptor, its phase, its coverage interval, whether it is a suspect's replay (R289),
and the checker that has opened it. -/
structure PortOp where
  num : Nat := 0
  desc : Desc := {}
  aCnt : Nat := 0
  bCnt : Nat := 0
  cCnt : Nat := 0
  aOpen : Bool := true
  bOpen : Bool := true
  cOpen : Bool := true
  gen : Nat := 0
  run : Nat := 0
  mark : Nat := 0
  phase : Nat := 0
  interval : Nat := 0
  suspect : Bool := false
  checker : Option Nat := none
deriving DecidableEq, Repr

/-- The shell's tap port of one host tile (R380–R387). -/
structure Port where
  words : List Word := []
  num : Nat := 0
  opn : List PortOp := []
  rstReq : Bool := false
  rstAck : Bool := false
deriving DecidableEq, Repr

/-- The identity of an operation: context, tag, micro-batch (R96). -/
structure OpId where
  ctx : Nat := 0
  tag : Nat := 0
  mb : Nat := 0
deriving DecidableEq, Repr

/-- One check of an operation: the reference and observed quantities and what it lost (R68, R79); `cut` says that an early close
left it without elements (R76, R222). -/
structure Check where
  ref : Quant := {}
  obs : Quant := {}
  nonfinite : Bool := false
  order : Bool := false
  dropped : Bool := false
  deficit : Bool := false
  expBad : Bool := false
  cut : Bool := false
deriving DecidableEq, Repr

/-- A stationary or carried entry of the residue store (R72–R75), for the work of host tile `host`. `cnt`
counts the elements still due for each index; an append takes the rows from `kmin` and the columns from `jmin` on. `bases` are
the entries that were being built when this one extended them, whose elements it takes too. `kept` says that it has its space in
the store (R73); `con` and `w0` are the number and word 0 of the contract it was created under, and `stale` says that that record
is gone or changed (R340). `heir` is the entry that has taken its place in the store (R74, R75). [DEDUCED, log entry 30] -/
structure StoreKey where
  id : Nat := 0
  host : Nat := 0
  ctx : Nat := 0
  tag : Nat := 0
  carried : Bool := false
  rowForm : Bool := true
  exact : Bool := true
  dimK : Nat := 0
  dimM : Nat := 0
  dimN : Nat := 0
  vals : SMap Quant := []
  cnt : SMap Nat := []
  resident : Bool := true
  kept : Bool := true
  tainted : Bool := false
  lastUse : Nat := 0
  kmin : Nat := 0
  jmin : Nat := 0
  bases : List Nat := []
  con : Nat := 0
  w0 : Word := 0
  stale : Bool := false
  heir : Option Nat := none
deriving DecidableEq, Repr

/-- An operation as a checker screens it. `run` is the run of the step engine its work belongs to, `mark` the number of
markers accepted before its descriptor, `interval` its coverage interval, `gen` the opening of its token group, `round` whether the run is an arbitration's
round (R117), `suspect` whether it is a suspect's replay (R289). `cause` is the cause that leaves the whole operation without a residue
check. -/
structure Op where
  uid : Nat := 0
  host : Nat := 0
  num : Nat := 0
  desc : Desc := {}
  contract : Option Contract := none
  level : Level := .off
  replay : Bool := false
  phase : Nat := 0
  asNeighbour : Bool := false
  round : Bool := false
  suspect : Bool := false
  run : Nat := 0
  mark : Nat := 0
  interval : Nat := 0
  gen : Nat := 0
  cause : Option Cause := none
  rowForm : Bool := false
  exact : Bool := true
  runsResidue : Bool := false
  work : Nat := 0
  key : Option Nat := none
  builds : Option Nat := none
  waitsOn : Option Nat := none
  red : SMap Quant := []
  redCnt : SMap Nat := []
  redBad : Bool := false
  redDrop : Bool := false
  checks : SMap Check := []
  orderRaised : Bool := false
  lostB : Bool := false
  lostC : Bool := false
  lostA : Bool := false
  sigInc : Bool := false
  cut : Option Cause := none
  cutAll : Bool := false
  sigD : Word := 0
  sigA : Word := 0
  sigB : Word := 0
  sigC : Word := 0
  done : Bool := false
  closed : Bool := false
  residue : OpOut := .unscreened
  pipAgree : Bool := false
  pipWithin : Bool := false
  pipMismatch : Bool := false
  forcedSkipped : Bool := false
deriving DecidableEq, Repr

/-- The grain of a pip (R96). -/
structure Grain where
  g : Nat := 0
  i : Nat := 0
  j : Nat := 0
deriving DecidableEq, Repr

/-- Where a pip stands: selected, capturing, runnable in the queue. -/
inductive PipState where
  | selected | capturing | runnable
deriving DecidableEq, Repr

/-- A pip: its operation, grain and captured elements, each as (index, encoding, scale) (R101). -/
structure Pip where
  op : Nat := 0
  grain : Grain := {}
  forced : Bool := false
  st : PipState := .selected
  capA : List (Nat × Nat × Nat) := []
  capB : List (Nat × Nat × Nat) := []
  capC : List (Nat × Nat × Nat) := []
deriving DecidableEq, Repr

/-- A register that holds its oldest unconsumed record (R92): the record words, whether one is held, its sequence
number, and the records missed since the last consumption. -/
structure Held where
  valid : Bool := false
  seq : Nat := 0
  missed : Nat := 0
  w0 : Word := 0
  w1 : Word := 0
  time : Word := 0
deriving DecidableEq, Repr

/-- A checker tile (R72, R90, R102, R107, R111, R125). -/
structure Checker where
  ops : List Op := []
  store : List StoreKey := []
  pips : List Pip := []
  runq : List (Nat × Grain × Bool) := []
  backlog : Nat := 0
  nextUid : Nat := 1
  nextKey : Nat := 1
  useClock : Nat := 0
  flushGen : Nat := 0
  deficit : Bool := false
  orderFault : Bool := false
  storeFull : Bool := false
  res : Held := {}
  pip : Held := {}
  skipped : Bool := false
  keyGen : Nat := 0
  sigTag : Word := 0
  sigD : Word := 0
  sigA : Word := 0
  sigB : Word := 0
  sigC : Word := 0
  sigSeq : Nat := 0
  phaseSig : Word := 0
  phaseOps : Nat := 0
  phaseInc : Bool := false
deriving DecidableEq, Repr

/-- Arbitration states (R117). -/
inductive ArbState where
  | idle | waitReplay | waitSolo | round2 | selfTest
deriving DecidableEq, Repr

/-- An operation of an arbitration: its identity, whether it is in the arbitrated set, the elements forced, and what each
checker found in the round; `held` lists its outcomes held until the conclusion, each with its group opening and coverage interval (R117). -/
structure ArbItem where
  id : OpId := {}
  inSet : Bool := true
  suspect : Bool := false
  forced : List Grain := []
  phase : Nat := 0
  gen : Nat := 0
  held : List (Nat × Nat) := []
  x : Option OpOut := none
  y : Option OpOut := none
deriving DecidableEq, Repr

/-- The arbitration of one host position (R116–R119, ARB_STATUS of R125). `skipRun` is the run that raised it, `rounds`
the replay runs that served as rounds, the current one first. `tested` says that the self-test it has ordered has ended and
decided nothing (R215). -/
structure Arb where
  state : ArbState := .idle
  x : Nat := 0
  nbr : Nat := 0
  nbrValid : Bool := false
  suspect : Nat := 0
  items : List ArbItem := []
  skipRun : Nat := 0
  rounds : List Nat := []
  tested : Bool := false
  times : List Nat := []
  seq : Nat := 0
  last : Nat := 0
deriving DecidableEq, Repr

/-- A suspect of a hung tile: a context, and its result as HANG_SUSPECT encodes it (R277, R287). -/
structure Suspect where
  ctx : Nat := 0
  result : Nat := 0
deriving DecidableEq, Repr

/-- The hang watch of one host tile (R275–R278). -/
structure Watch where
  on : Bool := false
  beacon : Nat := 0
  suspects : List Suspect := []
  overflow : Bool := false
  hung : Bool := false
  hungSeq : Option Nat := none
deriving DecidableEq, Repr

/-- An entry of a tile's event ring (R476): four words. -/
structure RingEntry where
  w0 : Word := 0
  w1 : Word := 0
  w2 : Word := 0
  w3 : Word := 0
deriving DecidableEq, Repr

/-- The counters and the event ring of one tile (R473–R478). -/
structure Obs where
  counts : SMap Nat := []
  tag : Nat := 0
  running : Bool := true
  ring : List RingEntry := []
  written : Nat := 0
  lost : Nat := 0
  frozen : Bool := false
deriving DecidableEq, Repr

end Sys2Proof.Machine
end

