-- ==== Sys2Proof/Machine/StStep.lean ====
section
/-! DEFINITION. State of the step engine: markers and phases, requirement, journal, epoch, vote and decision, token
gate, certificate, coverage and collective conservation (R84–R87, R122–R124, R129–R175). -/
namespace Sys2Proof.Machine

/-- Step phases (R134). -/
inductive Phase where
  | idle | fwd | bwd | exch | upd | vote | commit | hold
deriving DecidableEq, Repr

/-- The code of a phase in STEP_STATUS.PHASE. -/
def phaseCode : Phase → Nat
  | .idle => 0 | .fwd => 1 | .bwd => 2 | .exch => 3 | .upd => 4 | .vote => 5 | .commit => 6 | .hold => 7

/-- The pending requirement (R148, R149). `point`: 0 none, 1 MICRO_BATCH, 2 BWD, 3 EXCH, 4 STEP, 5 ROLLBACK. -/
structure Req where
  point : Nat := 0
  audit : Bool := false
  mbs : List Nat := []
  reason : Nat := 0
deriving DecidableEq, Repr

/-- A signature entry of the journal (R113, R138). -/
structure SigEntry where
  logical : Nat := 0
  id : OpId := {}
  incA : Bool := false
  incB : Bool := false
  incC : Bool := false
  d : Word := 0
  a : Word := 0
  b : Word := 0
  c : Word := 0
  replayNo : Nat := 0
deriving DecidableEq, Repr

/-- A COLL entry of the journal: a CONTRIB report (R87, R138). -/
structure CollEntry where
  coll : Nat := 0
  chunk : Nat := 0
  repl : Nat := 0
  res : Nat := 0
  lo : Nat := 0
  hi : Nat := 0
deriving DecidableEq, Repr

/-- What a journal record carries (R138), before encryption. -/
inductive JPay where
  | words (ws : List Word)
  | sigs (l : List SigEntry)
  | colls (l : List CollEntry)
deriving DecidableEq, Repr

/-- A journal record (R137, R138). -/
structure JRec where
  type : Nat := 0
  replay : Bool := false
  mb : Nat := 0
  step : Nat := 0
  seq : Nat := 0
  replayNo : Nat := 0
  pay : JPay := .words []
deriving DecidableEq, Repr

/-- A journal slot (R136, R139). `bytes` is the space its records and undo pages take. -/
structure Slot where
  used : Bool := false
  step : Nat := 0
  recs : List JRec := []
  recBytes : Nat := 0
  undoPages : List Word := []
  committed : Bool := false
  checked : Bool := false
deriving DecidableEq, Repr

/-- A notice that is being read for its MICRO_BATCH record (R138), with the run of its FWD marker. -/
structure NoticeRead where
  mb : Nat := 0
  step : Nat := 0
  replay : Bool := false
  replayNo : Nat := 0
  run : Nat := 0
  bytes : List Byte := []
deriving DecidableEq, Repr

/-- The journal (R136–R140), of the job whose journal key is held. The slots and header copies are what host memory holds of it. -/
structure Journal where
  job : Nat := 0
  seq : Nat := 0
  slots : SMap Slot := []
  hdrOpen : Option JRec := none
  hdrDecision : Option JRec := none
  hdrEpoch : Option JRec := none
  sigPend : List SigEntry := []
  collPend : List CollEntry := []
  notices : List NoticeRead := []
deriving DecidableEq, Repr

/-- A vote message (R151). -/
structure Vote where
  job : Nat := 0
  step : Nat := 0
  replayNo : Nat := 0
  fromPos : Nat := 0
  nClean : Nat := 0
  nSuspect : Nat := 0
  nNonfinite : Nat := 0
  nFailed : Nat := 0
  nAbsent : Nat := 0
  nfReproAll : Bool := true
  point : Nat := 0
  z : Nat := 0
  firstChip : Nat := 0
  worst : Nat := 0
deriving DecidableEq, Repr

/-- A decision (R155, R156): 0 COMMIT, 1 ABORT, 2 HOLD, 3 MODEL_NONFINITE, 4 HALT. The last three fields are the totals of
the vote that STEP_VOTE_STATS shows. -/
structure Decision where
  job : Nat := 0
  step : Nat := 0
  replayNo : Nat := 0
  kind : Nat := 0
  point : Nat := 0
  audit : Bool := false
  fromBackup : Bool := false
  backup : Bool := false
  nAbsent : Nat := 0
  nNonClean : Nat := 0
  firstChip : Nat := 0
deriving DecidableEq, Repr

/-- The votes of one run on one tree, as this node holds them: its own, its children's, whether the timer of R153 runs and
whether it has passed, and whether the node has voted or decided. -/
structure Tally where
  own : Option Vote := none
  children : List Vote := []
  timer : Bool := false
  late : Bool := false
  sent : Bool := false
deriving DecidableEq, Repr

/-- A COLL report (R84); `zero` is bits [319:274] (R392). -/
structure Report where
  coll : Nat := 0
  chunk : Nat := 0
  kind : Nat := 0
  inputs : Nat := 0
  contract : Nat := 0
  repl : Nat := 0
  count : Nat := 0
  res : Nat := 0
  resDecl : Nat := 0
  sumLo : Nat := 0
  sumHi : Nat := 0
  mag : Nat := 0
  zero : Nat := 0
deriving DecidableEq, Repr

/-- The fields of a marker beside its code (R393): step_replay, step_mb, step_arg. -/
structure MarkItem where
  replay : Bool := false
  mb : Nat := 0
  arg : Nat := 0
deriving DecidableEq, Repr

/-- The fields of a BWD marker beside its code and its micro-batch (R393). -/
structure MarkArg where
  replay : Bool := false
  arg : Nat := 0
deriving DecidableEq, Repr

/-- The fields of a gradient-norm scalar (R393): step_mb, step_arg. -/
structure ScalarItem where
  mb : Nat := 0
  arg : Nat := 0
deriving DecidableEq, Repr

/-- A chain of reports of one COLL_ID and CHUNK (R85): those not yet consumed, the most recent one that carries a value,
whether no SENT or FINAL has followed it, and how many CONTRIB reports it has had. -/
structure Chain where
  coll : Nat := 0
  chunk : Nat := 0
  pending : List Report := []
  last : Option Report := none
  open_ : Bool := false
  contribs : Nat := 0
deriving DecidableEq, Repr

/-- Counts of a coverage interval `no`: the thirteen counts of partition p at 16p + i, the causes, the undecidable pips of
each contract, the partitions with a concluded CHECKER_FAULT (R55, R122, R123). -/
structure Cov where
  counts : SMap Nat := []
  causes : SMap Nat := []
  undecidable : SMap Nat := []
  chkFault : Nat := 0
  replay : Bool := false
  decode : Bool := false
  step : Nat := 0
  no : Nat := 0
deriving DecidableEq, Repr

/-- A token held at the gate, with the opening of its group it belongs to; `decided` is its
outcome, true for a release, once it has one (R167–R170, R395). -/
structure Token where
  group : Nat := 0
  tag : Nat := 0
  gen : Nat := 0
  decided : Option Bool := none
deriving DecidableEq, Repr

/-- An outcome offered on TOKEN_GATE (R395). -/
structure TokenOut where
  group : Nat := 0
  tag : Nat := 0
  released : Bool := false
  timedOut : Bool := false
deriving DecidableEq, Repr

/-- One opening of a token group, by its FWD marker or by a replay of it (R167, R169). `bad`: a MISMATCH, a late
descriptor, or a discard. -/
structure GateGen where
  id : Nat := 0
  group : Nat := 0
  presented : Bool := false
  bad : Bool := false
deriving DecidableEq, Repr

/-- The token gate (R167–R170). -/
structure Gate where
  held : List Token := []
  out : List TokenOut := []
  gens : List GateGen := []
  nextGen : Nat := 1
  closed : Bool := false
  discarded : Nat := 0
  lastGroup : Nat := 0
  released : Nat := 0
deriving DecidableEq, Repr

/-- The certificate unit (R171). `bytes` is what has been read of the list or of the current shard; `digests` those of the
shards before it; `listed` is set once the list has been read, `writing` once the certificate is on its way; `cov` is the COVERAGE record of the
step, `covDigest` the digest of it as it was written, `job` the job. -/
structure Cert where
  busy : Bool := false
  done : Bool := false
  failed : Bool := false
  listed : Bool := false
  writing : Bool := false
  shards : List (Word × Word) := []
  digests : List Nat := []
  step : Nat := 0
  epochSel : Nat := 0
  bytes : List Byte := []
  cov : Option JRec := none
  covDigest : Nat := 0
  job : Nat := 0
deriving DecidableEq, Repr

/-- The vote, decision and arbiter state of the chip (R150–R162). `arb` and `bak` are the ranks taken at the entry into
VOTE (R339), `tree` and `reTree` the votes on the trees rooted at them; `pend` is a decision that waits for the backup,
`recorded` those kept for the last two steps, `answered` the runs whose re-votes have been answered (R159); `voted` holds from the verdict of a run to the
start of the next, `decision` is that of the current run, `last` the latest one; `ranks` holds one more than each entry read of the rank table, `rankReq` the
granules of it asked for, `fwd` decisions that wait for entries; `mute`: a read the vote needs has been abandoned (R323). -/
structure VoteState where
  verdict : Option Nat := none
  voted : Bool := false
  point : Nat := 0
  reason : Nat := 0
  nfRepro : Bool := false
  arb : Nat := 0
  bak : Nat := 0
  tree : Tally := {}
  reTree : Tally := {}
  revoted : Bool := false
  pend : Option Decision := none
  recorded : List Decision := []
  answered : List (Nat × Nat) := []
  decision : Option Decision := none
  last : Option Decision := none
  skipDone : Bool := false
  nAbsent : Nat := 0
  nNonClean : Nat := 0
  firstChip : Nat := 0
  ranks : SMap Nat := []
  rankReq : List Nat := []
  fwd : List Decision := []
  mute : Bool := false
deriving DecidableEq, Repr

/-- A replay run (R130): its number as a run, its point, whether a decision ordered it, its replay number, the micro-batches it may and did mark FWD, those
it marked BWD, its own phase where it runs within the step; what its work found: a failure, and in a non-finite replay
(`nf`) a signature difference, an uncompared signature, the diverging tiles, the flag again (R149, R165). -/
structure Run where
  id : Nat := 0
  point : Nat := 0
  job : Bool := false
  replayNo : Nat := 0
  listed : List Nat := []
  mbs : List Nat := []
  bwd : List Nat := []
  phase : Phase := .idle
  bad : Bool := false
  nf : Bool := false
  diff : Bool := false
  uncomp : Bool := false
  tiles : List Nat := []
deriving DecidableEq, Repr

/-- The step engine. `base` is the phase of the step's own flow, `cur` the replay run in progress, `runs` the replay runs
that have ended and are not yet judged; `runId` numbers runs, `marks` accepted markers; `sigPhase` is the phase of the phase
signatures, `sigMark` the number of the marker that began them (R111); `replayNo` counts the runs of the step;
`jnlBad`: a record of the run is missing from the journal (R140); `demoted` is the run whose LEVEL_DEMOTED is posted (R242);
`recovering`: 1 the arbiter is asked, 2 the backup, 3 pages are restored (R162); `nfRun` is the judged non-finite replay;
`halted`: 1 under R160, 2 under R161, 3 under R166; `axMode` and `axUndo` are JOB_MODE and COMMIT_STYLE as the last arm set the axes
(R234); `commitLeft` is how many journal writes a COMMIT still waits for (R140). In DECODE `fwdNext` counts groups on from FIRST_STEP. -/
structure Step where
  config : Word := 0
  job : Nat := 0
  number : Nat := 0
  firstStep : Nat := 0
  armed : Bool := false
  halted : Nat := 0
  commitClosed : Bool := false
  phase : Phase := .idle
  replay : Bool := false
  base : Phase := .idle
  fwdNext : Nat := 0
  bwdSet : List Nat := []
  cur : Option Run := none
  runs : List Run := []
  runId : Nat := 0
  marks : Nat := 0
  sigPhase : Nat := 0
  sigMark : Nat := 0
  replayNo : Nat := 0
  runForced : Bool := false
  nfNext : Bool := false
  nfRun : Option Run := none
  jnlBad : Bool := false
  demoted : Nat := 0
  recovering : Nat := 0
  joined : Bool := false
  nfRepro : Bool := false
  mb : Nat := 0
  opened : Bool := false
  req : Req := {}
  hostFault : Bool := false
  conflict : Bool := false
  lossBits : Nat := 0
  gradBits : Nat := 0
  gradSeen : Bool := false
  nonfinite : Bool := false
  epochSel : Nat := 0
  epochStep : Nat := 0
  epochValid : Bool := false
  axMode : Nat := 0
  axUndo : Bool := false
  commitLeft : Nat := 0
  updOpen : Bool := false
  updOpened : Bool := false
  updMarked : Bool := false
  undoBusy : Bool := false
  undoDone : Bool := false
  restoring : Bool := false
  undoCopied : Nat := 0
  undoRestored : Nat := 0
  undoPages : List Word := []
  undoReading : Bool := false
  undoStale : Bool := false
  undoLeft : Nat := 0
  restoreLeft : Nat := 0
deriving DecidableEq, Repr

/-- The registers of the step engine that the host writes (R173); `written` marks those of the configuration that have been
written: 1 STEP_CONFIG, 2 STEP_JNL_BASE, 4 STEP_JNL_SIZE, 8 STEP_RANK_TABLE (R175). -/
structure StepRegs where
  jnlBase : Word := 0
  jnlSize : Word := 0
  rankTable : Word := 0
  undoList : Word := 0
  certReq : Word := 0
  fetchDst : Word := 0
  written : Nat := 0
  verdict : Held := {}
  decision : Held := {}
  collMis : Held := {}
  covSeq : Nat := 0
  covValid : Bool := false
  covMissed : Nat := 0
deriving DecidableEq, Repr

/-- The whole step unit. `exchZ` and `exchChains` are the conservation word and the chains as they stood at the EXCH marker,
once the run has had one (`exchSeen`), and `exchSeq` the RECORD_SEQ the journal had reached there (R87). -/
structure StepUnit where
  eng : Step := {}
  regs : StepRegs := {}
  jnl : Journal := {}
  vote : VoteState := {}
  gate : Gate := {}
  cert : Cert := {}
  cov : Cov := {}
  covReady : List Cov := []
  covHeld : Cov := {}
  chains : List Chain := []
  z : Nat := 0
  exchSeen : Bool := false
  exchZ : Nat := 0
  exchChains : List Chain := []
  exchSeq : Nat := 0
deriving DecidableEq, Repr

end Sys2Proof.Machine
end

