-- ==== Sys2Proof/Machine/StFault.lean ====
section
/-! DEFINITION. State of the fault collector, the escalation ladder, the event recorder with its granary, the
positions of the array, the mode arbiter and the configuration loader. -/
namespace Sys2Proof.Machine

/-- A capture as a unit reports it (R259): code, access type, master, address, partition, and for the target of a rung
(R265) the context and tile; `words` are the unit's capture words (R301). -/
structure Cap where
  code : Nat := 0
  access : Nat := 0
  master : Nat := 0
  addr : Nat := 0
  part : Option Nat := none
  ctx : Option Nat := none
  tile : Option Nat := none
  words : List Word := []
deriving DecidableEq, Repr

/-- A first-error record or a history entry (R260). -/
structure FaultEntry where
  valid : Bool := false
  info : Word := 0
  addr : Word := 0
  time : Word := 0
  createdAt : Nat := 0
deriving DecidableEq, Repr

/-- A target as a capture or a command names it (R265). -/
structure Target where
  ctx : Option Nat := none
  tile : Option Nat := none
  part : Option Nat := none
deriving DecidableEq, Repr

/-- The reaction timer of a class (R263). -/
structure React where
  running : Bool := false
  expired : Bool := false
  action : Nat := 0
  target : Target := {}
  timer : Nat := 0
  start : Nat := 0
  remain : Nat := 0
deriving DecidableEq, Repr

/-- Where one of the two copies of a word of the collector is not what the collector wrote (R268): the copy, the word by its
index in `collectorWords`, the bits of the word and of its eight parity bits that have turned. [DESIGN CHOICE, log entry 149] -/
structure Flaw where
  second : Bool := false
  word : Nat := 0
  bits : Word := 0
  par : Nat := 0
deriving DecidableEq, Repr

/-- The fault collector (R256–R274). `react` holds the collector's own copy of the REACTION words; each of its words stands in
two copies, which differ from what it wrote where `flaws` says so (R268). -/
structure FaultUnit where
  seq : Nat := 0
  pending : Word := 0
  flaws : List Flaw := []
  first : FaultEntry := {}
  hist : SMap FaultEntry := []
  newest : Nat := 0
  newestKey : Option (Nat × Nat × Nat) := none
  histLost : Nat := 0
  counts : SMap Nat := []
  timers : SMap React := []
  react : List Word := []
  reactDefault : Bool := true
  irqSEn : Word := 0xFFFFFFFF00000000
  irqNsEn : Word := 0
  safe : Bool := false
  safeCause : Nat := 0
  collectorFault : Bool := false
deriving DecidableEq, Repr

/-- A request for a rung: 1 CONTEXT, 2 ENGINE, 3 PARTITION, 4 CHIP, 5 POWER (R265, R282). -/
structure RungReq where
  rung : Nat := 0
  target : Target := {}
deriving DecidableEq, Repr

/-- The escalation ladder (R280–R285). `recovery` is MODE_STATUS.RECOVERY, `rung` the rung in progress. -/
structure Ladder where
  recovery : Nat := 0
  rung : Nat := 0
  stage : Nat := 0
  target : Target := {}
  start : Nat := 0
  deferred : List RungReq := []
  engReq : Option (Nat × Nat) := none
  partReq : Option Nat := none
  chipReq : Bool := false
  pwrCyc : Bool := false
  trayWait : Bool := false
deriving DecidableEq, Repr

/-- A hung tile with its frozen suspect set (R278, R286). -/
structure Hung where
  tile : Nat := 0
  seq : Nat := 0
  suspects : List Suspect := []
  overflow : Bool := false
  no : Nat := 0
  ident : Nat := 0
deriving DecidableEq, Repr

/-- The suspect search (R286–R288): state 0 IDLE, 1 WAIT, 2 REPLAYING, 3 WAIT_ARB; result 0 none, 1 FOUND, 2 NONE,
3 ABANDONED. -/
structure Search where
  state : Nat := 0
  result : Nat := 0
  current : Nat := 0
  hung : Hung := {}
  guilty : Option Nat := none
  hangs : Nat := 0
  uncovered : List Hung := []
  queue : List Hung := []
  mismatch : Bool := false
deriving DecidableEq, Repr

/-- An index entry of a dump (R293). -/
structure DumpEntry where
  unit : Nat := 0
  time : Word := 0
  complete : Bool := false
  skipped : Bool := false
  offset : Nat := 0
deriving DecidableEq, Repr

/-- The global stop (R291–R294): state 0 none, 1 draining, 2 dumping. `marker` and `mark` are the code of the stop marker
and the number of markers accepted up to it; `frozenTiles` and `frozenUnits` have reached it. `images` holds the images
taken, by unit of the dump index; `due` are the units still to be written, `cur` the one whose image is on channel 0,
`index` the entries so far; `base` and `size` are LADDER_DUMP_BASE and LADDER_DUMP_SIZE. -/
structure Stop where
  state : Nat := 0
  crash : Bool := false
  marked : Bool := false
  marker : Nat := 0
  mark : Nat := 0
  frozenTiles : List Nat := []
  frozenUnits : List Nat := []
  images : SMap (List Word) := []
  due : List Nat := []
  cur : Option Nat := none
  index : List DumpEntry := []
  base : Word := 0
  size : Word := 0
deriving DecidableEq, Repr

/-- A record of the event recorder (R299): `content` is its ten words; a FAULT record waits for its detail (R301).
`fixedTag` is the tag of a record whose tag was formed before the granary key went (R440). -/
structure Rec where
  seq : Nat := 0
  time : Word := 0
  code : Nat := 0
  type : Nat := 0
  flags : Nat := 0
  suppressed : Nat := 0
  master : Nat := 0
  content : List Word := []
  raw : List Word := []
  detailDue : Bool := false
  fixedTag : Option Word := none
deriving DecidableEq, Repr

/-- A token bucket (R302): level in units of 10^-12 token, pending count, admitted count, block time of last refill. -/
structure Bucket where
  level : Nat := 0
  pending : Nat := 0
  admitted : Nat := 0
  at_ : Nat := 0
deriving DecidableEq, Repr

/-- The granary (R307): what eMRAM keeps through every reset; `wear` holds the eight wear words, `wearAt` counts their writes. -/
structure Granary where
  deviceId : Word := 0
  qlist : List Nat := []
  first : SMap (List Word) := []
  last : SMap (List Word) := []
  firstBase : Nat := 0
  genIndex : Nat := 0
  genFirst : Nat := 0
  genLast : Nat := 0
  genCrash : Nat := 0
  lastPasses : Nat := 0
  firstClears : Nat := 0
  crashWrites : Nat := 0
  crashHeader : List Word := []
  crashIndex : List DumpEntry := []
  crashLocked : Bool := false
  secWord : Word := 0
  secTag : Word := 0
  wear : SMap Word := []
  wearAt : Nat := 0
deriving DecidableEq, Repr

/-- The event recorder (R299–R312). `retry`: the front record is being written once more; `lastOk` and `firstOk`: its write to LAST
and to FIRST has been read back as written (R306). -/
structure Recorder where
  ready : Bool := false
  next : Nat := 0
  queue : List Rec := []
  held : List Rec := []
  retry : Bool := false
  lastOk : Bool := false
  firstOk : Bool := false
  written : Nat := 0
  lastTag : Word := 0
  bootFound : Nat := 0
  queueMax : Nat := 0
  queueDrops : Nat := 0
  gapPending : Nat := 0
  buckets : SMap Bucket := []
  agg : Bucket := {}
  bootCause : Nat := 1
  content : List Word := []
  cmdBusy : Bool := false
  cmd : Nat := 0
  cmdArea : Nat := 0
  cmdResult : Nat := 0
  cmdToken : Nat := 0
  cmdBad : Nat := 0
  cmdBreaks : Nat := 0
  cmdMoved : Bool := false
  verWords : List Word := []
  archiveDst : Word := 0
  tokens : SMap Nat := []
  rdSel : Word := 0
  rdArea : Nat := 0
  rdSlot : Nat := 0
  rdGen : Nat := 0
  rdData : List Word := []
deriving DecidableEq, Repr

/-- Host-side states of a physical position (R205). -/
inductive HostState where
  | unreconciled | inService | spareFree | spareReserved | quarantined | bad
deriving DecidableEq, Repr

/-- Checker states of a position (R232); SELF_TEST shows where a checker that is not in service tests itself. -/
inductive ChkState where
  | untested | inService | failed
deriving DecidableEq, Repr

/-- Who started a test: a QRS command, an arbitration, the spare interval, a bring-up command. -/
inductive TestBy where
  | cmd | arb | auto | bringup
deriving DecidableEq, Repr

/-- A physical position (R203–R233). `segment` says that a segment of the checker's self-test runs (R215), `autoWait` that the
automatic tests of a spare wait for its tile group's region (R210), `expected` is the EXPECTED_SIG that its structural test is judged
by (R209). -/
structure Pos where
  host : HostState := .unreconciled
  chk : ChkState := .untested
  testing : Option TestBy := none
  selfTest : Option TestBy := none
  segment : Bool := false
  segFlushed : Bool := false
  autoWait : Bool := false
  chkReturn : Bool := false
  returning : Bool := false
  adopter : Option Nat := none
  orphan : Bool := false
  orphanLoad : Bool := false
  fieldDefect : Bool := false
  override : Bool := false
  qReason : Nat := 0
  logical : Option Nat := none
  structRes : Nat := 0
  selfRes : Nat := 0
  selfUnit : Nat := 0
  katFails : Nat := 0
  lastTime : Nat := 0
  wir : Nat := 0
  vddcLost : Bool := false
  expected : Word := 0
deriving DecidableEq, Repr

/-- The mapping of a logical number (REMAP, R229): state 0 unassigned, 1 MAPPED, 2 VACANT. -/
structure Remap where
  state : Nat := 0
  phys : Nat := 0
  pending : Bool := false
  toVacant : Bool := false
  pendPhys : Nat := 0
deriving DecidableEq, Repr

/-- The header of a pattern set (R208), the read of the set that runs and the positions whose tests wait for it. -/
structure Pattern where
  valid : Bool := false
  count : Nat := 0
  shiftLen : Nat := 0
  opcode : Nat := 0
  wirLen : Nat := 0
  parWidth : Nat := 0
  expected : Word := 0
  reading : Bool := false
  header : Bool := false
  bytes : List Byte := []
  users : List Nat := []
deriving DecidableEq, Repr

/-- The quarantine, spares and test unit (R229). -/
structure Qrs where
  remap : SMap Remap := []
  reconDone : Bool := false
  busy : Bool := false
  busyCmd : Nat := 0
  result : Nat := 0
  tag : Nat := 0
  tile : Nat := 0
  degraded : Nat := 0
  event : Held := {}
  testCfg : Word := 0
  patternBase : Word := 0
  pattern : Pattern := {}
  reconStatus : Word := 0
  katPassed : Nat := 0
  katFailed : Nat := 0
  katUncompared : Nat := 0
  listDue : List Nat := []
deriving DecidableEq, Repr

/-- Region states (R334): ACTIVE, DRAINING, LOADING, VERIFYING, FENCED. -/
inductive RegState where
  | active | draining | loading | verifying | fenced
deriving DecidableEq, Repr

/-- A region of the structure (R334–R347). `content` is what its in-place holder has; `staged` what the current load
has delivered; `served` says that the region has been ACTIVE since its holder last lost its content. -/
structure Region where
  state : RegState := .fenced
  length : Nat := 0
  digest : Nat := 0
  content : List Word := []
  staged : List Word := []
  served : Bool := false
deriving DecidableEq, Repr

/-- An entry of a region table: region, length in bytes, offset, digest (R330). -/
structure TableEntry where
  region : Nat := 0
  length : Nat := 0
  offset : Nat := 0
  digest : Nat := 0
deriving DecidableEq, Repr

/-- A region table with its serial and digest (R330, R331). -/
structure Table where
  entries : List TableEntry := []
  serial : Word := 0
  digest : Nat := 0
deriving DecidableEq, Repr

/-- The configuration loader (R329–R347): session 0 NONE, 1 HDR_LOADING, 2 HDR_VERIFYING, 3 OPEN. -/
structure Loader where
  session : Nat := 0
  active : Option Table := none
  pend : Option Table := none
  regions : SMap Region := []
  busy : Bool := false
  loadRegion : Nat := 0
  hdrWords : List Word := []
  received : Nat := 0
  expected : Nat := 0
  stray : Nat := 0
  reloaded : Bool := false
  mixed : Bool := false
  ctl : Word := 0
  event : Held := {}
  contracts : List Contract := []
  policy : List Word := []
  thermal : List Word := []
  security : List Word := []
  topoLoaded : Bool := false
deriving DecidableEq, Repr

/-- Power states (R250). -/
inductive Power where
  | run | throttle | quiesce | dark
deriving DecidableEq, Repr

/-- The mode arbiter (R234–R255). -/
structure Mode where
  gen : Nat := 0
  levelReq : Word := 0
  power : Power := .run
  quiesceByStop : Bool := false
  refused : Held := {}
deriving DecidableEq, Repr

end Sys2Proof.Machine
end

