-- ==== Sys2Proof/Machine/StSvc.lean ====
section
/-! DEFINITION. State of the DMA channels and translation unit, the sequencer cores, the mailboxes and the shell's
ports (R313–R328, R348–R406). -/
namespace Sys2Proof.Machine

/-- The work a descriptor does for its owner (R313, R323). -/
inductive DmaWork where
  | dump | journal | fetch | notice | rankTable | undoList | undoCopy | undoRestore | mirrorOut | serve | mirrorIn | pullWrite
  | memtest | cert | husk | archive | verify | pattern | sequencer
deriving DecidableEq, Repr

/-- Where a channel's one request in flight stands: a walk read at a level, a data read, or a data write. -/
inductive DmaWait where
  | walk (level : Nat) (write : Bool)
  | read
  | write
deriving DecidableEq, Repr

/-- A request that a channel has outstanding on a MEM port, with its class (R390): 0 URGENT, 1 COMMIT, 2 MIRROR, 3 BACKGROUND. -/
structure MemReq where
  id : Nat := 0
  port : Nat := 0
  addr : Nat := 0
  write : Bool := false
  wait : DmaWait := .read
  data : List Byte := []
  tag : Nat := 0
  cls : Nat := 3
deriving DecidableEq, Repr

/-- A descriptor in a channel (R314). `src` and `dst` are words 0 and 1, `ctl` word 2; `state` 0 QUEUED, 1 RUNNING,
2 PAUSED, 3 DONE, 4 ABANDONED. -/
structure DmaDesc where
  src : Word := 0
  dst : Word := 0
  ctl : Word := 0
  state : Nat := 0
  cause : Nat := 0
  done : Nat := 0
  work : DmaWork := .sequencer
  skipped : Bool := false
  buf : List Byte := []
deriving DecidableEq, Repr

/-- A channel (R313, R327). `granule` is the 64-byte granule it holds between its read and its write; `waiting`
holds what owners could not post because the queue was full; `cut` are the requests whose descriptor ended before their response,
oldest first; `hold` is the level of a walk that stands still while TOPOLOGY drains, and whether it serves a write. -/
structure Channel where
  queue : List DmaDesc := []
  waiting : List DmaDesc := []
  cur : DmaDesc := {}
  busy : Bool := false
  req : Option MemReq := none
  granule : List Byte := []
  table_ : Nat := 0
  walked : Bool := false
  fault : Word := 0
  skipBytes : Nat := 0
  skips : Nat := 0
  skipAddr : Nat := 0
  skipSeen : Bool := false
  bytes : Nat := 0
  cut : List MemReq := []
  hold : Option (Nat × Bool) := none
deriving DecidableEq, Repr

/-- A cached leaf translation (R319): page number in units of its size, size code, page address, WRITE. -/
structure TlbLeaf where
  base : Nat := 0
  size : Nat := 0
  addr : Nat := 0
  write : Bool := false
  entry : Nat := 0
deriving DecidableEq, Repr

/-- A cached non-leaf entry: the job-address base it covers, its level, the next table (R319). -/
structure TlbDir where
  base : Nat := 0
  level : Nat := 0
  addr : Nat := 0
deriving DecidableEq, Repr

/-- The DMA block and the translation unit (R313–R328). The lists of the translation buffer run least recently used
first. -/
structure Dma where
  ch : SMap Channel := []
  root : Word := 0
  ctx : Word := 0
  leaves : List TlbLeaf := []
  dirs : List TlbDir := []
  hits : Nat := 0
  walks : Nat := 0
  invBusy : Bool := false
  dropWalks : List Nat := []
  nextId : Nat := 0
deriving DecidableEq, Repr

/-- Core states of SEQ_STATUS (R362). -/
inductive CoreState where
  | haltedLoad | run | wait | fault | stall
deriving DecidableEq, Repr

/-- A sequencer core (R349–R363). `codeErr` and `dataErr` are the words of its two stores that hold an error the store cannot
correct (R349): no command brings one in. [DESIGN CHOICE, log entry 184] -/
structure Core where
  state : CoreState := .haltedLoad
  cause : Nat := 0
  restarts : Nat := 0
  pc : Nat := 0
  regs : SMap Word := []
  code : List Word := []
  data : SMap Word := []
  timers : SMap Nat := []
  latches : Nat := 0
  mask : Nat := 0
  retired : Nat := 0
  trace : SMap Word := []
  traceCount : Nat := 0
  traceNext : Nat := 0
  codeErr : List Nat := []
  dataErr : List Nat := []
  traceFrozen : Bool := false
  lastStamp : Nat := 0
  lastRetire : Option Nat := none
  overloadRaised : Bool := false
deriving DecidableEq, Repr

/-- The sequencers block (R362). -/
structure Seq where
  cores : SMap Core := []
  ctl : Word := 0
  traceSel : Word := 0
  traceCore : Nat := 0
  traceIndex : Nat := 0
  traceGen : Nat := 0
  traceData : List Word := []
deriving DecidableEq, Repr

/-- A mailbox channel (R364–R375). `outWait`: the block waits for the host's acknowledgement; `outDue`: it has posted and has
first to acknowledge the inbound slot (R371). -/
structure Mbox where
  inPtr : Word := 0
  inStaged : Nat := 0
  inEpoch : Nat := 0
  inSeq : Nat := 0
  inRx : Nat := 0
  inColl : Bool := false
  inDb : Nat := 0
  inMask : Nat := 0
  prevEpoch : Nat := 0
  outPtr : Word := 0
  outEpoch : Nat := 0
  outSeq : Nat := 0
  outRx : Nat := 0
  outColl : Bool := false
  outDb : Nat := 0
  outMask : Nat := 0
  outArea : Word := 0
  outWait : Bool := false
  outDue : Bool := false
deriving DecidableEq, Repr

/-- The mailbox block (R372, R373). -/
structure MailUnit where
  ch : SMap Mbox := []
  blockEpoch : Nat := 0
  resume : Nat := 0
  starts : Nat := 0
deriving DecidableEq, Repr

/-- Who makes a register access: the requester ID and whether it carries the secure attribute (R388, R357). -/
structure Acc where
  id : Nat := 0
  sec : Bool := true
deriving DecidableEq, Repr

/-- TILE and TAG of a word written to QRS_CMD (R230). -/
structure QrsWord where
  tile : Nat := 0
  tag : Nat := 0
deriving DecidableEq, Repr

/-- What the read-back of a granary record's writes finds: whether its slot of LAST and its slot of FIRST hold it (R306). -/
structure Written where
  last : Bool := true
  first : Bool := true
deriving DecidableEq, Repr

/-- A KRP response waiting to be taken (R388): 0 OK, 1 DENIED, 2 NOREG, 3 TIMEOUT. -/
structure KrpRsp where
  code : Nat := 0
  id : Nat := 0
  data : Word := 0
deriving DecidableEq, Repr

/-- A NET message sent and not yet acknowledged (R391). -/
structure NetMsg where
  tag : Nat := 0
  dst : Nat := 0
  type : Nat := 0
  words : List Word := []
deriving DecidableEq, Repr

/-- JTAG data registers that an instruction selects (R406). -/
inductive JtagSel where
  | idcode | network | bypass
deriving DecidableEq, Repr

/-- The I3C common command codes of R402, and any other. -/
inductive Ccc where
  | entdaa | setdasa | rstdaa | enec | disec | getpid | getbcr | getdcr | getmrl | getmwl | other
deriving DecidableEq, Repr

/-- The MCTP control commands of R402, and any other. -/
inductive MctpCtl where
  | setEid | getEid | getVersion | getTypes | getVendor | other
deriving DecidableEq, Repr

/-- What the block sends over TRAY (R285, R402): an in-band interrupt with its data byte; a vendor-defined message with its
enterprise number, body byte 0 and the words that follow; answers to control commands and to common command codes. -/
inductive TrayMsg where
  | ibi (byte : Nat)
  | vendor (pen code : Nat) (words : List Word)
  | control (cmd : MctpCtl) (value : Nat)
  | ccc (code : Ccc) (value : Nat)
deriving DecidableEq, Repr

/-- The instruments of the IEEE 1687 network (R406, R444). -/
inductive Instrument where
  | captureSram | statStore | tileRings | emramTest | counters | supervisor | riserTraining | delayTrim
  | checkerTest | blockReset | zeroise
deriving DecidableEq, Repr

/-- The shell's ports and sideband (R378–R407). `trayEvents` are the in-band interrupts enabled, `trayOut` what the latest
step sent; `included` are the instruments in the scan path, `denied` those whose refusal has been raised since the last
selection of IJTAG_ACCESS. [PRESUMED, log entry 127] -/
structure Shell where
  porstLow : Bool := false
  blkRstLow : Bool := false
  krp : List KrpRsp := []
  net : List NetMsg := []
  netTag : Nat := 0
  keySeedReady : Bool := false
  fuseWords : List Word := []
  fuseReading : Bool := false
  fuseBuf : List Word := []
  trayAddr : Option Nat := none
  trayEid : Nat := 0
  trayEvents : Nat := 0
  trayOut : List TrayMsg := []
  jtag : JtagSel := .idcode
  included : List Instrument := []
  denied : List Instrument := []
deriving DecidableEq, Repr

end Sys2Proof.Machine
end

