-- ==== Sys2Proof/Machine/StEnv.lean ====
section
/-! DEFINITION. State of the partner link (R176–R202), the supplies (R408–R421), the thermal supervision (R422–R432),
the security unit (R433–R449), the cascade (R450–R461), bring-up and the memory test (R462–R471), observability
(R473–R485) and time-keeping (R23, R396, R488). -/
namespace Sys2Proof.Machine

/-- Partner link states (R182). -/
inductive Link where
  | down | hello | keying | paired | miswired | incompatible | lost
deriving DecidableEq, Repr

/-- The code of a link state in MIRROR_STATUS.LINK (R200). -/
def linkCode : Link → Nat
  | .down => 0 | .hello => 1 | .keying => 2 | .paired => 3 | .miswired => 4 | .incompatible => 5 | .lost => 6

/-- The identity a HELLO carries (R178), with whether its signature and certificate verify and its encapsulation
key. -/
structure Hello where
  chip : Nat := 0
  inst : Nat := 0
  job : Nat := 0
  rank : Nat := 0
  slot : Nat := 0
  mode : Nat := 0
  domain : Nat := 0
  digest64 : Word := 0
  compat : Nat := 0
  major : Nat := 0
  minor : Nat := 0
  ipVersion : Nat := 0
  nonce : Nat := 0
  sigOk : Bool := false
  ek : Nat := 0
  cert : List Byte := []
  sig : List Byte := []
deriving DecidableEq, Repr

/-- A COMMITTED message (R187). -/
structure Committed where
  step : Nat := 0
  sig : Word := 0
  count : Nat := 0
  incomplete : Bool := false
deriving DecidableEq, Repr

/-- A state copy or a pull, seen from one side: what has moved and the bytes of it, `lens` the chunks they came in (R191–R196). -/
structure CopySide where
  running : Bool := false
  step : Nat := 0
  chunk : Nat := 0
  tries : Nat := 0
  slot : Nat := 0
  bytes : List Byte := []
  acked : Nat := 0
  endSent : Bool := false
  done : Bool := false
  abandoned : Bool := false
  digestBad : Bool := false
  left : Nat := 0
  lens : List Nat := []
deriving DecidableEq, Repr

/-- What the receive area in host memory holds (R192, R202): its place, the held copy with the lengths of its chunks, and the notices
of the partner by step and micro-batch (R185). -/
structure RxKept where
  base : Word := 0
  size : Word := 0
  valid : Bool := false
  step : Nat := 0
  slot : Nat := 0
  lens : List Nat := []
  notices : List (Nat × Nat) := []
deriving DecidableEq, Repr

/-- A notice of the partner (R185). -/
structure Notice where
  step : Nat := 0
  mb : Nat := 0
  words : List Word := []
deriving DecidableEq, Repr

/-- An entry of the shard list (R190). -/
structure Shard where
  e0 : Nat := 0
  e1 : Nat := 0
  len : Nat := 0
deriving DecidableEq, Repr

/-- The post-commit check (R187, R193). -/
structure MirCheck where
  open_ : Bool := false
  step : Nat := 0
  own : Committed := {}
  part : Option Committed := none
  notCommitted : Option Nat := none
  lastFail : Option Nat := none
deriving DecidableEq, Repr

/-- What waits for PAIRED (R184). -/
inductive ArmKind where
  | arm | join | recover
deriving DecidableEq, Repr

/-- An arm, a join or a RECOVER that waits for PAIRED (R184). -/
structure ArmWait where
  kind : ArmKind := .arm
  value : Word := 0
deriving DecidableEq, Repr

/-- The partner link, the mirror and the pull (R176–R202). `peerHello` is the HELLO that began the pairing, `lastHello` the last
one received, `keyCt` the ciphertext of the KEY message; `auditShut` holds from the step verdict to the next run; `peerHolds`
is the step of the copy the partner has confirmed; `notices` are those the receive area holds, `noticesIn` those on their way
there, `kept` what a reset has left in it; `serveLens` are the lengths a pull asks for, `serveNotes` the notices it has still to read and
`serveGot` those it has read. -/
structure Mirror where
  modeReg : Word := 0
  peer : Word := 0
  shardList : Word := 0
  rxBase : Word := 0
  rxSize : Word := 0
  link : Link := .down
  cause : Nat := 0
  negMinor : Nat := 0
  pairJob : Nat := 0
  shards : List Shard := []
  peerHello : Hello := {}
  lastHello : Hello := {}
  ownHello : Hello := {}
  keyCt : Nat := 0
  tries : Nat := 0
  secret : Option Nat := none
  txKey : Option Nat := none
  rxKey : Option Nat := none
  finSent : Bool := false
  finGot : Bool := false
  txSeq : Nat := 0
  rxSeq : Option Nat := none
  check : MirCheck := {}
  checkReg : Held := {}
  checkStep : Nat := 0
  passed : Nat := 0
  failed : Nat := 0
  uncompared : Nat := 0
  auditOwn : List (OpId × Word) := []
  auditPeer : List (OpId × Word) := []
  auditShut : Bool := false
  out : CopySide := {}
  inb : CopySide := {}
  heldValid : Bool := false
  heldStep : Nat := 0
  heldSlot : Nat := 0
  heldLens : List Nat := []
  peerHolds : Option Nat := none
  notices : List (Nat × Nat) := []
  noticesIn : List (Nat × Nat) := []
  kept : Option RxKept := none
  serve : CopySide := {}
  serveLens : List Nat := []
  serveNotes : Option (List (Nat × Nat)) := none
  serveGot : List Notice := []
  pull : CopySide := {}
  pullTotal : Nat := 0
  pullDone : Bool := false
  pullFailed : Bool := false
  pulled : List Notice := []
  wait : Option ArmWait := none
deriving DecidableEq, Repr

/-- A rail: out of range now, out since the bit was cleared, and its readings in mV (R414, R421). -/
structure Rail where
  out : Bool := false
  seen : Bool := false
  now : Nat := 0
  max : Nat := 0
  min : Nat := 0
  read : Bool := false
deriving DecidableEq, Repr

/-- The droop record of a cluster (R418, R421). -/
structure Droop where
  below : Nat := 0
  min : Nat := 0
  last : Nat := 0
  read : Bool := false
deriving DecidableEq, Repr

/-- The supplies (R408–R421). -/
structure Supply where
  rails : SMap Rail := []
  clustersOut : List Nat := []
  excursions : Nat := 0
  droopMv : Nat := 0
  droops : SMap Droop := []
  minCluster : Nat := 0
  minMv : Nat := 0
  inhibit : Bool := false
deriving DecidableEq, Repr

/-- A sensor (R422–R424, R431). `at_` is the block time of the last accepted reading. -/
structure Sensor where
  raw : Nat := 0
  read : Bool := false
  broken : Bool := false
  cause : Nat := 0
  breaks : Nat := 0
deriving DecidableEq, Repr

/-- The law of one partition (R426, R427). -/
structure PartTherm where
  level : Nat := 0
  red : Nat := 0
  throt : Nat := 0
  max : Nat := 0
  hot : Nat := 0
deriving DecidableEq, Repr

/-- The thermal supervision (R422–R432). `words` is the supervisor's copy of the THERMAL region, none before the
first activation (R430). -/
structure Thermal where
  words : Option (List Word) := none
  sensors : SMap Sensor := []
  crit : Bool := false
  parts : SMap PartTherm := []
  evaluated : Bool := false
  globalMax : Nat := 0
  validMax : Nat := 0
  hotPart : Nat := 0
  broken : Nat := 0
deriving DecidableEq, Repr

/-- Security states (R438). -/
inductive SecState where
  | provision | open_ | sealed_ | locked
deriving DecidableEq, Repr

/-- The code of a security state. -/
def secCode : SecState → Nat
  | .provision => 0 | .open_ => 1 | .sealed_ => 2 | .locked => 3

/-- A dump permit (R446). -/
structure Permit where
  job : Word := 0
  name : Word := 0
  first : Word := 0
  last : Word := 0
  serial : Word := 0
  uses : Nat := 0
deriving DecidableEq, Repr

/-- The security unit (R433–R449). A key is the number it is, none while it is not held; `state` is none until the
state word has been read. -/
structure Security where
  seed : Option Nat := none
  grn : Option Nat := none
  att : Option Nat := none
  kem : Option Nat := none
  pip : Option Nat := none
  jnl : Option Nat := none
  mst : Option Nat := none
  job : Option Nat := none
  jobId : Nat := 0
  jobUsed : Bool := false
  step : Option Nat := none
  bootSalt : Nat := 0
  armNonce : Nat := 0
  state : Option SecState := none
  lockPending : Bool := false
  rewrite : Bool := false
  spent : Bool := false
  provisions : Nat := 0
  certOk : Bool := false
  cert : List Byte := []
  tamperSeen : Bool := false
  permits : SMap Permit := []
  cmdBusy : Bool := false
  cmdResult : Nat := 0
  cmd : Nat := 0
  arg : Word := 0
  jobKey : List Word := [0, 0, 0, 0]
  drawn : Nat := 0
  pipGen : Nat := 0
deriving DecidableEq, Repr

/-- Roles of an instance (R450). -/
inductive Role where
  | standalone | master | member
deriving DecidableEq, Repr

/-- The code of a role. -/
def roleCode : Role → Nat
  | .standalone => 0 | .master => 1 | .member => 2

/-- A member as the master sees it (R458, CAS_MEMBER of R461). -/
structure CasMember where
  valid : Bool := false
  safe : Bool := false
  lost : Bool := false
  verdict : Nat := 7
  point : Nat := 0
  error : Nat := 0
  fatal : Nat := 0
  max : Nat := 0
  validMax : Nat := 0
  nfRepro : Bool := false
  z : Nat := 0
  vstep : Nat := 0
  vreplay : Nat := 0
  voted : Bool := false
deriving DecidableEq, Repr

/-- Arm parameters as ARM_CHECK carries them (R452, R454). -/
structure ArmParams where
  jobMode : Nat := 0
  style : Nat := 0
  mirror : Nat := 0
  job : Nat := 0
deriving DecidableEq, Repr

/-- The cascade (R450–R461). `armWait` is an arm, a join or a RECOVER that the ring has to allow, `armRole` one that first waits
for the role; `late` is the run whose verdicts of members did not all come (R455); `out` is what the latest step sent. -/
structure Cascade where
  strap : Bool := false
  role : Role := .standalone
  roleKnown : Bool := false
  ringOk : Bool := false
  masterLost : Bool := false
  instances : Nat := 0
  position : Nat := 0
  linkDowns : Nat := 0
  chip : Nat := 0
  members : SMap CasMember := []
  enumOut : Bool := false
  armChecks : List (Nat × ArmParams) := []
  armWait : Option ArmWait := none
  armRole : Bool := false
  late : Option (Nat × Nat) := none
  armParams : ArmParams := {}
  armOk : Bool := false
  decSeq : Nat := 0
  failVerdicts : Bool := false
  out : List (BitVec 128) := []
  lastDec : Option (Nat × Nat) := none
deriving DecidableEq, Repr

/-- Bring-up commands (R464, R469). -/
structure Bringup where
  busy : Bool := false
  cmd : Nat := 0
  result : Nat := 0
  part : Nat := 0
  todo : List Nat := []
  passed : Nat := 0
  failed : Nat := 0
  aborted : Nat := 0
  fuseOk : Bool := false
deriving DecidableEq, Repr

/-- The memory test (R467–R471). `elem` is the element of the suite, `opn` the operation within it, `addr` the granule
counted from the first of the element; `first` and `last` the range as it stood at START. -/
structure Memtest where
  base : Word := 0
  limit : Word := 0
  busy : Bool := false
  result : Nat := 0
  suite : Nat := 0
  background : Nat := 0
  elem : Nat := 0
  opn : Nat := 0
  addr : Nat := 0
  pause : Bool := false
  passes : Nat := 0
  findings : Nat := 0
  find : List Word := []
  first : Nat := 0
  last : Nat := 0
  issued : Bool := false
deriving DecidableEq, Repr

/-- An entry of a dump list (R480). -/
structure TensorDump where
  name : Word := 0
  src : Word := 0
  len : Nat := 0
  at_ : Nat := 0
  step : Nat := 0
  waiting : Bool := true
  refused : Bool := false
deriving DecidableEq, Repr

/-- A dump that runs (R481). `bytes` is what has been read of the current part. -/
structure DumpRun where
  entry : Nat := 0
  part : Nat := 0
  offset : Nat := 0
  dst : Nat := 0
  serial : Word := 0
  bytes : List Byte := []
  writing : Bool := false
  written : Bool := false
deriving DecidableEq, Repr

/-- The OBSERVE block (R473–R484). -/
structure Observe where
  counts : SMap Nat := []
  tag : Nat := 0
  running : Bool := true
  cntBusy : Bool := false
  cntTag : Nat := 0
  missed : Nat := 0
  ringSel : Word := 0
  ringFailed : Bool := false
  ringGen : Nat := 0
  ringTile : Nat := 0
  ringIndex : Nat := 0
  ringData : List Word := []
  dumpList : Word := 0
  dumpDst : Word := 0
  dumpSize : Word := 0
  entries : List TensorDump := []
  run : Option DumpRun := none
  fired : List (Nat × Word) := []
  nextDst : Nat := 0
  result : Held := {}
deriving DecidableEq, Repr

/-- Time-keeping states (R23): START before the first advance, APPROX, TRACKING, LOST. -/
inductive TimeState where
  | start | approx | tracking | lost
deriving DecidableEq, Repr

/-- Time-keeping (R23, R32, R396, R488). `elapsed` counts block time in fifths of a TIME tick: a tick counts 5, an
oscillator period at f0 counts 4. `good` counts the successive advances heard in APPROX and in TIME_LOST; in TIME_LOST
`heard` is the last accepted value, while `time` stays at the last good one. -/
structure TimeKeep where
  state : TimeState := .start
  time : Nat := 0
  good : Nat := 0
  heard : Nat := 0
  discarding : Bool := false
  osc : Nat := 0
  elapsed : Nat := 0
  lostFrom : Nat := 0
  lostSeen : Bool := false
  rate : Word := 0
  slow : Bool := false
  risers : List Nat := []
deriving DecidableEq, Repr

end Sys2Proof.Machine
end

