-- ==== Sys2Proof/Syntax.lean ====
section
/-! DEFINITION. The commands of the block: one constructor per row of spec/opcode_table.json, with the data the block
takes from its ports, or reads from host memory, in that step. `sec` is the secure attribute of a KRP access. -/
namespace Sys2Proof

/-- The commands, those with operands first. [DESIGN CHOICE, log entry 39] -/
inductive Instr where
  /-- TIME_SAMPLE (R23): A TIME sample arrives; it is accepted as an advance or discarded, and time-keeping moves between APPROX, TRACKING and LOST. -/
  | timeSample (value : Word) (osc : Nat)
  /-- TIME_LOST (R23): No TIME advance for 10 us; the block enters TIME_LOST and measures timeouts on its oscillator. -/
  | timeLost (osc : Nat)
  /-- RATE_WINDOW_END (R32): A 10 us rate window ends, and GLOBAL_RATE is updated as a whole from the replica stage chains. -/
  | rateWindowEnd (spine : Nat) (slowest : Nat) (cluster : Nat)
  /-- RISER_DOWN (R14): A riser handshake does not complete within 2 us; the riser goes down and its column's checkers count as failed. -/
  | riserDown (col : Nat)
  /-- TAP_DESC_WORD (R381): A descriptor word transfers on TAP_DESC and is assembled into the tile's current descriptor. -/
  | tapDescWord (tile : Nat) (word : Word) (last : Bool)
  /-- TAP_BEAT (R384): A beat arrives on TAP_A, TAP_B or TAP_C; it is attributed by opseq, ingested, captured and folded. -/
  | tapBeat (tile : Nat) (stream : Machine.Stream) (opseq : Nat) (data : Beat) (scale : Word) (last : Bool) (droppedAt : List Nat) (skippedAt : List Nat)
  /-- PIP_OUTCOME (R105): The reference unit finishes a pip and decides MATCH, MISMATCH, WITHIN_BOUND or UNDECIDABLE. -/
  | pipOutcome (tile : Nat)
  /-- VERDICT_LATE (R25): An operation, step or DECODE-group verdict passes its deadline; VERDICT_LATE is counted and raised. -/
  | verdictLate (kind : Nat) (tile : Nat)
  /-- BEACON_SAMPLE (R275): A TAP_PROG beacon value arrives and is judged as an advance or a range fault. -/
  | beaconSample (tile : Nat) (value : Nat)
  /-- HANG (R278): A busy host tile passes HANG_WINDOW without an advance; ENGINE_HANG is raised and the suspect set frozen. -/
  | hang (tile : Nat)
  /-- TILE_RST_REQ (R387): tile_rst_req rises; the tile's open operations are discarded and tile_rst_ack is raised. -/
  | tileRstReq (tile : Nat)
  /-- TILE_RST_REQ_FALL (R387): tile_rst_req falls; tile_rst_ack is lowered and descriptor numbering restarts. -/
  | tileRstReqFall (tile : Nat)
  /-- FWD_MARKER (R129): A FWD marker arrives on STEP, opening a micro-batch or token group and journaling its notice. -/
  | fwdMarker (mb : Nat) (replay : Bool) (arg : Nat)
  /-- BWD_MARKER (R129): A BWD marker arrives on STEP for a micro-batch. -/
  | bwdMarker (mb : Nat) (item : Machine.MarkArg)
  /-- EXCH_MARKER (R145): An EXCH marker arrives; under UNDO the undo copy starts. -/
  | exchMarker (item : Machine.MarkItem)
  /-- UPD_MARKER (R143): An UPD marker arrives; the run may now open its update. -/
  | updMarker (item : Machine.MarkItem)
  /-- END_MARKER (R150): The step-end marker arrives; VOTE begins, the update falls, and open operations close INCOMPLETE. -/
  | endMarker (item : Machine.MarkItem)
  /-- LOSS_SCALAR (R164): A loss scalar for a micro-batch arrives on STEP and is checked for non-finite values. -/
  | lossScalar (mb : Nat) (bits : Nat)
  /-- GRAD_NORM_SCALAR (R164): The gradient-norm scalar of a run arrives on STEP and is checked for non-finite values. -/
  | gradNormScalar (item : Machine.ScalarItem)
  /-- VOTE_MSG (R154): A vote message arrives at an aggregator or the arbiter and is combined into the subtree vote. -/
  | voteMsg (vote : Machine.Vote) (revote : Bool) (auth : Bool) (src : Nat)
  /-- BACKUP_ACK (R156): The backup's acknowledgement of a recorded decision arrives, and the arbiter broadcasts the decision. -/
  | backupAck (job : Nat) (step : Nat) (replayNo : Nat) (auth : Bool) (src : Nat)
  /-- DECISION_MSG (R158): A decision arrives at a chip and is applied if it names the chip's job, step and replay number. -/
  | decisionMsg (dec : Machine.Decision) (record : Bool) (auth : Bool) (src : Nat)
  /-- DECISION_QUERY (R156): The arbiter or backup answers a query for the decision of one of the job's last two steps. -/
  | decisionQuery (job : Nat) (step : Nat) (src : Nat) (auth : Bool)
  /-- COLL_REPORT (R85): A COLL report arrives; it is chained and the hop checks it completes are made. -/
  | collReport (rep : Machine.Report)
  /-- TOKEN_PRESENT (R167): The host presents a token with GROUP and TAG at TOKEN_GATE, and the gate holds it. -/
  | tokenPresent (group : Nat) (tag : Nat)
  /-- CERT_DIGEST_DONE (R171): The shard digests of a certificate request complete and the signed certificate is written. -/
  | certDigestDone (u : Unit)
  /-- STEP_ARM (R245): A STEP_ARM write checks the configuration and axes and arms the step engine or refuses. -/
  | stepArm (value : Word) (rq : Machine.Acc)
  /-- STEP_CONFIG_WRITE (R242): A STEP_CONFIG write stores the job parameters, and a change to DECODE demotes AUDIT requests. -/
  | stepConfigWrite (value : Word) (rq : Machine.Acc)
  /-- SKIP (R166): STEP_CMD SKIP ends a MODEL_NONFINITE step as skipped without changing EPOCH. -/
  | stepSkip (step : Nat) (rq : Machine.Acc)
  /-- HALT (R166): STEP_CMD HALT holds the job at the step, keeps the gate closed and sets HALTED. -/
  | stepHalt (step : Nat) (rq : Machine.Acc)
  /-- DISARM (R175): STEP_CMD DISARM disarms the engine in IDLE or HOLD and unlocks the RWL registers. -/
  | stepDisarm (step : Nat) (rq : Machine.Acc)
  /-- RECOVER (R162): STEP_CMD RECOVER restores EPOCH from the journal and applies any decision missing after a chip reset. -/
  | stepRecover (rq : Machine.Acc)
  /-- JOIN (R197): STEP_CMD JOIN arms a replacement chip for its rank at the held step in phase HOLD. -/
  | stepJoin (step : Nat) (rq : Machine.Acc)
  /-- CERT (R171): STEP_CMD CERT starts a snapshot certificate of the last committed step. -/
  | stepCert (step : Nat) (rq : Machine.Acc)
  /-- FETCH (R141): STEP_CMD FETCH decrypts a MICRO_BATCH record and writes its notice to STEP_FETCH_DST. -/
  | stepFetch (step : Nat) (mb : Nat) (rq : Machine.Acc)
  /-- REVOTE (R160): STEP_CMD REVOTE sends the held verdict on the tree of the newly loaded POLICY. -/
  | stepRevote (step : Nat) (rq : Machine.Acc)
  /-- RES_MISMATCH_ACK (R92): Writing the held SEQ consumes RES_MISMATCH. -/
  | resMismatchAck (tile : Nat) (value : Word) (rq : Machine.Acc)
  /-- PIP_MISMATCH_ACK (R126): Writing the held SEQ consumes PIP_MISMATCH. -/
  | pipMismatchAck (tile : Nat) (value : Word) (rq : Machine.Acc)
  /-- STEP_COLL_MISMATCH_ACK (R93): Writing the held SEQ consumes the collective conservation failure record. -/
  | collMismatchAck (value : Word) (rq : Machine.Acc)
  /-- STEP_COV_ACK (R124): Writing the held SEQ consumes the coverage summary. -/
  | stepCovAck (value : Word) (rq : Machine.Acc)
  /-- STEP_VERDICT_ACK (R174): Writing the held SEQ consumes STEP_VERDICT. -/
  | stepVerdictAck (value : Word) (rq : Machine.Acc)
  /-- STEP_DECISION_ACK (R174): Writing the held SEQ consumes STEP_DECISION. -/
  | stepDecisionAck (value : Word) (rq : Machine.Acc)
  /-- MIRROR_CHECK_ACK (R202): Writing the held SEQ consumes MIRROR_CHECK. -/
  | mirrorCheckAck (value : Word) (rq : Machine.Acc)
  /-- QRS_EVENT_ACK (R231): Writing the held SEQ consumes QRS_EVENT. -/
  | qrsEventAck (value : Word) (rq : Machine.Acc)
  /-- MODE_REFUSED_ACK (R255): Writing the held SEQ consumes MODE_REFUSED. -/
  | modeRefusedAck (value : Word) (rq : Machine.Acc)
  /-- FAULT_FIRST_ACK (R260): Writing the held SEQ consumes the first-error record. -/
  | faultFirstAck (value : Word) (rq : Machine.Acc)
  /-- HANG_EVENT_ACK (R297): Writing the held SEQ consumes HANG_EVENT. -/
  | hangEventAck (value : Word) (rq : Machine.Acc)
  /-- STOP_ACK (R297): Writing the held SEQ consumes STOP_STATUS. -/
  | stopAck (value : Word) (rq : Machine.Acc)
  /-- CONFIG_EVENT_ACK (R347): Writing the held SEQ consumes CONFIG_EVENT. -/
  | configEventAck (value : Word) (rq : Machine.Acc)
  /-- OBS_DUMP_RESULT_ACK (R484): Writing the held SEQ consumes OBS_DUMP_RESULT. -/
  | obsDumpResultAck (value : Word) (rq : Machine.Acc)
  /-- PAIR (R182): MIRROR_CMD PAIR starts the partner link from DOWN, sending HELLO every 1 ms. -/
  | melPair (arg : Nat) (rq : Machine.Acc)
  /-- REPAIR (R183): MIRROR_CMD REPAIR returns a MISWIRED or INCOMPATIBLE link to HELLO. -/
  | melRepair (rq : Machine.Acc)
  /-- UNPAIR (R182): MIRROR_CMD UNPAIR takes the link to DOWN and zeroises the pair keys. -/
  | melUnpair (rq : Machine.Acc)
  /-- PULL (R196): MIRROR_CMD PULL makes a sprout request the shard of a held step from its partner. -/
  | melPull (arg : Nat) (shards : List Machine.Shard) (rq : Machine.Acc)
  /-- ABORT_PULL (R201): MIRROR_CMD ABORT_PULL stops a running pull, leaving PULL_DONE at 0. -/
  | melAbortPull (rq : Machine.Acc)
  /-- HELLO (R179): A received HELLO goes through the pairing checks and moves the link to KEYING or MISWIRED/INCOMPATIBLE. -/
  | melHello (hello : Machine.Hello) (nbrId : Option Nat)
  /-- KEY (R181): Slot 1 receives the ML-KEM ciphertext and derives the direction keys. -/
  | melKey (ct : Nat) (pairSeq : Nat) (tagOk : Bool)
  /-- FINISH (R181): A FINISH message is checked, and the link becomes PAIRED when both are checked. -/
  | melFinish (pairSeq : Nat) (tagOk : Bool) (transcriptOk : Bool)
  /-- BEAT (R182): A partner BEAT is accepted while PAIRED, restarting the link-loss watch. -/
  | melBeat (phase : Nat) (step : Nat) (pairSeq : Nat) (tagOk : Bool)
  /-- NOTICE (R185): A partner's micro-batch notice is stored encrypted in the receive area. -/
  | melNotice (step : Nat) (mb : Nat) (words : List Word) (pairSeq : Nat) (tagOk : Bool)
  /-- COMMITTED (R187): The partner's COMMITTED message arrives and the post-commit check of the step is decided. -/
  | melCommitted (com : Machine.Committed) (pairSeq : Nat) (tagOk : Bool)
  /-- NOT_COMMITTED (R187): The partner reports a non-commit decision, and the check of the step fails. -/
  | melNotCommitted (step : Nat) (decision : Nat) (pairSeq : Nat) (tagOk : Bool)
  /-- AUDIT_SIG (R189): A partner signature of a UPD operation is compared with the instance's own. -/
  | melAuditSig (id : Machine.OpId) (sig : Word) (pairSeq : Nat) (tagOk : Bool)
  /-- COPY_CHUNK (R192): An inbound state chunk is checked, re-encrypted under the storage key and written to the receive slot. -/
  | copyChunk (step : Nat) (chunk : Nat) (bytes : List Byte) (pairSeq : Nat) (tagOk : Bool)
  /-- COPY_ACK (R191): The receiver acknowledges a chunk of the outbound copy. -/
  | copyAck (step : Nat) (chunk : Nat) (pairSeq : Nat) (tagOk : Bool)
  /-- COPY_NACK (R191): The receiver refuses a chunk, and the sender sends it again or abandons the copy. -/
  | copyNack (step : Nat) (chunk : Nat) (pairSeq : Nat) (tagOk : Bool)
  /-- COPY_END (R192): The sender's digest arrives; the filled slot becomes the held copy or is discarded. -/
  | copyEnd (step : Nat) (chunks : Nat) (digest : Nat) (pairSeq : Nat) (tagOk : Bool)
  /-- COPY_DONE (R193): The receiver confirms the outbound copy's digest, completing the sender's side of the check. -/
  | copyDone (step : Nat) (digest : Nat) (pairSeq : Nat) (tagOk : Bool)
  /-- PULL_REQ (R196): The partner serves a sprout's pull request, or answers PULL_REFUSE. -/
  | pullReq (step : Nat) (lens : List Nat) (pairSeq : Nat) (tagOk : Bool)
  /-- PULL_CHUNK (R196): The sprout writes a pulled chunk to the epoch-0 addresses of its shard list. -/
  | pullChunk (step : Nat) (chunk : Nat) (bytes : List Byte) (pairSeq : Nat) (tagOk : Bool)
  /-- PULL_END (R197): The pull's final digest arrives and the sprout sets PULL_DONE if it matches. -/
  | pullEnd (step : Nat) (chunks : Nat) (digest : Nat) (notices : List Machine.Notice) (pairSeq : Nat) (tagOk : Bool)
  /-- PULL_REFUSE (R196): The partner refuses the pull; the sprout sets PULL_FAILED and raises MIRROR_PULL_FAIL. -/
  | pullRefuse (cause : Nat) (pairSeq : Nat) (tagOk : Bool)
  /-- FENCE (R217): QRS_CMD FENCE quarantines a logical number with reason HOST_CMD. -/
  | qrsFence (logical : Nat) (tag : Nat) (rq : Machine.Acc)
  /-- STRUCT (R210): QRS_CMD STRUCT starts a structural test of a position. -/
  | qrsStruct (tile : Nat) (tag : Nat) (rq : Machine.Acc)
  /-- SELFTEST (R215): QRS_CMD SELFTEST starts a checker self-test of a position. -/
  | qrsSelftest (tile : Nat) (tag : Nat) (rq : Machine.Acc)
  /-- RETURN_CHECKER (R225): QRS_CMD RETURN_CHECKER runs a self-test on a FAILED checker to return it to service. -/
  | qrsReturnChecker (tile : Nat) (tag : Nat) (rq : Machine.Acc)
  /-- RECONCILE (R227): QRS_CMD RECONCILE judges every position from fuses, tests and overrides and assigns logical numbers and spares. -/
  | qrsReconcile (word : Machine.QrsWord) (rq : Machine.Acc)
  /-- QRS_CANCEL (R230): QRS_CMD CANCEL stops the running STRUCT, SELFTEST or RETURN_CHECKER with ABORTED. -/
  | qrsCancel (word : Machine.QrsWord) (rq : Machine.Acc)
  /-- STRUCT_TEST_DONE (R209): A structural test finishes; its signature is compared and a FAIL quarantines the position. -/
  | structTestDone (pos : Nat) (responses : List (BitVec 32))
  /-- STRUCT_TEST_TIMEOUT (R209): A structural test passes STRUCT_TIMEOUT and ends with TIMEOUT. -/
  | structTestTimeout (pos : Nat)
  /-- SELFTEST_DONE (R214): A checker self-test finishes, passing or making the checker FAILED. -/
  | selftestDone (pos : Nat) (clean : List Nat) (injected : List Nat)
  /-- SELFTEST_TIMEOUT (R215): A self-test passes SELFTEST_TIMEOUT and ends INCOMPLETE. -/
  | selftestTimeout (pos : Nat)
  /-- SPARE_TEST_INTERVAL (R210): SPARE_INTERVAL elapses and automatic tests of a spare start. -/
  | spareTestInterval (pos : Nat)
  /-- MODE_LEVEL_REQ_WRITE (R243): A secure write sets requested levels per engine class, with DECODE demotion and encoding checks. -/
  | modeLevelReqWrite (value : Word) (rq : Machine.Acc)
  /-- QUIESCE (R250): MODE_CMD QUIESCE moves the power state to QUIESCE with throttles at 255. -/
  | modeQuiesce (rq : Machine.Acc)
  /-- MODE_RESUME (R250): MODE_CMD RESUME returns from QUIESCE to RUN or THROTTLE under the thermal law. -/
  | modeResume (rq : Machine.Acc)
  /-- REACTION_TIMER_EXPIRY (R263): A class reaction timer expires and the ACTION rung is requested for its target. -/
  | reactionTimerExpiry (cls : Nat)
  /-- FAULT_PENDING_WRITE (R266): A secure W1C write clears WARN and ERROR pending bits and stops their reaction timers. -/
  | faultPendingWrite (value : Word) (rq : Machine.Acc)
  /-- ESCALATE (R271): FAULT_CMD ESCALATE requests the named rung for the named target. -/
  | faultEscalate (value : Word) (rq : Machine.Acc)
  /-- FAULT_INJECT (R272): A write to FAULT_INJECT raises the written code with access type INJECT. -/
  | faultInject (value : Word) (rq : Machine.Acc)
  /-- COLLECTOR_GRANT_TIMEOUT (R268): A capture is not granted within 2 us, raising COLLECTOR_MISMATCH and entering the safe state. -/
  | collectorGrantTimeout (cap : Machine.Cap)
  /-- ENG_RST_ACK (R280): An engine or context reset acknowledgement echoing the request completes the CONTEXT or ENGINE rung. -/
  | engRstAck (scope : Nat) (id : Nat)
  /-- PART_RST_ACK (R280): A partition reset acknowledgement completes the PARTITION rung and resets its checkers. -/
  | partRstAck (part : Nat) (trained : List Nat)
  /-- RST_REQ_NOT_TAKEN (R401): A reset request is not taken within 2 us; PORT_TIMEOUT is raised and the request stays offered. -/
  | rstReqNotTaken (group : Nat)
  /-- CRASH_DUMP_END (R294): The crash rung's smear dump ends, within 20 ms, and CHIP_RST_REQ or the POWER request follows. -/
  | crashDumpEnd (cut : Bool)
  /-- BLK_RST_N_RELEASE (R284): BLK_RST_N is released; the chip-level reset completes and the spine restarts. -/
  | blkRstRelease (strap : Bool)
  /-- PORST_N_RELEASE (R253): PORST_N is released; every axis takes its value after PORST_N and key_seed_ready rises. -/
  | porstRelease (strap : Bool)
  /-- LADDER_STOP (R291): LADDER_CMD STOP starts a global stop and QUIESCE. -/
  | ladderStop (rq : Machine.Acc)
  /-- SEARCH_REPLAY (R286): LADDER_CMD SEARCH_REPLAY starts the solo replay of one suspect at forced AUDIT. -/
  | searchReplay (value : Word) (rq : Machine.Acc)
  /-- SEARCH_DONE (R287): LADDER_CMD SEARCH_DONE ends a suspect replay and decides its result. -/
  | searchDone (rq : Machine.Acc)
  /-- SEARCH_END (R296): LADDER_CMD SEARCH_END ends the search as ABANDONED and starts the next queued search. -/
  | searchEnd (rq : Machine.Acc)
  /-- DETAIL_TIMEOUT (R301): SQ2 has not written a FAULT record's detail within 100 us; the record is written RAW. -/
  | detailTimeout (seq : Nat)
  /-- EMRAM_WRITE_DONE (R306): A granary slot write completes and is read back; a repeated difference raises GRANARY_WRITE_FAIL. -/
  | emramWriteDone (ok : Machine.Written)
  /-- RECORDER_RD_SEL (R309): A write to RECORDER_RD_SEL loads the named granary slot into RECORDER_RD_DATA. -/
  | recorderRdSel (value : Word) (rq : Machine.Acc)
  /-- ARCHIVE (R310): RECORDER_CMD ARCHIVE copies a granary area verbatim to RECORDER_ARCHIVE_DST. -/
  | recArchive (value : Word) (rq : Machine.Acc)
  /-- VERIFY (R310): RECORDER_CMD VERIFY checks every record of an archive for validity and chain breaks. -/
  | recVerify (value : Word) (rq : Machine.Acc)
  /-- CLEAR (R310): RECORDER_CMD CLEAR clears INDEX, FIRST or CRASH given a matching archive token. -/
  | recClear (value : Word) (rq : Machine.Acc)
  /-- DMA_POST (R313): An owner posts a descriptor to its channel queue, which checks it and queues it. -/
  | dmaPost (ch : Nat) (src : Word) (dst : Word) (ctl : Word) (work : Machine.DmaWork) (buf : List Byte)
  /-- MEM_RESPONSE (R315): A MEM response arrives and advances its descriptor towards DONE. -/
  | memResponse (port : Nat) (id : Nat) (status : Nat) (data : List Byte)
  /-- MEM_TIMEOUT (R390): No MEM response arrives in 50 us, and the request fails to its channel. -/
  | memTimeout (ch : Nat)
  /-- MEM_REQ_TIMEOUT (R390): A MEM request held not ready for 2 us is withdrawn with PORT_TIMEOUT. -/
  | memReqTimeout (ch : Nat)
  /-- DMA_RESUME (R323): DMA_CMD RESUME restarts a PAUSED descriptor at DONE. -/
  | dmaResume (ch : Nat) (rq : Machine.Acc)
  /-- DMA_ABANDON (R323): DMA_CMD ABANDON ends a PAUSED descriptor as ABANDONED. -/
  | dmaAbandon (ch : Nat) (rq : Machine.Acc)
  /-- XLATE_INV_ALL (R320): DMA_XLATE_INV ALL invalidates every cached translation entry. -/
  | xlateInvAll (rq : Machine.Acc)
  /-- XLATE_INV_RANGE (R320): DMA_XLATE_INV RANGE invalidates cached entries covering a range. -/
  | xlateInvRange (value : Word) (rq : Machine.Acc)
  /-- BEGIN (R336): CONFIG_CMD BEGIN opens a header load for a new bit-stream session. -/
  | configBegin (rq : Machine.Acc)
  /-- RELOAD (R336): CONFIG_CMD RELOAD moves a region to DRAINING for replacement. -/
  | configReload (value : Word) (rq : Machine.Acc)
  /-- CONFIG_END (R336): CONFIG_CMD END makes the pending table the active table. -/
  | configEnd (rq : Machine.Acc)
  /-- CONFIG_ABORT (R336): CONFIG_CMD ABORT discards an OPEN session in which no region has been reloaded. -/
  | configAbort (rq : Machine.Acc)
  /-- CONFIG_LOAD_DATA (R335): A word of the current load is digested and stored, or counted as stray. -/
  | configLoadData (word : Word) (rq : Machine.Acc)
  /-- HEADER_CHECK_DONE (R333): The header and signature checks finish, opening the session or rejecting the header. -/
  | headerCheckDone (sigOk : Bool) (fuse : Nat)
  /-- DRAIN_END (R492): A DRAINING region's holder becomes idle or DRAIN_LIMIT is reached, and the region enters LOADING. -/
  | drainEnd (region : Nat)
  /-- LDI (R351): Sequencer instruction: load a sign-extended immediate. -/
  | ldi (core : Nat)
  /-- SHI (R351): Sequencer instruction: shift in 19 immediate bits. -/
  | shi (core : Nat)
  /-- ADD (R351): Sequencer instruction: add registers modulo 2^64. -/
  | add (core : Nat)
  /-- SUB (R351): Sequencer instruction: subtract registers modulo 2^64. -/
  | sub (core : Nat)
  /-- AND (R351): Sequencer instruction: bitwise AND of registers. -/
  | andR (core : Nat)
  /-- OR (R351): Sequencer instruction: bitwise OR of registers. -/
  | orR (core : Nat)
  /-- XOR (R351): Sequencer instruction: bitwise XOR of registers. -/
  | xorR (core : Nat)
  /-- SH (R351): Sequencer instruction: shift a register left or right by an immediate. -/
  | sh (core : Nat)
  /-- ADDI (R351): Sequencer instruction: add an immediate. -/
  | addi (core : Nat)
  /-- LD (R351): Sequencer instruction: load a data-store word. -/
  | ld (core : Nat)
  /-- ST (R351): Sequencer instruction: store a data-store word. -/
  | st (core : Nat)
  /-- LDB (R357): Sequencer instruction: read a block register as a secure requester. -/
  | ldb (core : Nat)
  /-- STB (R357): Sequencer instruction: write a block register as a secure requester. -/
  | stb (core : Nat)
  /-- CMP (R351): Sequencer instruction: compare two registers under a condition. -/
  | cmp (core : Nat)
  /-- BR (R351): Sequencer instruction: conditional relative branch. -/
  | br (core : Nat)
  /-- JAL (R351): Sequencer instruction: jump and link by an offset. -/
  | jal (core : Nat)
  /-- JR (R351): Sequencer instruction: jump to a register and link. -/
  | jr (core : Nat)
  /-- WAIT (R353): Sequencer instruction: wait for an event latch of a mask. -/
  | waitR (core : Nat)
  /-- WAIT_RETURN (R353): A latch in the WAIT mask is set; WAIT returns its number and clears it. -/
  | waitReturn (core : Nat)
  /-- SQ_TIMER (R354): Sequencer instruction TIMER: arm or disarm one of the core's timers. -/
  | sqTimer (core : Nat)
  /-- SQ_TIME (R351): Sequencer instruction TIME: read the current block time. -/
  | sqTime (core : Nat)
  /-- POST (R351): Sequencer instruction: offer a record CONTENT to the recorder. -/
  | post (core : Nat)
  /-- MBOX (R365): Sequencer instruction: post an outbound mailbox pointer and set doorbells. -/
  | mbox (core : Nat)
  /-- ESC (R351): Sequencer instruction: request a reset rung as FAULT_CMD ESCALATE does. -/
  | esc (core : Nat)
  /-- SQ_DMA (R351): Sequencer instruction DMA: post a descriptor to channel 7. -/
  | sqDma (core : Nat)
  /-- RAISE (R351): Sequencer instruction: raise a fault code with access type INTERNAL. -/
  | raiseR (core : Nat)
  /-- SQ_TIMER_EXPIRY (R354): A sequencer timer expires and sets its event latch. -/
  | sqTimerExpiry (core : Nat) (n : Nat)
  /-- SQ_STALL (R356): A core retires nothing for 1 ms, or no WAIT within WATCHDOG, and halts with SQ_STALL. -/
  | sqStall (core : Nat) (watchdog : Bool)
  /-- CONTROL_OVERLOAD (R360): A latch of a core's mask stays set for SEQ_CTL.OVERLOAD, raising CONTROL_OVERLOAD. -/
  | controlOverload (core : Nat) (latch : Nat)
  /-- RESTART (R356): SEQ_CMD RESTART reinitialises and restarts a halted core. -/
  | seqRestart (core : Nat) (rq : Machine.Acc)
  /-- SEQ_FREEZE (R361): SEQ_CMD FREEZE freezes a core's trace ring. -/
  | seqFreeze (core : Nat) (rq : Machine.Acc)
  /-- THAW (R361): SEQ_CMD THAW thaws a frozen trace ring. -/
  | seqThaw (core : Nat) (rq : Machine.Acc)
  /-- SEQ_TRACE_SEL (R363): A write to SEQ_TRACE_SEL loads 32 trace entries into SEQ_TRACE_DATA. -/
  | seqTraceSel (value : Word) (rq : Machine.Acc)
  /-- MB_IN_PTR (R365): A write to MB_IN_PTR posts an inbound message with the staged epoch. -/
  | mbInPtr (ch : Nat) (value : Word) (rq : Machine.Acc)
  /-- MB_IN_DB (R368): A W1S write sets inbound doorbells and signals SQ3. -/
  | mbInDb (ch : Nat) (value : Word) (rq : Machine.Acc)
  /-- MB_IN_RX_DONE (R369): A sequencer writes the consumed inbound SEQ, emptying the slot. -/
  | mbInRxDone (ch : Nat) (value : Word) (core : Nat)
  /-- MB_IN_DB_CLR (R369): A sequencer clears inbound doorbells. -/
  | mbInDbClr (ch : Nat) (value : Word) (core : Nat)
  /-- MB_OUT_RX_DONE (R366): The host writes the consumed outbound SEQ, emptying the slot and signalling SQ3. -/
  | mbOutRxDone (ch : Nat) (value : Word) (rq : Machine.Acc)
  /-- MB_OUT_DB (R368): A W1C write by the host clears outbound doorbells and may lower IRQ_S or IRQ_NS. -/
  | mbOutDb (ch : Nat) (value : Word) (rq : Machine.Acc)
  /-- COLLISION_CLEAR (R367): A W1C write clears a slot's COLLISION bit. -/
  | collisionClear (ch : Nat) (outbound : Bool) (value : Word) (rq : Machine.Acc)
  /-- OUT_ACK_WAIT_TIMEOUT (R371): The block has waited 10 ms for an outbound acknowledgement and continues without it. -/
  | outAckWaitTimeout (ch : Nat)
  /-- KRP_REQUEST (R388): A KRP request is granted and answered OK, DENIED, NOREG or TIMEOUT. -/
  | krpRequest (id : Nat) (addr : Nat) (write : Bool) (data : Word) (secure : Bool)
  /-- KRP_GRANT_TIMEOUT (R388): A KRP target does not grant within 2 us; the access answers TIMEOUT with PORT_TIMEOUT. -/
  | krpGrantTimeout (id : Nat) (addr : Nat) (write : Bool) (data : Word) (secure : Bool)
  /-- REGISTER_WRITE (R9): A write to a register that has no row of its own acts under its access code. -/
  | registerWrite (addr : Nat) (data : Word) (rq : Machine.Acc)
  /-- NET_ACK (R391): A NET delivery acknowledgement arrives; UNREACHABLE raises NET_ERROR. -/
  | netAck (tag : Nat) (unreachable : Bool)
  /-- NET_TIMEOUT (R391): A transmitted NET message is unacknowledged after 5 ms. -/
  | netTimeout (tag : Nat)
  /-- NET_BEAT_TIMEOUT (R391): A NET beat is held not ready for 2 us, and the message is abandoned with PORT_TIMEOUT. -/
  | netBeatTimeout (tag : Nat)
  /-- TSENS_READING (R397): A host sensor reading arrives on TSENS and is range-checked. -/
  | tsensReading (id : Nat) (code : Nat)
  /-- ON_DIE_SENSOR_READ (R422): An on-die cluster sensor is read over its riser every 100 us. -/
  | onDieSensorRead (k : Nat) (code : Nat)
  /-- SENSOR_TIMEOUT (R424): A configured sensor has no accepted reading for 10 ms and becomes broken. -/
  | sensorTimeout (s_ : Nat)
  /-- SENSOR_STUCK (R424): A sensor accepts the same raw code for 1 s and becomes broken. -/
  | sensorStuck (s_ : Nat)
  /-- SENSOR_RECOVER (R424): A broken sensor passes every check for 1 s and becomes valid again. -/
  | sensorRecover (s_ : Nat)
  /-- KEY_SEED (R398): The device secret transfers on KEY_SEED after PORST_N and the keys are derived. -/
  | keySeed (seed : List Nat)
  /-- FUSE_MAP_TRANSFER (R399): A defect-map word transfers on FUSE and is checked against PHYS_TILES. -/
  | fuseMapTransfer (word : Word)
  /-- RAIL_OUT (R416): A rail has been outside its range for 1 us and takes its excursion effect. -/
  | railOut (r : Nat)
  /-- RAIL_IN (R414): A rail has been back in range for 10 us and is judged in range. -/
  | railIn (r : Nat)
  /-- CLUSTER_VDDC_OUT (R417): A cluster's VDDC goes out of range; its checkers are treated as lost and the requirement becomes STEP. -/
  | clusterVddcOut (k : Nat)
  /-- CLUSTER_VDDC_IN (R417): A cluster's VDDC returns in range; its checkers flush, resume and adoptions end. -/
  | clusterVddcIn (k : Nat)
  /-- DROOP_WINDOW (R418): A 10 us droop window ends, and a minimum below DROOP_MV raises DROOP. -/
  | droopWindow (mins : List (Nat × Nat)) (rails : List Nat)
  /-- LOAD_CERT (R442): SEC_CMD LOAD_CERT reads and verifies the attestation certificate, setting CERT_OK. -/
  | secLoadCert (cert : List Byte) (sigOk : Bool) (sig : List Byte) (rq : Machine.Acc)
  /-- COMMIT_STATE (R439): SEC_CMD COMMIT_STATE moves PROVISION to OPEN or SEALED. -/
  | secCommitState (written : Bool) (rq : Machine.Acc)
  /-- SEAL (R439): SEC_CMD SEAL moves OPEN to SEALED and clears permits. -/
  | secSeal (written : Bool) (rq : Machine.Acc)
  /-- LOCK (R439): SEC_CMD LOCK moves to LOCKED and zeroises keys. -/
  | secLock (written : Bool) (rq : Machine.Acc)
  /-- REPROVISION (R439): SEC_CMD REPROVISION returns a LOCKED device to PROVISION. -/
  | secReprovision (written : Bool) (rq : Machine.Acc)
  /-- ZEROISE (R447): SEC_CMD ZEROISE zeroises keys as TAMPER_N does, raising ZEROISED. -/
  | secZeroise (rq : Machine.Acc)
  /-- UNWRAP (R437): SEC_CMD UNWRAP takes the job key, in clear or from a wrapped blob. -/
  | secUnwrap (blob : List Byte) (tagOk : Bool) (key : List Byte) (rq : Machine.Acc)
  /-- LOAD_PERMIT (R446): SEC_CMD LOAD_PERMIT verifies a dump permit and holds it. -/
  | secLoadPermit (permit : List Word) (sigOk : Bool) (rq : Machine.Acc)
  /-- CLEAR_PERMITS (R446): SEC_CMD CLEAR_PERMITS frees every held permit. -/
  | secClearPermits (rq : Machine.Acc)
  /-- RETRAIN (R451): CAS_CMD RETRAIN makes the master enumerate the cascade ring again. -/
  | casRetrain (rq : Machine.Acc)
  /-- ENUM (R451): An ENUM message assigns a member its position, or returns to the master to raise RING_OK. -/
  | casEnum (count : Nat)
  /-- HEARTBEAT (R452): A member receives the master's HEARTBEAT and takes its chip number. -/
  | heartbeat (gen : Nat) (chip : Nat)
  /-- ARM_CHECK (R454): A member's arm parameters reach the master for comparison. -/
  | armCheck (src : Nat) (params : Machine.ArmParams)
  /-- ARM_OK (R454): The master's ARM_OK arrives and ARMED rises on the instance. -/
  | armOk (job : Nat)
  /-- ARM_REFUSED (R454): The master's ARM_REFUSED arrives and the instance stays unarmed. -/
  | armRefused (job : Nat)
  /-- CAS_VERDICT (R455): A member verdict reaches the master and is combined into the package vote. -/
  | casVerdict (src : Nat) (verdict : Nat) (point : Nat) (nfRepro : Bool) (z : Nat) (step : Nat) (replayNo : Nat)
  /-- CAS_DECISION (R456): A member applies a decision forwarded by the master. -/
  | casDecision (word : Word)
  /-- SUMMARY (R458): A member's SUMMARY reaches the master and updates CAS_MEMBER. -/
  | casSummary (src : Nat) (pending : Nat) (safe : Bool) (validMax : Nat) (globalMax : Nat)
  /-- RISER_TRAIN (R464): BRINGUP_CMD RISER_TRAIN trains every riser that is down. -/
  | riserTrain (rq : Machine.Acc)
  /-- FUSE_READ (R464): BRINGUP_CMD FUSE_READ reads the fuse map again. -/
  | fuseRead (rq : Machine.Acc)
  /-- SELFTEST_ALL (R464): BRINGUP_CMD SELFTEST_ALL runs the self-test on every checker. -/
  | selftestAll (rq : Machine.Acc)
  /-- STRUCT_ALL (R464): BRINGUP_CMD STRUCT_ALL runs structural tests on a partition or all positions. -/
  | structAll (part : Nat) (rq : Machine.Acc)
  /-- BRINGUP_DONE (R464): A running bring-up command completes and reports its counts. -/
  | bringupDone (trained : List Nat)
  /-- MEMTEST_START (R467): MEMTEST_CMD START starts a March test of the named range. -/
  | memtestStart (suite : Nat) (rq : Machine.Acc)
  /-- MEMTEST_ABORT (R468): MEMTEST_CMD ABORT ends the running memory test with ABORTED. -/
  | memtestAbort (rq : Machine.Acc)
  /-- CLEAR_START (R474): OBS_CNT_CMD CLEAR_START zeroes and starts counters under a new TAG. -/
  | cntClearStart (scope : Nat) (tag : Nat) (target : Nat) (rq : Machine.Acc)
  /-- CNT_FREEZE (R474): OBS_CNT_CMD FREEZE stops counters under a new TAG. -/
  | cntFreeze (scope : Nat) (tag : Nat) (target : Nat) (rq : Machine.Acc)
  /-- CNT_RUN (R474): OBS_CNT_CMD RUN resumes counters under a new TAG. -/
  | cntRun (scope : Nat) (tag : Nat) (target : Nat) (rq : Machine.Acc)
  /-- OBS_RING_SEL (R478): A write to OBS_RING_SEL loads eight ring entries of a tile. -/
  | obsRingSel (value : Word) (rq : Machine.Acc)
  /-- DUMP_ARM (R480): OBS_DUMP_CMD ARM reads a dump list and holds its entries. -/
  | dumpArm (list : List Word) (rq : Machine.Acc)
  /-- DUMP_CANCEL (R482): OBS_DUMP_CMD CANCEL discards entries not yet fired. -/
  | dumpCancel (rq : Machine.Acc)
  /-- MCTP_CONTROL (R402): An MCTP control command is served on the TRAY endpoint. -/
  | mctpControl (cmd : Machine.MctpCtl) (arg : Nat)
  /-- I3C_CCC (R402): An I3C common command code is served by the TRAY target. -/
  | i3cCcc (code : Machine.Ccc) (arg : Nat)
  /-- INSTRUMENT_INCLUDE (R444): An attempt to include an IEEE 1687 instrument, refused for disabled instruments with SEC_ACCESS_DENIED. -/
  | instrumentInclude (inst : Machine.Instrument)
  /-- COVERAGE_SUMMARY (R122): A coverage summary is ready, posted as a record and kept in the journal. -/
  | coverageSummary
  /-- NONFINITE_FLAG (R164): The host sets the NONFINITE flag; the gates close and NONFINITE is latched for the run. -/
  | nonfiniteFlag
  /-- STEP_VERDICT (R150): The step verdict forms once the last verdicts are in, and the vote is sent to the parent. -/
  | stepVerdict
  /-- VOTE_ABSENT_TIMEOUT (R153): A node's timer of (D − d) × VOTE_TIMEOUT expires, and unheard children are counted ABSENT. -/
  | voteAbsentTimeout
  /-- BACKUP_WAIT_EXPIRY (R156): BACKUP_WAIT passes without acknowledgement; a non-COMMIT decision is broadcast, and a COMMIT becomes HOLD with reason BACKUP. -/
  | backupWaitExpiry
  /-- DECISION_TIMEOUT (R159): DECISION_TIMEOUT passes without a decision, and the chip re-votes on the tree rooted at the backup. -/
  | decisionTimeout
  /-- VOTE_LOST (R160): No decision arrives one DECISION_TIMEOUT after the re-vote; the chip sets HALTED and raises VOTE_LOST. -/
  | voteLost
  /-- UNDO_COPY_DONE (R145): The copy of every listed page into the slot's undo area completes. -/
  | undoCopyDone
  /-- UNDO_RESTORE_DONE (R146): The restore of every undo page completes, and the next update may open. -/
  | undoRestoreDone
  /-- UPD_OPEN (R143): Every condition for opening the update holds, and EPOCH_UPD_OPEN rises. -/
  | updOpen
  /-- TOKEN_RELEASE (R168): Every operation of a held token's group has closed clean, and the token is released. -/
  | tokenRelease
  /-- TOKEN_OUT_TIMEOUT (R395): A token outcome is not taken within 2 us; PORT_TIMEOUT is raised once and the outcome stays offered. -/
  | tokenOutTimeout
  /-- ARM_PAIR_WAIT_EXPIRY (R184): An arm or join has waited 1 ms for PAIRED without it; it is refused with MIRROR_NOT_PAIRED. -/
  | armPairWaitExpiry
  /-- HELLO_TIMER (R182): The 1 ms HELLO interval elapses in state HELLO and a HELLO is sent. -/
  | helloTimer
  /-- BEAT_TIMER (R182): The 1 ms BEAT interval elapses while PAIRED and a BEAT is sent. -/
  | beatTimer
  /-- MEL_PAIR_TIMEOUT (R182): 10 s pass in HELLO without an acceptable HELLO, and the link returns to DOWN. -/
  | melPairTimeout
  /-- KEYING_TIMEOUT (R182): KEYING does not complete in 5 ms; it retries, or goes to MISWIRED on the third try. -/
  | keyingTimeout
  /-- MEL_LINK_LOST (R182): 5 ms pass without an accepted message while PAIRED; the link goes LOST and keys are zeroised. -/
  | melLinkLost
  /-- CHUNK_ACK_TIMEOUT (R191): A chunk is not acknowledged within 5 ms; it is sent again or the copy is abandoned. -/
  | chunkAckTimeout
  /-- MIRROR_CHECK_TIMEOUT (R187): The partner's COMMITTED or first chunk does not arrive in time, and the check fails. -/
  | mirrorCheckTimeout
  /-- COPY_GAP_TIMEOUT (R193): More than 20 ms pass without an accepted chunk during an inbound copy, and the check fails. -/
  | copyGapTimeout
  /-- COLLECTOR_PARITY (R268): A parity error or copy disagreement in the collector is found, and the safe state is entered. -/
  | collectorParity
  /-- RESET_ENG_TIMEOUT (R280): A CONTEXT or ENGINE rung is not acknowledged in 10 ms and is promoted. -/
  | resetEngTimeout
  /-- RESET_PART_TIMEOUT (R280): A PARTITION rung is not acknowledged in 100 ms and is promoted to CHIP. -/
  | resetPartTimeout
  /-- RESET_CHIP_TIMEOUT (R284): BLK_RST_N is not asserted within 1 s of CHIP_RST_REQ and the POWER rung follows. -/
  | resetChipTimeout
  /-- POWER_CYCLE_ACK (R285): The tray controller acknowledges the power-cycle request and PWRCYC_REQ_N is asserted. -/
  | powerCycleAck
  /-- TRAY_ACK_TIMEOUT (R285): 100 ms pass without the tray acknowledgement and PWRCYC_REQ_N is asserted anyway. -/
  | trayAckTimeout
  /-- BLK_RST_N_ASSERT (R284): BLK_RST_N is asserted; the spine enters reset and the CHIP timer stops. -/
  | blkRstAssert
  /-- PORST_N_ASSERT (R250): PORST_N is asserted and the whole block resets. -/
  | porstAssert
  /-- STOP_TIMEOUT (R292): STOP_TIMEOUT after STOP, the dump is written as a cut or a smear. -/
  | stopTimeout
  /-- DUMP_WRITTEN (R293): The dump and its index are written, the stop ends and its result is posted. -/
  | dumpWritten
  /-- GRANARY_SCAN_DONE (R308): The restart scan ends; numbering resumes past LAST_FOUND and a BOOT record is written. -/
  | granaryScanDone
  /-- RECORDER_CMD_DONE (R310): A running recorder command completes with DONE or FAILED. -/
  | recorderCmdDone
  /-- LOAD_TIMEOUT (R336): A header or region load does not finish within LOAD_TIMEOUT. -/
  | loadTimeout
  /-- REGION_VERIFY_DONE (R336): VERIFYING ends with the region ACTIVE or FENCED. -/
  | regionVerifyDone
  /-- KRP_RSP_TIMEOUT (R388): A KRP response is not taken within 2 us and is discarded with PORT_TIMEOUT. -/
  | krpRspTimeout
  /-- KEY_SEED_TIMEOUT (R398): No KEY_SEED transfer within 10 ms of ready, raising KEY_SEED_RANGE. -/
  | keySeedTimeout
  /-- FUSE_TIMEOUT (R399): A fuse-map transfer waits 2 us and the read stops with PORT_TIMEOUT. -/
  | fuseTimeout
  /-- TAMPER_N (R440): A filtered low on TAMPER_N zeroises keys and permits and raises TAMPER. -/
  | tamperN
  /-- EMRAM_INTERLOCK (R415): A rail leaves its range and the interlock blocks eMRAM write steps within 200 ns. -/
  | emramInterlock
  /-- HUSK_DONE (R445): A husk part is fully encrypted and written, with its tag. -/
  | huskDone
  /-- ENUM_TIMEOUT (R451): The master's ENUM does not return within 10 ms, raising CAS_LINK_DOWN. -/
  | enumTimeout
  /-- ROLE_ENUM_TIMEOUT (R450): A strap-low instance receives no ENUM within 10 ms and becomes STANDALONE. -/
  | roleEnumTimeout
  /-- HEARTBEAT_TIMER (R452): The 10 us heartbeat interval elapses and the master sends HEARTBEAT. -/
  | heartbeatTimer
  /-- HEARTBEAT_MISS (R459): A member misses HEARTBEAT for 50 us, raising CAS_MASTER_FAULT. -/
  | heartbeatMiss
  /-- CAS_HANDSHAKE_TIMEOUT (R452): A cascade handshake does not complete within 2 us, raising CAS_LINK_DOWN. -/
  | casHandshakeTimeout
  /-- ARM_CHECK_TIMEOUT (R454): Not all ARM_CHECK messages arrive within 1 ms and the cascade is refused. -/
  | armCheckTimeout
  /-- CAS_VERDICT_TIMEOUT (R455): A member verdict is missing after VOTE_TIMEOUT; the package votes SUSPECT with CAS_MEMBER_LOST. -/
  | casVerdictTimeout
  /-- SUMMARY_TIMER (R452): 1 ms passes without a SUMMARY change and a member sends SUMMARY. -/
  | summaryTimer
  /-- CAS_STOP (R291): A member receives the master's forwarded STOP and starts a global stop. -/
  | casStop
  /-- MEMTEST_PAUSE_END (R468): A retention pause ends and the retention read begins. -/
  | memtestPauseEnd
  /-- MEMTEST_DONE (R468): The memory test ends with PASS or FAIL. -/
  | memtestDone
  /-- CNT_CMD_DONE (R474): Every tile of the scope has applied the counter command and BUSY clears. -/
  | cntCmdDone
  /-- STATUS_REQUEST (R402): The tray controller requests STATUS over MCTP and the block answers. -/
  | statusRequest
  /-- IDCODE (R406): JTAG instruction IDCODE selects the identification register. -/
  | jtagIdcode
  /-- IJTAG_ACCESS (R406): JTAG instruction IJTAG_ACCESS selects the IEEE 1687 network. -/
  | jtagAccess
  /-- BYPASS (R406): JTAG instruction BYPASS, or any other code, selects the bypass register. -/
  | jtagBypass
  /-- HEARTBEAT_NOT_RETURNED (R459): The master's HEARTBEAT does not come back round the ring within 50 us, raising CAS_MEMBER_LOST, clearing RING_OK and failing every later package verdict until RETRAIN. -/
  | heartbeatNotReturned
deriving DecidableEq, Repr

end Sys2Proof
end

