-- ==== Sys2Proof/WellFormed.lean ====
section
/-! DEFINITION. Which commands can happen on a build: the units they name exist and the values they carry fit the
ports that carry them. -/
namespace Sys2Proof

open Machine (Build)

/-- A command names only units the build has (R3), and its values fit their ports; a write names a tile window of the address map,
which has a register where the tile is built. [DESIGN CHOICE, log entry 5] -/
def wellFormed (b : Build) : Instr → Bool
  | .riserDown col => decide (col < b.cols)
  | .tapDescWord t _ _ => decide (t < b.tiles)
  | .tapBeat t _ q _ _ _ _ _ => decide (t < b.tiles) && decide (q < 16)
  | .pipOutcome t => decide (t < b.tiles)
  | .verdictLate k t => decide (k < 3) && decide (t < b.tiles)
  | .beaconSample t _ => decide (t < b.tiles)
  | .hang t => decide (t < b.tiles)
  | .tileRstReq t => decide (t < b.tiles)
  | .tileRstReqFall t => decide (t < b.tiles)
  | .fwdMarker m _ x => decide (m < 2 ^ 32) && decide (x < 2 ^ 57)
  | .bwdMarker m i => decide (m < 2 ^ 32) && decide (i.arg < 2 ^ 57)
  | .exchMarker i | .updMarker i | .endMarker i => decide (i.mb < 2 ^ 32) && decide (i.arg < 2 ^ 57)
  | .bringupDone cs => cs.all fun c => decide (c < b.cols)
  | .krpRequest _ a _ _ _ | .krpGrantTimeout _ a _ _ _ => decide (a < 2 ^ 24)
  | .registerWrite a _ _ => decide (a < 2 ^ 24)
  | .lossScalar m x => decide (m < 2 ^ 32) && decide (x < 2 ^ 57)
  | .gradNormScalar i => decide (i.mb < 2 ^ 32) && decide (i.arg < 2 ^ 57)
  | .resMismatchAck t _ _ => decide (t < 4096)
  | .pipMismatchAck t _ _ => decide (t < 4096)
  | .structTestDone p _ => decide (p < b.tiles)
  | .structTestTimeout p => decide (p < b.tiles)
  | .selftestDone p c i => decide (p < b.tiles) && decide (c.length ≤ 64) && decide (i.length ≤ 64) &&
    (c ++ i).all fun u => decide (u < 16)
  | .selftestTimeout p => decide (p < b.tiles)
  | .spareTestInterval p => decide (p < b.tiles)
  | .reactionTimerExpiry c => decide (c < 16)
  | .partRstAck p cs => decide (p < b.partitions) && cs.all fun c => decide (c < b.cols)
  | .dmaPost ch _ _ _ _ _ => decide (ch < 8)
  | .memResponse n _ _ _ => decide (n < b.memPorts)
  | .memTimeout ch => decide (ch < 8)
  | .memReqTimeout ch => decide (ch < 8)
  | .dmaResume ch _ => decide (ch < 8)
  | .dmaAbandon ch _ => decide (ch < 8)
  | .drainEnd r => decide (r < 128)
  | .ldi c | .shi c | .add c | .sub c | .andR c | .orR c | .xorR c | .sh c | .addi c | .ld c | .st c | .ldb c
  | .stb c | .cmp c | .br c | .jal c | .jr c | .waitR c | .waitReturn c | .sqTimer c | .sqTime c | .post c | .mbox c
  | .esc c | .sqDma c | .raiseR c => decide (c < 4)
  | .sqTimerExpiry c n => decide (c < 4) && decide (n < 3)
  | .sqStall c _ => decide (c < 4)
  | .controlOverload c l => decide (c < 4) && decide (l < 19)
  | .seqRestart c _ | .seqFreeze c _ | .seqThaw c _ => decide (c < 4)
  | .mbInPtr c _ _ | .mbInDb c _ _ | .mbOutRxDone c _ _ | .mbOutDb c _ _ | .collisionClear c _ _ _ => decide (c < 256)
  | .outAckWaitTimeout c => decide (c < 8)
  | .mbInRxDone c _ k | .mbInDbClr c _ k => decide (c < 256) && decide (k < 4)
  | .tsensReading i x => decide (i < 256) && decide (x < 4096)
  | .onDieSensorRead k x => decide (k < b.clusters) && decide (x < 4096)
  | .sensorTimeout x | .sensorStuck x | .sensorRecover x => decide (x < 512)
  | .railOut r | .railIn r => decide (r < 5)
  | .clusterVddcOut k | .clusterVddcIn k => decide (k < b.clusters)
  | _ => true

end Sys2Proof
end

