-- ==== Sys2Proof/Decode.lean ====
section
/-! DEFINITION. Decoding. The block takes commands at its ports and decodes no instruction words; no row of the table
of commands gives bits, so no word spells a command. -/
namespace Sys2Proof

/-- The command a word of `nbits` bits spells by the table's bits: none, since no row gives any. [DESIGN CHOICE, log entry 4] -/
def decodeTableWord (_nbits _w : Nat) : Option Instr := none

end Sys2Proof
end

