-- ==== Sys2Proof/Machine/StWork.lean ====
section
/-! DEFINITION. What one unit of the block asks of another within a step. A step carries its items out in the order in
which they arose. -/
namespace Sys2Proof.Machine

/-- A work item. -/
inductive Work where
  /-- A fault source presents a capture to the collector (R259). -/
  | capture (c : Cap)
  /-- A unit posts a record that carries no fault: type, flags, master, content (R303). -/
  | record (type flags master : Nat) (content : List Word)
  /-- A checker has closed an operation (R81). -/
  | opClosed (chk uid : Nat)
  /-- An open operation has been discarded with a reset: its signatures are INCOMPLETE (R83, R109). -/
  | opDiscarded (chk : Nat) (o : Op)
  /-- The last pip of a closed operation is concluded: the operation is judged (R106). -/
  | opJudged (chk uid : Nat)
  /-- A checker's pip mismatch, or a closed operation's mismatch, reaches arbitration (R116). -/
  | arbOpen (host chk : Nat) (id : OpId) (forced : List Grain)
  /-- The arbitration round of a host position may have ended (R117). -/
  | arbCheck (host : Nat)
  /-- A position is quarantined with a reason (R217). -/
  | quarantine (pos reason : Nat)
  /-- Checkers are lost at the same time (R14, R222, R417), or one is regained (R224). -/
  | loseCheckers (pos : List Nat)
  | regainChecker (pos : Nat)
  /-- A rung is requested (R265). -/
  | rung (r : RungReq)
  /-- A rung's crash dump begins (R294). -/
  | crashDump
  /-- The safe state is requested (R269). -/
  | safe (cause : Nat)
  /-- A failure raises the step's requirement (R148): point, audit, micro-batch, reason. -/
  | require (point : Nat) (audit : Bool) (mb : Option Nat) (reason : Nat)
  /-- A journal record (R137). -/
  | journal (r : JRec)
  /-- A NET message (R391): destination, type, words. -/
  | net (dst type : Nat) (words : List Word)
  /-- The token gate looks at its tokens again (R168, R169). -/
  | tokens
  /-- A decode group has failed, as it is open now, or one opening of a group (R169). -/
  | badGroup (g : Nat)
  | badGen (id : Nat)
  /-- Every decode group that is open has failed (R417). -/
  | badOpen
  /-- A run or the job reaches a point that other units act on. -/
  | armed
  | disarmed
  | activation
  | commitBoundary (step : Nat) (committed : Bool)
  | marker (kind : Nat) (replay : Bool) (mb : Nat)
  /-- A descriptor of a channel has ended: its work, whether it is DONE, what it read (R313). -/
  | dmaDone (ch : Nat) (d : DmaDesc)
  | dmaData (ch : Nat) (work : DmaWork) (addr : Nat) (bytes : List Byte)
  /-- A descriptor of a channel has paused (R323). -/
  | dmaPaused (ch : Nat) (d : DmaDesc)
  /-- SQ2 supplies the detail of a FAULT record (R301). -/
  | detail (seq : Nat) (words : List Word)
  /-- A region has become ACTIVE, or has left ACTIVE (R334). -/
  | regionActive (r : Nat)
  | regionDown (r : Nat)
  /-- The thermal law is evaluated (R427). -/
  | thermal
  /-- Keys are zeroised: 0 TAMPER_N, 1 ZEROISE, 2 LOCK (R436). -/
  | zeroise (by_ : Nat)
  /-- eMRAM takes writes again (R412, R415). -/
  | writesAllowed
  /-- A global stop is requested (R291). -/
  | stop
  /-- The checkers' stores are flushed (R76), or one checker's. -/
  | flushAll
  | flush (chk : Nat)
  /-- The pip and signature registers of a checker are cleared (R280). -/
  | chkClear (chk : Nat)
  /-- The operations open on a lost checker close (R14, R222). -/
  | closeLost (chk : Nat)
  /-- A decision that the chip or the master has accepted (R158, R456). -/
  | decision (d : Decision)
  /-- The vote of a whole subtree may be complete (R153, R154). -/
  | tally
  /-- An arm or join may go on (R184, R454). -/
  | armGo
  /-- A test of a position has ended (R211, R215). -/
  | testEnd (pos : Nat) (by_ : TestBy) (code : Nat)
  /-- The suspect search looks at its queue (R286), or at an arbitration that has concluded on a tile, with its
  conclusion as ARB_STATUS.LAST has it (R287). -/
  | search
  | searchArb (n code : Nat)
  /-- A suspect's replay on a tile has diverged from its journaled signature (R287). -/
  | searchDiff (n : Nat)
deriving DecidableEq, Repr

end Sys2Proof.Machine
end

