-- ==== Sys2Proof/Machine/State.lean ====
section
/-! DEFINITION. The state of an instance, the faults and refusals of a step, and the state after reset. -/
namespace Sys2Proof.Machine

/-- Everything at one physical position: the shell's tap port of its host tile, its checker tile, the arbitration and
the hang watch of its host tile, the counters and ring of its checker, its place in the quarantine unit. -/
structure Tile where
  port : Port := {}
  chk : Checker := {}
  arb : Arb := {}
  watch : Watch := {}
  obs : Obs := {}
  pos : Pos := {}
deriving DecidableEq, Repr

/-- The state. `build` is fixed for the instance. `work` is empty between steps unless one step raised more items than
it carries out; `pending` holds the commands that wait. -/
structure State where
  build : Build := {}
  pending : List Instr := []
  work : List Work := []
  tiles : SMap Tile := []
  time : TimeKeep := {}
  mode : Mode := {}
  fault : FaultUnit := {}
  ladder : Ladder := {}
  search : Search := {}
  hangReg : Held := {}
  stop : Stop := {}
  stopReg : Held := {}
  rcd : Recorder := {}
  gran : Granary := {}
  qrs : Qrs := {}
  loader : Loader := {}
  dma : Dma := {}
  seq : Seq := {}
  mail : MailUnit := {}
  shell : Shell := {}
  step : StepUnit := {}
  mirror : Mirror := {}
  supply : Supply := {}
  thermal : Thermal := {}
  sec : Security := {}
  cas : Cascade := {}
  bring : Bringup := {}
  mem : Memtest := {}
  obs : Observe := {}
deriving DecidableEq, Repr

/-- Why a step stops with a fault. -/
inductive Fault where
  /-- A command names a unit this build does not have, or carries a value its port cannot carry (R3). Raised by every
  meaning before it acts. Safe: the hardware never takes such a command. -/
  | noSuchUnit
deriving DecidableEq, Repr

/-- Why a step is refused. -/
inductive Refusal where
  /-- A command whose meaning the model does not give yet; raised by its arm of `exec`. Safe. -/
  | notModelled (mnemonic : String)
deriving DecidableEq, Repr

/-- The reference integration right after PORST_N and BLK_RST_N are released at power-up (R253, R463): every register at
its reset value, nothing loaded, key_seed_ready high (R398), the fuse map being read (R399), the CAS_MASTER strap low. [DESIGN CHOICE, log entry 2] [DESIGN CHOICE, log entry 3] -/
def State.reset : State :=
  { shell := { keySeedReady := true, fuseReading := true }, sec := { drawn := 1 } }

end Sys2Proof.Machine
end

