-- ==== Sys2Proof/Machine/Ops.lean ====
section
/-! DEFINITION. The named operations every unit uses: access to the tiles, work items and captures, counters, latches,
event rings, held registers (R92), time stamps, and the contents of the regions. -/
namespace Sys2Proof.Machine

/-- Ask another unit for something within this step. -/
def post (s : State) (w : Work) : State := { s with work := s.work ++ [w] }

/-- Everything at position `n`. -/
def tile (s : State) (n : Nat) : Tile := sget {} s.tiles n

/-- Rewrite position `n`. -/
def updTile (s : State) (n : Nat) (f : Tile → Tile) : State := { s with tiles := supd {} s.tiles n f }

/-- The position record of `n`. -/
def pos (s : State) (n : Nat) : Pos := (tile s n).pos

/-- The logical number of a position, 0 where it bears none. -/
def logicalNum (s : State) (n : Nat) : Nat := (pos s n).logical.getD 0

/-- Insert a position before the first whose logical number is greater. -/
def insertLogical (s : State) (n : Nat) : List Nat → List Nat
  | [] => [n]
  | m :: l => if logicalNum s n < logicalNum s m then n :: m :: l else m :: insertLogical s n l

/-- Positions that an event reaches at the same time, the lower logical number first (R218). [DEDUCED, log entry 89] -/
def byLogical (s : State) (ns : List Nat) : List Nat := ns.foldl (fun l n => insertLogical s n l) []

/-- Rewrite the tap port of host tile `n`. -/
def modPort (s : State) (n : Nat) (f : Port → Port) : State := updTile s n fun t => { t with port := f t.port }
/-- Rewrite checker tile `n`. -/
def modChk (s : State) (n : Nat) (f : Checker → Checker) : State := updTile s n fun t => { t with chk := f t.chk }
/-- Rewrite the arbitration of host position `n`. -/
def modArb (s : State) (n : Nat) (f : Arb → Arb) : State := updTile s n fun t => { t with arb := f t.arb }
/-- Rewrite the hang watch of host tile `n`. -/
def modWatch (s : State) (n : Nat) (f : Watch → Watch) : State := updTile s n fun t => { t with watch := f t.watch }
/-- Rewrite the counters and ring of checker tile `n`. -/
def modObs (s : State) (n : Nat) (f : Obs → Obs) : State := updTile s n fun t => { t with obs := f t.obs }
/-- Rewrite the position record of `n`. -/
def modPos (s : State) (n : Nat) (f : Pos → Pos) : State := updTile s n fun t => { t with pos := f t.pos }

/-- An operation is open at its checker until its last beat has come, and an MM_ACC until its predecessor has closed (R75). [DEDUCED, log entry 167] -/
def opOpen (o : Op) : Bool := !o.closed || o.waitsOn.isSome

/-- Apply an operation for each element of a list, in order. -/
def forEach {α : Type} (l : List α) (s : State) (f : State → α → State) : State := l.foldl f s

/-! ### Time -/

/-- GLOBAL_TIME: the last accepted sample, plus the oscillator count at f0 while the estimate runs (R23, R396). [DESIGN CHOICE, log entry 8] [DEDUCED, log entry 19] -/
def now (s : State) : Nat := s.time.time + s.time.osc

/-- The approximate flag (R23). -/
def approx (s : State) : Bool := s.time.state != .tracking

/-- A time-stamp: the approximate flag in [63], TIME in [62:0]. [DESIGN CHOICE, log entry 8] -/
def stamp (s : State) : Word := pack [(63, 1, b2n (approx s)), (0, 63, now s)]

/-- Block time that has passed, in ticks, on the piecewise measure of R23. -/
def ticks (s : State) : Nat := s.time.elapsed / 5

/-! ### Faults -/

/-- A fault code: class, severity, index (R256). -/
def fcode (cls sev idx : Nat) : Nat := cls * 4096 + sev * 1024 + idx

/-- The class of a code. -/
def fcls (code : Nat) : Nat := code / 4096
/-- The severity of a code: 0 INFO, 1 WARN, 2 ERROR, 3 FATAL. -/
def fsev (code : Nat) : Nat := code / 1024 % 4
/-- The index of a code. -/
def fidx (code : Nat) : Nat := code % 64

/-- A fault source presents a capture (R259). -/
def raise (s : State) (c : Cap) : State := post s (.capture c)

/-- A capture of access type INTERNAL (R259). -/
def raiseI (s : State) (code master : Nat) (addr : Nat := 0) (part : Option Nat := none) : State :=
  raise s { code := code, master := master, addr := addr, part := part }

/-- A register access is refused: a capture of access type KRP_WRITE with the requester and the window offset (R259). -/
def raiseK (s : State) (code : Nat) (rq : Acc) (off : Nat) : State :=
  raise s { code := code, access := 2, master := rq.id, addr := off }

/-- FAULT_CMD_ILLEGAL (WARN). -/
def fcCmdIllegal : Nat := fcode 13 1 6
/-- PORT_RANGE (WARN). -/
def fcPortRange : Nat := fcode 8 1 0
/-- PORT_TIMEOUT (ERROR). -/
def fcPortTimeout : Nat := fcode 8 2 1
/-- SEC_ACCESS_DENIED (WARN). -/
def fcDenied : Nat := fcode 12 1 1
/-- MODE_FROZEN (WARN). -/
def fcFrozen : Nat := fcode 6 1 4

/-- A capture of access type PORT: the port group, the instance of the port within it, the payload (R259, R407). -/
def raisePort (s : State) (code group sub payload : Nat) (part : Option Nat := none) : State :=
  raise s { code := code, access := 8, master := group * 4096 + sub, addr := payload % 2 ^ 64, part := part }

/-! ### Counters, latches, rings -/

/-- The instance counter i counts k events (R473). -/
def cnt (s : State) (i : Nat) (k : Nat := 1) : State :=
  if s.obs.running then { s with obs := { s.obs with counts := supd 0 s.obs.counts i fun v => satAdd 48 v k } } else s

/-- The counter i of checker tile n counts k events (R473). -/
def tcnt (s : State) (n i : Nat) (k : Nat := 1) : State :=
  modObs s n fun o => if o.running then { o with counts := supd 0 o.counts i fun v => satAdd 48 v k } else o

/-- Core `n` of the sequencers. -/
def core (s : State) (n : Nat) : Core := sget {} s.seq.cores n

/-- Rewrite core `n`. -/
def updCore (s : State) (n : Nat) (f : Core → Core) : State :=
  { s with seq := { s.seq with cores := supd {} s.seq.cores n f } }

/-- An event source sets a latch of a core (R348, R353). -/
def latch (s : State) (n line : Nat) : State :=
  updCore s n fun c => { c with latches := c.latches ||| 2 ^ line }

/-- Ring kinds that coalesce: BEACON, and DROP on one stream (R476). -/
def ringMerges (old : RingEntry) (kind detail : Nat) : Bool :=
  fld old.w1 63 56 == kind && (kind == 4 || (kind == 5 && fld old.w1 31 0 == detail))

/-- An event enters the ring of checker tile n (R476, R477): kind, whether it concerns an adopted tile, detail,
operation. -/
def ring (s : State) (n kind : Nat) (adopted : Bool) (detail : Nat) (id : OpId := {}) : State :=
  modObs s n fun o =>
    if o.frozen then { o with lost := satAdd 16 o.lost 1 }
    else
      let w1 := pack [(56, 8, kind), (48, 1, b2n adopted), (32, 16, 1), (0, 32, detail)]
      let e : RingEntry := ⟨stamp s, w1, pack [(32, 32, id.tag), (0, 32, id.ctx)], pack [(32, 32, id.mb)]⟩
      match o.ring.getLast? with
      | some l =>
        if ringMerges l kind detail then
          { o with ring := o.ring.dropLast ++ [{ e with w1 := setFld e.w1 47 32 (satAdd 16 (fld l.w1 47 32) 1) }] }
        else { o with ring := (o.ring ++ [e]).drop (o.ring.length + 1 - 64), written := satAdd 16 o.written 1 }
      | none => { o with ring := [e], written := satAdd 16 o.written 1 }

/-! ### Held records (R92) -/

/-- A result reaches a register that holds its oldest unconsumed record; MISSED counts the others. -/
def heldPost (h : Held) (w0 w1 time : Word) : Held :=
  if h.valid then { h with missed := h.missed + 1 }
  else { valid := true, seq := wrapAdd 16 h.seq 1, missed := 0, w0 := w0, w1 := w1, time := time }

/-- The same, where SEQ counts every result, held or not (R202). -/
def heldPostAll (h : Held) (w0 w1 time : Word) : Held :=
  if h.valid then { h with missed := h.missed + 1 }
  else { valid := true, seq := wrapAdd 16 h.seq (h.missed + 1), missed := 0, w0 := w0, w1 := w1, time := time }

/-- A write of an acknowledgement: the held SEQ consumes the record, any other value is ignored. -/
def heldAck (h : Held) (v : Word) : Held :=
  if h.valid && fld v 15 0 == h.seq then { h with valid := false } else h

/-- The view of a held record: VALID in [63], SEQ in [47:32], the rest as filled. -/
def heldView (h : Held) : Word := setFld (setFld h.w0 63 63 (b2n h.valid)) 47 32 h.seq

/-- MISSED as an 8-bit register field. -/
def missed8 (h : Held) : Nat := min h.missed 255

/-! ### Records, journal, messages -/

/-- A unit posts a record (R303). -/
def record (s : State) (type master : Nat) (content : List Word) (flags : Nat := 0) : State :=
  post s (.record type flags master content)

/-- The block sends a NET message (R391). -/
def net (s : State) (dst type : Nat) (words : List Word) : State := post s (.net dst type words)

/-- NET message types of the model: Melonesh messages keep their TYPE (R177); the step protocol's own messages follow. -/
def netVote : Nat := 0x21
/-- A decision. -/
def netDecision : Nat := 0x22
/-- The record of a decision sent to the backup. -/
def netBackup : Nat := 0x23
/-- The backup's acknowledgement. -/
def netBackupAck : Nat := 0x24
/-- The answer to a query. -/
def netQuery : Nat := 0x25
/-- DECISION_QUERY. -/
def netAsk : Nat := 0x26

/-- A NET message has come: it is counted, and SQ0 sees it. -/
def netGot (s : State) : State := latch (cnt s 6) 0 3

/-! ### Regions -/

/-- Region r (R334). -/
def region (s : State) (r : Nat) : Region := sget {} s.loader.regions r

/-- Rewrite region r. -/
def updRegion (s : State) (r : Nat) (f : Region → Region) : State :=
  { s with loader := { s.loader with regions := supd {} s.loader.regions r f } }

/-- MODE_GEN counts a change of an axis (R236). -/
def bumpGen (s : State) : State :=
  cnt { s with mode := { s.mode with gen := wrapAdd 32 s.mode.gen 1 } } 15

/-- A region takes a state; each change counts in MODE_GEN (R236). -/
def setRegion (s : State) (r : Nat) (st : RegState) : State :=
  if (region s r).state = st then s else latch (bumpGen (updRegion s r fun g =>
    { g with state := st, served := st == .active || (st == .draining && g.state == .active) })) 0 5

/-- Whether region r is ACTIVE. -/
def regActive (s : State) (r : Nat) : Bool := (region s r).state == .active

/-- Whether an in-place holder has usable content: until the end of a DRAINING that began in ACTIVE (R334). -/
def regUsable (s : State) (r : Nat) : Bool :=
  (region s r).state == .active || ((region s r).state == .draining && (region s r).served)

/-- Word i of the content of region r. -/
def regWord (s : State) (r i : Nat) : Word := nthW (region s r).content i

/-- The regions a build has: 1 to 8 and the tile groups (R334). -/
def regionNumbers (b : Build) : List Nat := [1, 2, 3, 4, 5, 6, 7, 8] ++ (upto b.partitions).map (· + 16)

/-- POS[n] of the common part (R342), as a 32-bit number. -/
def posEntry (s : State) (n : Nat) : Nat :=
  let o := 2400 + 4 * n
  fld (regWord s 1 (o / 8)) (if o % 8 == 0 then 31 else 63) (if o % 8 == 0 then 0 else 32)

/-- Whether the common part has been loaded and holds usable content. -/
def topoUsable (s : State) : Bool := regUsable s 1

/-- The partition of a position, where the common part says it (R342). -/
def partOf (s : State) (n : Nat) : Option Nat := if topoUsable s then some (posEntry s n / 2 ^ 28) else none

/-- The partition of a position, 0 while unknown. -/
def part (s : State) (n : Nat) : Nat := (partOf s n).getD 0

/-- Whether a position is a spare (R342). -/
def isSpare (s : State) (n : Nat) : Bool := nbit (posEntry s n) 27

/-- The logical number the common part gives a position (R342). -/
def logicalOf (s : State) (n : Nat) : Nat := posEntry s n % 4096

/-- The positions of a partition, rising (R342). -/
def partPositions (s : State) (p : Nat) : List Nat := s.build.positions.filter fun n => partOf s n == some p

/-- The record of a position in its tile-group region (R343). -/
def tgRecord (s : State) (n : Nat) : Word × Word :=
  let r := 16 + part s n
  let ws := (region s r).content.drop 8
  let i := (upto (ws.length / 2)).find? fun i => fld (nthW ws (2 * i)) 63 52 == n
  match i with
  | some i => (nthW ws (2 * i), nthW ws (2 * i + 1))
  | none => (0, 0)

/-- Whether the first neighbour of a position is the west one (R343). -/
def firstWest (s : State) (n : Nat) : Bool := bitOf (tgRecord s n).1 0

/-- Word i of the step engine's and arbiter's copy of POLICY; zero while it holds its reset content (R334). -/
def pol (s : State) (i : Nat) : Word := nthW s.loader.policy i

/-- Whether POLICY holds its reset content. -/
def polReset (s : State) : Bool := s.loader.policy == []

/-- DOMAIN (R344). -/
def polDomain (s : State) : Nat := fld (pol s 0) 31 0
/-- COMPAT_CLASS. -/
def polCompat (s : State) : Nat := fld (pol s 0) 47 32
/-- ORPHAN: 1 UNSCREENED. -/
def polOrphanUnscreened (s : State) : Bool := bitOf (pol s 0) 48
/-- ARBITER_RANK. -/
def polArbiter (s : State) : Nat := fld (pol s 1) 15 0
/-- BACKUP_RANK. -/
def polBackup (s : State) : Nat := fld (pol s 1) 31 16

/-- CLASS_OF of a contract number in POLICY words (R344). -/
def classOfIn (ws : List Word) (n : Nat) : Nat :=
  let b := 64 + n / 2
  let byte := fld (nthW ws (b / 8)) (8 * (b % 8) + 7) (8 * (b % 8))
  if n % 2 == 0 then byte % 16 else byte / 16

/-- CLASS_OF of a contract number (R237). -/
def classOf (s : State) (n : Nat) : Nat := classOfIn s.loader.policy n

/-- Whether a class is assigned in POLICY words (R237). -/
def assignedIn (ws : List Word) (c : Nat) : Bool := (upto 255).any fun i => classOfIn ws (i + 1) == c

/-- Whether a class is assigned; while POLICY holds its reset content none shows one. -/
def classAssigned (s : State) (c : Nat) : Bool := !(polReset s) && assignedIn s.loader.policy c

/-- The active record of a contract number (R58). -/
def contractOf (s : State) (n : Nat) : Option Contract :=
  if regUsable s 2 then s.loader.contracts.find? fun c => cNo c == n else none

/-! ### Axes and levels -/

/-- JOB_MODE of STEP_CONFIG: 0 TRAIN, 1 DECODE, 2 EVAL. -/
def jobMode (s : State) : Nat := fld s.step.eng.config 3 2
/-- Whether the job mode is DECODE. -/
def isDecode (s : State) : Bool := jobMode s == 1
/-- COMMIT_STYLE of STEP_CONFIG: UNDO. -/
def isUndo (s : State) : Bool := bitOf s.step.eng.config 0
/-- The mirror MODE: 0 NONE, 1 REPLICA, 2 COPY. -/
def mirMode (s : State) : Nat := fld s.mirror.modeReg 1 0
/-- The security state as the axes show it: LOCKED until the state word has been read (R438). -/
def secState (s : State) : SecState := s.sec.state.getD .locked
/-- The recovery level (R234). -/
def recovery (s : State) : Nat := s.ladder.recovery

/-- The level of a code from 1 to 5. -/
def levelOf (n : Nat) : Level :=
  match n with
  | 2 => .sentry | 3 => .sample | 4 => .audit | 5 => .quarantine | _ => .off

/-- CLASS[c] of MODE_LEVEL_REQ. -/
def levelReq (s : State) (c : Nat) : Nat := fld s.mode.levelReq (3 * c + 2) (3 * c)

/-- DEFAULT of a class in the job mode in force, 0 for none (R237). -/
def levelDefault (s : State) (c : Nat) : Nat := if jobMode s < 3 then fld (pol s (5 + jobMode s)) (3 * c + 2) (3 * c) else 0

/-- The procedure of R238 below its position test: contract number, whether the work is replay work, whether AUDIT is
forced. -/
def classLevel (s : State) (con : Nat) (replay forced : Bool) : Level :=
  if !(regActive s 2) then .off
  else if con = 0 || (contractOf s con).isNone then .off
  else
    let c := classOf s con
    let lv := if levelReq s c = 0 then levelDefault s c else levelReq s c
    if lv = 0 then .off
    else if lv = 5 then .quarantine
    else
      let lv := if replay then min (lv + 1) 4 else lv
      let lv := if forced then 4 else lv
      let lv := if secState s = .locked then min lv 2 else lv
      levelOf (if isDecode s && lv == 4 then 3 else lv)

/-- The level MODE_LEVEL_EFF shows for class c (R255). [DEDUCED, log entry 37] -/
def levelEff (s : State) (c : Nat) : Nat :=
  if !(classAssigned s c) then 0
  else if !(regActive s 2) then 1
  else
    let lv := if levelReq s c = 0 then levelDefault s c else levelReq s c
    if lv = 0 then 1
    else if lv = 5 then 5
    else
      let lv := if secState s = .locked then min lv 2 else lv
      if isDecode s && lv == 4 then 3 else lv

/-- MODE_LEVEL_EFF (R254). -/
def levelEffWord (s : State) : Word := pack ((upto 16).map fun c => (3 * c, 3, levelEff s c))

/-- The power state changes; the change counts in MODE_GEN (R236, R250). -/
def setPower (s : State) (p : Power) : State :=
  if s.mode.power = p then s else bumpGen { s with mode := { s.mode with power := p } }

/-- The phase changes (R134); the change counts in MODE_GEN. In the safe state it is frozen (R252). -/
def setPhase (s : State) (p : Phase) (replay : Bool) : State :=
  let e := s.step.eng
  if (e.phase = p ∧ e.replay = replay) ∨ s.fault.safe then s
  else bumpGen { s with step := { s.step with eng := { e with phase := p, replay := replay } } }

/-- The recovery level changes (R234); the change counts in MODE_GEN. In the safe state it is frozen (R252). -/
def setRecovery (s : State) (r : Nat) : State :=
  if s.ladder.recovery = r || s.fault.safe then s else bumpGen { s with ladder := { s.ladder with recovery := r } }

/-- Whether the sampling reduction or throttle of some partition is non-zero (R250). -/
def lawActive (s : State) : Bool := s.thermal.parts.any fun p => p.2.red != 0 || p.2.throt != 0

/-- Leave QUIESCE, or follow the law while not in it (R250). -/
def powerByLaw (s : State) : State := setPower s (if lawActive s then .throttle else .run)

/-- A request is refused or demoted: MODE_REFUSED (R251, R254). -/
def modeRefused (s : State) (axis treat reason cls req : Nat) : State :=
  let w := pack [(60, 3, axis), (56, 4, treat), (52, 4, reason), (48, 4, cls), (20, 4, req)]
  { s with mode := { s.mode with refused := heldPost s.mode.refused w 0 (stamp s) } }

/-- A write that the safe state refuses: MODE_FROZEN, and MODE_REFUSED with REASON FROZEN (R252). [DESIGN CHOICE, log entry 92] -/
def frozen (s : State) (rq : Acc) (off axis req : Nat) : State :=
  modeRefused (raiseK s fcFrozen rq off) axis 1 3 0 req

/-- A write that only the secure attribute allows: a non-secure one completes with DENIED and changes nothing (R9). -/
def secure (rq : Acc) (s t : State) : State := if rq.sec then t else s

/-- Whether a checker's position is covered by a tile-group region that serves work (R248). -/
def groupServes (s : State) (n : Nat) : Bool := topoUsable s && regUsable s (16 + part s n)

/-- Whether the riser of a position's column is live (R14). -/
def riserUp (s : State) (n : Nat) : Bool := s.time.risers.contains (s.build.col n)

/-- Whether the VDDC of a position's cluster is out of range (R417). -/
def clusterOut (s : State) (n : Nat) : Bool := s.supply.clustersOut.contains (s.build.cluster n)

/-- Whether the step engine is armed. -/
def isArmed (s : State) : Bool := s.step.eng.armed

/-- Rewrite the step engine. -/
def modEng (s : State) (f : Step → Step) : State := { s with step := { s.step with eng := f s.step.eng } }
/-- Rewrite the vote state. -/
def modVote (s : State) (f : VoteState → VoteState) : State := { s with step := { s.step with vote := f s.step.vote } }
/-- Rewrite the token gate. -/
def modGate (s : State) (f : Gate → Gate) : State := { s with step := { s.step with gate := f s.step.gate } }
/-- Rewrite the journal. -/
def modJnl (s : State) (f : Journal → Journal) : State := { s with step := { s.step with jnl := f s.step.jnl } }
/-- Rewrite the coverage of the open interval. -/
def modCov (s : State) (f : Cov → Cov) : State := { s with step := { s.step with cov := f s.step.cov } }
/-- Rewrite the coverage of interval `iv`: the open one, or one that has closed and is not yet posted (R122). -/
def modCovAt (s : State) (iv : Nat) (f : Cov → Cov) : State :=
  if s.step.covReady.any fun c => c.no == iv then
    { s with step := { s.step with covReady := s.step.covReady.map fun c => if c.no == iv then f c else c } }
  else modCov s f
/-- Rewrite the mirror. -/
def modMir (s : State) (f : Mirror → Mirror) : State := { s with mirror := f s.mirror }
/-- Rewrite the recorder. -/
def modRcd (s : State) (f : Recorder → Recorder) : State := { s with rcd := f s.rcd }
/-- Rewrite the fault collector. -/
def modFault (s : State) (f : FaultUnit → FaultUnit) : State := { s with fault := f s.fault }
/-- Rewrite the security unit. -/
def modSec (s : State) (f : Security → Security) : State := { s with sec := f s.sec }
/-- Draw the next value of the entropy source, or a value that the manual leaves free: its number, and the state after. [DESIGN CHOICE, log entry 12] -/
def drawNext (s : State) : Nat × State := (s.sec.drawn, modSec s fun u => { u with drawn := u.drawn + 1 })
/-- Rewrite the cascade. -/
def modCas (s : State) (f : Cascade → Cascade) : State := { s with cas := f s.cas }
/-- Rewrite the OBSERVE block. -/
def modOb (s : State) (f : Observe → Observe) : State := { s with obs := f s.obs }

/-- A DMA channel. -/
def chan (s : State) (c : Nat) : Channel := sget {} s.dma.ch c

/-- Rewrite a channel. -/
def updChan (s : State) (c : Nat) (f : Channel → Channel) : State :=
  { s with dma := { s.dma with ch := supd {} s.dma.ch c f } }

end Sys2Proof.Machine
end

