-- ==== Sys2Proof/Machine/Mail.lean ====
section
/-! DEFINITION. The mailboxes and doorbells (R364–R375). -/
namespace Sys2Proof.Machine

/-- Channel c of the mailboxes. -/
def mbox (s : State) (c : Nat) : Mbox := sget {} s.mail.ch c

/-- Rewrite channel c. -/
def updMbox (s : State) (c : Nat) (f : Mbox → Mbox) : State :=
  { s with mail := { s.mail with ch := supd {} s.mail.ch c f } }

/-- Whether a requester may use channel c (R364): secure channels need the secure attribute. -/
def mbAllowed (rq : Acc) (c : Nat) : Bool := rq.sec || decide (c ≥ 4)

/-- Whether the requester is a sequencer (R357, R369). -/
def isSq (rq : Acc) : Bool := decide (0xFFF0 ≤ rq.id) && decide (rq.id ≤ 0xFFF3)

/-- FULL of the inbound slot (R366). -/
def inFull (m : Mbox) : Bool := m.inSeq != m.inRx
/-- FULL of the outbound slot. -/
def outFull (m : Mbox) : Bool := m.outSeq != m.outRx

/-- MBOX_COLLISION (WARN). -/
def fcCollision : Nat := fcode 13 1 3

/-- A write of MB_IN_PTR: the inbound post (R365, R367). An epoch other than that of the post before abandons the block's reply
in progress on the channel: nothing of it is waited for any more (R374). [DESIGN CHOICE, log entry 185] -/
def mbInPost (rq : Acc) (c : Nat) (v : Word) (s : State) : State :=
  if !(mbAllowed rq c) then s
  else
    let m := mbox s c
    let hit := inFull m
    let s := updMbox s c fun m =>
      { m with
        inPtr := v, inEpoch := m.inStaged, inSeq := wrapAdd 16 m.inSeq 1, inColl := m.inColl || hit,
        prevEpoch := m.inStaged, outWait := m.outWait && m.inStaged == m.prevEpoch,
        outDue := m.outDue && m.inStaged == m.prevEpoch }
    let s := latch s 3 0
    if hit then latch (raiseK s fcCollision rq (0x030000 + c * 0x100)) 3 3 else s

/-- SQ3 event line 1: a set inbound doorbell with its mask bit at 1 (R368). -/
def dbLine (s : State) (c : Nat) : State :=
  let m := mbox s c
  if m.inDb &&& m.inMask != 0 then latch s 3 1 else s

/-- A W1S write of MB_IN_DB (R368). -/
def mbInDbSet (rq : Acc) (c : Nat) (v : Word) (s : State) : State :=
  if !(mbAllowed rq c) then s
  else
    let s' := updMbox s c fun m => { m with inDb := m.inDb ||| fld v 31 0 }
    if fld v 31 0 &&& (mbox s c).inMask != 0 then latch s' 3 1 else s'

/-- MB_IN_RX_DONE by a sequencer (R366, R369); the wait that stood behind the inbound message begins (R371). -/
def mbInRx (rq : Acc) (c : Nat) (v : Word) (s : State) : State :=
  if isSq rq then
    updMbox s c fun m =>
      let m := { m with inRx := fld v 15 0 }
      if m.outDue && !(inFull m) then { m with outDue := false, outWait := true } else m
  else s

/-- MB_IN_DB_CLR by a sequencer (R368, R369). -/
def mbInDbClear (rq : Acc) (c : Nat) (v : Word) (s : State) : State :=
  if isSq rq then updMbox s c fun m => { m with inDb := m.inDb - (m.inDb &&& fld v 31 0) } else s

/-- MB_IN_DB_MASK by a sequencer (R369). -/
def mbInMaskWrite (rq : Acc) (c : Nat) (v : Word) (s : State) : State :=
  if isSq rq then dbLine (updMbox s c fun m => { m with inMask := fld v 31 0 }) c else s

/-- MB_OUT_RX_DONE by the host (R366); the host's write sets SQ3 line 2 (R368). -/
def mbOutRx (rq : Acc) (c : Nat) (v : Word) (s : State) : State :=
  if !(mbAllowed rq c) then s
  else
    let left := fld v 15 0 != (mbox s c).outSeq
    let s := updMbox s c fun m =>
      { m with outRx := fld v 15 0, outWait := m.outWait && left, outDue := m.outDue && left }
    if isSq rq then s else latch s 3 2

/-- A W1C write of MB_OUT_DB (R368). -/
def mbOutDbClear (rq : Acc) (c : Nat) (v : Word) (s : State) : State :=
  if !(mbAllowed rq c) then s else updMbox s c fun m => { m with outDb := m.outDb - (m.outDb &&& fld v 31 0) }

/-- A W1C write of a slot's status clears COLLISION (R367). -/
def mbCollClear (rq : Acc) (c : Nat) (out : Bool) (v : Word) (s : State) : State :=
  if !(mbAllowed rq c) || !(bitOf v 62) then s
  else updMbox s c fun m => if out then { m with outColl := false } else { m with inColl := false }

/-- The wait for an outbound acknowledgement ends after 10 ms (R371). -/
def outWaitEnds (c : Nat) (s : State) : State := updMbox s c fun m => { m with outWait := false }

/-- An outbound buffer lies inside the area the host names; no buffer, LEN 0, always does (R370). -/
def inOutArea (area ptr : Word) : Bool :=
  let first := fld ptr 63 16 * 512
  fld ptr 15 4 == 0 ||
    (decide (fld area 56 12 * 4096 ≤ first) &&
      decide (first + fld ptr 15 4 * 64 ≤ (fld area 56 12 + fld area 11 0) * 4096))

/-- The pointer the block posts: a buffer outside the area of the channel is no buffer, LEN 0 (R370). [DESIGN CHOICE, log entry 185] -/
def outPtrOf (area ptr : Word) : Word := if inOutArea area ptr then ptr else setFld ptr 15 4 0

/-- MBOX: the outbound post with its doorbells (R351, R365, R367). The wait for its acknowledgement begins at once, or once the
block has acknowledged the inbound slot where that is FULL (R371). -/
def mbOutPost (c : Nat) (ptr : Word) (db : Nat) (s : State) : State :=
  let m := mbox s c
  let hit := outFull m
  let s := updMbox s c fun m =>
    { m with
      outPtr := outPtrOf m.outArea ptr, outEpoch := s.mail.blockEpoch, outSeq := wrapAdd 16 m.outSeq 1, outColl := m.outColl || hit,
      outDb := m.outDb ||| db % 2 ^ 32, outWait := !(inFull m), outDue := inFull m }
  if hit then latch (raiseI s fcCollision 10 c) 3 3 else s

/-- MB_BLOCK_EPOCH follows RESUME and the starts of SQ3 (R372). -/
def setEpoch (s : State) : State :=
  let m := s.mail
  { s with mail := { m with blockEpoch := (m.resume % 2 ^ 24) * 2 ^ 8 + m.starts % 2 ^ 8 } }

/-- SQ3 starts: the epoch changes, and lines 0 and 1 are set for what waits (R372, R373). -/
def mailSq3Start (s : State) : State :=
  let s := setEpoch { s with mail := { s.mail with starts := s.mail.starts + 1 } }
  let s := if (upto 8).any (fun c => inFull (mbox s c)) then latch s 3 0 else s
  if (upto 8).any (fun c => (mbox s c).inDb &&& (mbox s c).inMask != 0) then latch s 3 1 else s

/-- A BOOT record gives a new RESUME (R372). -/
def mailBoot (s : State) (resume : Nat) : State :=
  setEpoch { s with mail := { s.mail with resume := resume, starts := 0 } }

/-- Whether mailbox doorbells hold IRQ_S, over channels 0 to 3, or IRQ_NS, over 4 to 7 (R368). [DESIGN CHOICE, log entry 10] -/
def mailIrq (s : State) (ns : Bool) : Bool :=
  (upto 4).any fun i =>
    let m := mbox s (if ns then 4 + i else i)
    m.outDb &&& m.outMask != 0

/-- The status view of a slot (R375). -/
def slotStatus (full coll : Bool) (seq epoch : Nat) : Word :=
  pack [(63, 1, b2n full), (62, 1, b2n coll), (32, 16, seq), (0, 32, epoch)]

/-- The MAILBOX block (R375), by window offset. -/
def viewMail (s : State) (off : Nat) : Option Word :=
  if off == 0x030800 then some (pack [(0, 32, s.mail.blockEpoch)])
  else if 0x030000 ≤ off && off < 0x030800 then
    let m := mbox s ((off - 0x030000) / 0x100)
    match (off - 0x030000) % 0x100 with
    | 0x00 => some m.inPtr
    | 0x08 => some (pack [(0, 32, m.inStaged)])
    | 0x10 => some (slotStatus (inFull m) m.inColl m.inSeq m.inEpoch)
    | 0x18 => some (pack [(0, 16, m.inRx)])
    | 0x20 => some (pack [(0, 32, m.inDb)])
    | 0x28 => some (pack [(0, 32, m.inDb)])
    | 0x30 => some (pack [(0, 32, m.inMask)])
    | 0x40 => some m.outPtr
    | 0x48 => some (slotStatus (outFull m) m.outColl m.outSeq m.outEpoch)
    | 0x50 => some (pack [(0, 16, m.outRx)])
    | 0x58 => some (pack [(0, 32, m.outDb)])
    | 0x60 => some (pack [(0, 32, m.outMask)])
    | 0x68 => some m.outArea
    | _ => none
  else none

end Sys2Proof.Machine
end

