-- ==== Sys2Proof/Machine/Verify.lean ====
section
/-! DEFINITION. The content rules a region must pass in VERIFYING, each with the byte offset of its field (R336): the
common part of TOPOLOGY (R342), tile groups (R343), CONTRACTS (R59), POLICY (R344), REACTION (R262), RECORDER (R304),
THERMAL (R429), MICROCODE (R358) and SECURITY (R443). -/
namespace Sys2Proof.Machine

/-- The byte offset of the first rule that fails, none where all hold. -/
def firstBad : List (Bool × Nat) → Option Nat
  | [] => none
  | (ok, o) :: r => if ok then firstBad r else some o

/-- The byte offset of the field that starts at a bit of a word. [DEDUCED, log entry 165] -/
def at_ (word bit : Nat) : Nat := 8 * word + bit / 8

/-- Whether a list of numbers has no repeats. -/
def noRepeats : List Nat → Bool
  | [] => true
  | x :: r => !(r.contains x) && noRepeats r

/-- POS[n] in the words of a common part. -/
def posIn (ws : List Word) (n : Nat) : Nat :=
  let o := 2400 + 4 * n
  fld (nthW ws (o / 8)) (if o % 8 == 0 then 31 else 63) (if o % 8 == 0 then 0 else 32)

/-- A MEM window: base, granule, limit, port mask (R342, R317). -/
structure Window where
  base : Nat := 0
  gran : Nat := 0
  limit : Nat := 0
  mask : Nat := 0
deriving DecidableEq, Repr

/-- Window w of the words of a common part (R342). -/
def windowIn (ws : List Word) (w : Nat) : Window :=
  let a := nthW ws (12 + 2 * w); let b := nthW ws (13 + 2 * w)
  ⟨fld a 51 30 * 2 ^ 30, fld a 4 0, fld b 51 30 * 2 ^ 30, fld b 15 0⟩

/-- Whether two windows have no address in common. -/
def windowsApart (a b : Window) : Bool := decide (a.limit ≤ b.base) || decide (b.limit ≤ a.base)

/-- The rules of window w of a common part (R342). -/
def windowRules (b : Build) (ws : List Word) (wins w : Nat) : List (Bool × Nat) :=
  let i := 12 + 2 * w
  let a := nthW ws i; let c := nthW ws (i + 1); let x := windowIn ws w
  if w < wins then
    [(fld a 63 52 == 0, at_ i 52), (fld a 29 5 == 0, at_ i 5), (fld c 63 52 == 0, at_ (i + 1) 52), (fld c 29 16 == 0, at_ (i + 1) 16),
     (decide (12 ≤ x.gran) && decide (x.gran ≤ 30), at_ i 0), (decide (x.base < x.limit), at_ (i + 1) 30),
     (x.mask != 0 && decide (x.mask < 2 ^ b.memPorts), at_ (i + 1) 0),
     ((upto w).all fun v => windowsApart (windowIn ws v) x, at_ i 30)]
  else [(a == 0, at_ i 0), (c == 0, at_ (i + 1) 0)]

/-- The rules of KAT entry k of a common part (R342). -/
def katRules (ws : List Word) (kats k : Nat) : List (Bool × Nat) :=
  let o := 44 + 4 * k
  if k < kats then
    [(fld (nthW ws o) 63 32 == 0, at_ o 32),
     ((upto k).all fun j => fld (nthW ws (44 + 4 * j)) 31 0 != fld (nthW ws o) 31 0, at_ o 0)]
  else (upto 4).map fun i => (nthW ws (o + i) == 0, at_ (o + i) 0)

/-- The first number of a list that stands in it before, or is not below a limit. -/
def repeated (limit : Nat) : List Nat → List (Nat × Nat) → Option Nat
  | _, [] => none
  | seen, (l, o) :: r => if seen.contains l || decide (limit ≤ l) then some o else repeated limit (l :: seen) r

/-- The common part of TOPOLOGY (R342). -/
def verifyTopo (b : Build) (ws : List Word) : Option Nat :=
  let w0 := nthW ws 0
  let kats := fld w0 39 32; let wins := fld w0 47 40
  let pos := upto b.tiles
  let e (n : Nat) := posIn ws n
  let at4 (n bit : Nat) := 2400 + 4 * n + bit / 8
  let bad := repeated b.logical [] ((pos.filter fun n => !(nbit (e n) 27)).map fun n => (e n % 4096, at4 n 0))
  firstBad ([
    (ws.length == ceilDiv (2400 + 4 * b.tiles) 8, 0),
    (decide (kats ≤ 64), at_ 0 32), (decide (1 ≤ wins) && decide (wins ≤ 16), at_ 0 40), (fld w0 63 48 == 0, at_ 0 48),
    (fld (nthW ws 7) 63 16 == 0, at_ 7 16)] ++
    ((upto 16).flatMap (windowRules b ws wins)) ++ ((upto 64).flatMap (katRules ws kats)) ++
    (pos.flatMap fun n =>
      [(decide (e n / 2 ^ 28 < b.partitions), at4 n 28), ((e n / 2 ^ 12) % 2 ^ 15 == 0, at4 n 12),
       (!(nbit (e n) 27) || e n % 4096 == 0, at4 n 0)]) ++
    [((upto b.partitions).all fun p => pos.any fun n => e n / 2 ^ 28 == p && !(nbit (e n) 27), at4 0 28),
     ((pos.filter fun n => nbit (e n) 27).length == b.spares, at4 0 27), (bad.isNone, bad.getD 0)])

/-- A tile-group region of partition g against the active common part (R343). -/
def verifyGroup (s : State) (g : Nat) (ws : List Word) : Option Nat :=
  let w0 := nthW ws 0
  let members := partPositions s g
  firstBad ([
    (fld w0 3 0 == g, 0), (fld w0 15 4 == 0, at_ 0 4), (fld w0 27 16 == members.length, at_ 0 16), (fld w0 63 28 == 0, at_ 0 28)] ++
    ((upto 7).map fun i => (nthW ws (i + 1) == 0, at_ (i + 1) 0)) ++ [(ws.length == 8 + 2 * members.length, 0)] ++
    ((upto members.length).flatMap fun i =>
      let o := 8 + 2 * i
      let a := nthW ws o; let c := nthW ws (o + 1)
      let n := fld a 63 52
      [(n == nthN members i, at_ o 52), (fld a 51 10 == 0, at_ o 10), (fld a 7 6 == 0, at_ o 6), (fld a 3 1 == 0, at_ o 1),
       (fld a 9 8 != 3, at_ o 8), (fld a 5 4 != 3, at_ o 4),
       (if bitOf a 0 then s.build.col n != 0 else s.build.col n + 1 != s.build.cols, at_ o 0),
       (fld c 63 6 == 0, at_ (o + 1) 6)]))

/-- The records of a CONTRACTS region (R56). -/
def contractsOf (ws : List Word) : List Contract :=
  (upto (ws.length / 4)).map fun i => ⟨nthW ws (4 * i), nthW ws (4 * i + 1), nthW ws (4 * i + 2), nthW ws (4 * i + 3)⟩

/-- CONTRACTS (R59). -/
def verifyContracts (ws : List Word) : Option Nat :=
  let cs := contractsOf ws
  firstBad ([(ws.length % 4 == 0 && decide (cs.length ≤ 255), 0)] ++
    ((upto cs.length).flatMap fun i =>
      match cs[i]? with
      | some c => (contractRules c ++ [((cs.take i).all fun d => cNo d != cNo c, 0)]).map fun (ok, o) => (ok, 32 * i + o)
      | none => []))

/-- POLICY, with its defaults applied (R344), and the condition of R339 while armed. -/
def verifyPolicy (s : State) (ws : List Word) : Option Nat :=
  let w (i : Nat) := nthW ws i
  let us (v d : Nat) := if v = 0 then d else v
  let vote := us (fld (w 2) 31 0) 20000; let wait := us (fld (w 2) 63 32) 1000
  let dec := us (fld (w 3) 31 0) 100000
  let hang := us (fld (w 4) 31 0) 50000; let stop := us (fld (w 4) 63 32) 100000
  let inRange (t : Nat) := decide (1000 ≤ t) && decide (t ≤ 10000000)
  firstBad ([
    (ws.length == 24, 0),
    (fld (w 0) 63 49 == 0, at_ 0 49),
    (fld (w 1) 63 32 == 0, at_ 1 32),
    (fld (w 1) 15 0 != fld (w 1) 31 16, at_ 1 0),
    (decide (dec ≥ 4 * vote + 2 * wait), at_ 3 0),
    (inRange hang, at_ 4 0), (inRange stop, at_ 4 32)] ++
    ((upto 3).flatMap fun m => (fld (w (5 + m)) 63 48 == 0, at_ (5 + m) 48) :: (upto 16).map fun c =>
        let d := fld (w (5 + m)) (3 * c + 2) (3 * c)
        (if assignedIn ws c then decide (1 ≤ d) && decide (d ≤ 4) && (m != 1 || d != 4) else d == 0, at_ (5 + m) (3 * c))) ++
    [(classOfIn ws 0 == 0, 64),
     (!(isArmed s) || fld (w 0) 31 0 == fld (pol s 0) 31 0, at_ 0 0), (!(isArmed s) || fld (w 0) 47 32 == fld (pol s 0) 47 32, at_ 0 32)])

/-- REACTION (R262). -/
def verifyReaction (ws : List Word) : Option Nat :=
  firstBad ([(ws.length == 16, 0)] ++ (upto 16).flatMap fun c =>
    let w := nthW ws c
    if c == 15 then [(w == 0, at_ c 0)]
    else [(decide (fld w 63 60 ≤ 5), at_ c 60), (fld w 59 56 == 4 || fld w 59 56 == 5 || fld w 59 56 == 6, at_ c 56),
      (fld w 55 34 == 0, at_ c 34), (decide (fld w 33 0 ≤ 10000000000), at_ c 0)])

/-- Code entry k of RECORDER words (R304), as 32 bits. -/
def codeEntry (ws : List Word) (k : Nat) : Nat := fld (nthW ws (k / 2)) (32 * (k % 2) + 31) (32 * (k % 2))

/-- The offsets of snapshot list `l` (1 to 32) of RECORDER words, up to its end (R304). -/
def snapList (ws : List Word) (l : Nat) : List Nat :=
  if l = 0 then []
  else ((upto 24).map fun i =>
    let k := 1024 + 24 * (l - 1) + i
    fld (nthW ws (k / 2)) (32 * (k % 2) + 23) (32 * (k % 2))).takeWhile fun o => o != 0xFFFFFF

/-- RECORDER (R304); `exists_` says which window offsets hold a register. -/
def verifyRecorder (exists_ : Nat → Bool) (ws : List Word) : Option Nat :=
  let sum := (upto 1024).foldl (fun a k =>
    let e := codeEntry ws k
    a + (e % 2 ^ 18) * (1 + ceilDiv (snapList ws ((e / 2 ^ 18) % 64)).length 10)) 0
  firstBad ([(ws.length == 512 + 384, 0)] ++
    ((upto 1024).map fun k =>
      if k ≥ 960 then (codeEntry ws k == 0, 4 * k) else (decide ((codeEntry ws k / 2 ^ 18) % 64 ≤ 32), 4 * k + 2)) ++
    ((upto 32).flatMap fun l =>
      let os := snapList ws (l + 1)
      (upto os.length).map fun i =>
        let o := nthN os i
        (exists_ o && !(decide (0x020080 ≤ o) && decide (o < 0x020100)), 4096 + 96 * l + 4 * i)) ++
    [(decide (sum ≤ 40000), 0)])

/-- Sensor entry x of THERMAL words (R429). -/
def sensIn (ws : List Word) (x : Nat) : Word := nthW ws (8 + x)

/-- The four named sensors of an entry that are not 0x1FF (R429). -/
def sensNames (w : Word) : List Nat :=
  ((upto 4).map fun i => fld w (9 * i + 8) (9 * i)).filter fun n => n != 0x1FF

/-- THERMAL (R429). -/
def verifyThermal (s : State) (ws : List Word) : Option Nat :=
  let h := nthW ws 0
  let exists_ (n : Nat) := decide (n < s.build.clusters) || decide (256 ≤ n)
  let ok (n : Nat) := bitOf (sensIn ws n) 63 && !(bitOf (sensIn ws n) 62)
  let name (e : Word) (i : Nat) := fld e (9 * i + 8) (9 * i)
  firstBad ([
    (ws.length == 520, 0),
    (decide (fld h 11 0 < fld h 27 16), at_ 0 0), (decide (fld h 27 16 ≤ 1712), at_ 0 16), (decide (1 ≤ fld h 39 32), at_ 0 32),
    (fld h 15 12 == 0, at_ 0 12), (fld h 31 28 == 0, at_ 0 28), (fld h 63 40 == 0, at_ 0 40)] ++
    ((upto 7).map fun i => (nthW ws (i + 1) == 0, at_ (i + 1) 0)) ++
    (upto 512).flatMap fun x =>
      let e := sensIn ws x; let i := 8 + x
      if x < 256 && !(exists_ x) then [(e == 0, at_ i 0)]
      else
        [(fld e 61 60 == 0, at_ i 60), (fld e 47 36 == 0, at_ i 36), (decide (x ≥ 256) || bitOf e 63, at_ i 63),
         (decide (x ≥ 256) || some (fld e 59 56) == partOf s (s.build.clusterFirst x), at_ i 56)] ++
        ((upto 4).map fun k => (name e k == 0x1FF || exists_ (name e k), at_ i (9 * k))) ++
        [(!(bitOf e 62) || !((sensNames e).isEmpty), at_ i 0)] ++
        ((upto 4).map fun k => (!(bitOf e 62) || name e k == 0x1FF || ok (name e k), at_ i (9 * k))))

/-- The opcode of an instruction word (R350). -/
def iOp (w : Nat) : Nat := w / 2 ^ 27
/-- rd. -/
def iRd (w : Nat) : Nat := (w / 2 ^ 23) % 16
/-- ra. -/
def iRa (w : Nat) : Nat := (w / 2 ^ 19) % 16
/-- rb of layout R. -/
def iRb (w : Nat) : Nat := (w / 2 ^ 15) % 16
/-- imm of layout I. -/
def iImm (w : Nat) : Nat := w % 2 ^ 19

/-- An instruction word that keeps R350 and R351: its opcode is legal and its zero fields are zero. -/
def instrLegal (w : Nat) : Bool :=
  let op := iOp w
  if op == 0 || decide (op ≥ 0x1A) then false
  else if decide (3 ≤ op) && decide (op ≤ 7) then w % 2 ^ 15 == 0
  else if op == 0x0E then (w / 8) % 2 ^ 12 == 0 && decide (w % 8 ≤ 5)
  else if op == 0x02 || op == 0x0F || op == 0x10 || op == 0x12 then iRa w == 0
  else if op == 0x08 then iImm w / 2 ^ 7 == 0
  else if op == 0x11 then iImm w == 0
  else if op == 0x14 then iRa w == 0 && iImm w == 0
  else if op == 0x17 then iRd w == 0
  else if op == 0x19 then iImm w / 2 ^ 16 == 0
  else true

/-- The instruction at an offset from another, in the thirteen bits of the program counter (R349, R351). -/
def jumpTo (pc : Nat) (off : Int) : Nat := (((pc : Int) + off) % 2 ^ 13).toNat

/-- The target of a BR or JAL lies in an image of `len` instructions (R358). -/
def targetIn (len a w : Nat) : Bool :=
  let off : Int := if iOp w == 0x0F then toSigned 18 (iImm w) else if iOp w == 0x10 then toSigned 19 (iImm w) else 0
  decide (jumpTo a off < len)

/-- Instruction `i` of packed words. [DEDUCED, log entry 121] -/
def instrAt (ws : List Word) (i : Nat) : Nat := fld (nthW ws (i / 2)) (32 * (i % 2) + 31) (32 * (i % 2))

/-- The images of a MICROCODE region: for each core its instructions and its initial data words (R358). -/
def images (ws : List Word) : List (List Nat × List Word) :=
  let go := (upto 4).foldl (fun (acc : List (List Nat × List Word) × List Word) n =>
    let h := nthW ws n
    let len := fld h 13 0; let ini := fld h 47 32 / 8
    let cw := ceilDiv len 2
    (acc.1 ++ [((upto len).map (instrAt acc.2), (acc.2.drop cw).take ini)], acc.2.drop (cw + ini))) ([], ws.drop 8)
  go.1

/-- The byte offset of the first instruction that breaks R350 or R351 or leaves its image, or of a word after an odd LENGTH that is
not zero (R358). -/
def badInstr (ws : List Word) : Option Nat :=
  ((images ws).foldl (fun (acc : Nat × Option Nat) im =>
    let len := im.1.length
    let bad := (upto len).find? fun a => !(instrLegal (nthN im.1 a) && targetIn len a (nthN im.1 a))
    let pad := if len % 2 == 1 && instrAt (ws.drop (acc.1 / 8)) len != 0 then some len else none
    let bad := bad <|> pad
    (acc.1 + 8 * (ceilDiv len 2 + im.2.length), acc.2 <|> bad.map (acc.1 + 4 * ·))) (64, none)).2

/-- MICROCODE (R358). -/
def verifyMicro (ws : List Word) : Option Nat :=
  let h (n : Nat) := nthW ws n
  let len (n : Nat) := fld (h n) 13 0
  let ini (n : Nat) := fld (h n) 47 32
  let size := (upto 4).foldl (fun a n => a + ceilDiv (len n) 2 + ini n / 8) 8
  firstBad (
    ((upto 4).flatMap fun n =>
      [(decide (1 ≤ len n) && decide (len n ≤ 8192), at_ n 0), (fld (h n) 31 14 == 0, at_ n 14),
       (ini n % 8 == 0 && decide (ini n ≤ 16384), at_ n 32), (fld (h n) 63 48 == 0, at_ n 48)]) ++
    ((upto 4).map fun i => (nthW ws (4 + i) == 0, at_ (4 + i) 0)) ++
    [(ws.length == size, 0), ((badInstr ws).isNone, (badInstr ws).getD 0)])

/-- SECURITY (R443). -/
def verifySecurity (ws : List Word) : Option Nat :=
  firstBad [(ws.length == 528, 0),
    (fld (nthW ws 0) 1 0 != 3, at_ 0 0), (fld (nthW ws 0) 7 2 == 0, at_ 0 2), (fld (nthW ws 0) 63 9 == 0, at_ 0 9)]

/-- The content rules of region r: the offset of a field that breaks one, none where all hold (R336). -/
def verifyRegion (exists_ : Nat → Bool) (s : State) (r : Nat) (ws : List Word) : Option Nat :=
  match r with
  | 1 => verifyTopo s.build ws
  | 2 => verifyContracts ws
  | 3 => verifyPolicy s ws
  | 4 => verifyReaction ws
  | 5 => verifyRecorder exists_ ws
  | 6 => verifyThermal s ws
  | 7 => verifyMicro ws
  | 8 => verifySecurity ws
  | _ => verifyGroup s (r - 16) ws

end Sys2Proof.Machine
end

