-- ==== Sys2Proof/Machine/Recorder.lean ====
section
/-! DEFINITION. The event recorder and the granary: records and their tags, buckets, the queue and its writer, the
restart scan, reading, archive, verify and clear (R299–R312). -/
namespace Sys2Proof.Machine

/-- One token in the units a bucket counts in. -/
def token : Nat := 10 ^ 12

/-- The code entry of pair k: BURST, LIST, RATE (R304). -/
def entryFor (s : State) (k : Nat) : Nat × Nat × Nat :=
  if s.rcd.content == [] then (4, 0, 10)
  else
    let e := codeEntry s.rcd.content k
    (e / 2 ^ 24, (e / 2 ^ 18) % 64, e % 2 ^ 18)

/-- A bucket refilled up to block time t, for a burst and a rate in 0.001 records/s (R302). [DESIGN CHOICE, log entry 113] -/
def refill (b : Bucket) (burst rate t : Nat) : Bucket :=
  { b with level := min (burst * token) (b.level + rate * (t - b.at_)), at_ := t }

/-- A record asks a bucket for a token: whether it is admitted, the suppressed count it carries, the bucket after. [DESIGN CHOICE, log entry 113] -/
def takeToken (b : Bucket) (burst rate t : Nat) : Bool × Nat × Bucket :=
  let b := refill b burst rate t
  if burst != 0 && decide (b.level ≥ token) then
    (true, b.pending, { b with level := b.level - token, pending := 0, admitted := satAdd 32 b.admitted 1 })
  else (false, 0, { b with pending := satAdd 16 b.pending 1 })

/-- The ten words of a CONTENT. -/
def tenWords (l : List Word) : List Word := (l ++ List.replicate 10 0).take 10

/-- The records queued (R306). -/
def queued (s : State) : Nat := s.rcd.queue.length + s.rcd.held.length

/-- The queue is full; before READY one of its places is the BOOT record's (R306, R308). [DESIGN CHOICE, log entry 150] -/
def queueFull (s : State) : Bool := decide (queued s + b2n (!s.rcd.ready) ≥ 1024)

/-- A record is formed: it takes the next number on entering the queue, waits unnumbered before READY, or is dropped
where the queue is full (R306, R308). -/
def formRec (s : State) (r : Rec) : State :=
  if queueFull s then
    modRcd s fun d => { d with queueDrops := satAdd 16 d.queueDrops 1, gapPending := d.gapPending + 1 }
  else
    let s := cnt s 12
    let s := modRcd s fun d =>
      if d.ready then { d with queue := d.queue ++ [{ r with seq := d.next }], next := d.next + 1 }
      else { d with held := d.held ++ [r] }
    let s := modRcd s fun d => { d with queueMax := max d.queueMax (d.queue.length + d.held.length) }
    if s.rcd.queue.length + s.rcd.held.length > 768 then latch s 2 3 else s

/-- A record that carries no fault: TYPE 0x05 to 0x09 pass the aggregate bucket, 0x03, 0x04 and 0x0A pass nothing (R300,
R303). Whether it was queued, and the state after. -/
def postRec (s : State) (type flags master : Nat) (content : List Word) : Bool × State :=
  let r : Rec := { time := stamp s, type := type, flags := flags, master := master, content := tenWords content }
  let room := !(queueFull s)
  if type == 3 || type == 4 || type == 0x0A then (room, formRec s r)
  else
    let (ok, sup, b) := takeToken s.rcd.agg 1024 10000 (ticks s)
    let s := modRcd s fun d => { d with agg := b }
    if ok then (room, formRec s { r with suppressed := sup }) else (false, s)

/-- The ID word of a record (R299). -/
def recId (r : Rec) (first : Bool) : Word :=
  pack [(48, 16, r.code), (40, 8, r.type), (32, 8, r.flags + (if first then 16 else 0)), (16, 16, r.suppressed),
    (0, 16, r.master)]

/-- The customisation numbers of KMAC256: "KR4-GRN", "KR4-SEC", "KR4-KDF", "KR4-MEL", "KR4-JOBKEY" (R300, R438, R434,
R181, R437). -/
def custGrn : Nat := 1
/-- "KR4-SEC". -/
def custSec : Nat := 2
/-- "KR4-KDF". -/
def custKdf : Nat := 3
/-- "KR4-MEL". -/
def custMel : Nat := 4
/-- "KR4-JOBKEY". -/
def custJobKey : Nat := 5

/-- A tag over words: KMAC256 under the granary key cut to 64 bits, 0 while no key is held (R300, R436). -/
def grnTag (s : State) (cust : Nat) (ws : List Word) : Word :=
  match s.sec.grn with
  | none => 0
  | some k => BitVec.ofNat 64 (Config.kmac 64 k cust (ws.map (·.toNat)))

/-- The first 14 words of a record (R299). -/
def recBody (s : State) (r : Rec) (first : Bool) : List Word :=
  [BitVec.ofNat 64 r.seq, r.time, recId r first, s.rcd.lastTag] ++ tenWords r.content

/-- The sixteen words of a record (R299). -/
def recWords (s : State) (r : Rec) (first : Bool) : List Word :=
  let b := recBody s r first
  b ++ [r.fixedTag.getD (grnTag s custGrn b), BitVec.ofNat 64 r.seq]

/-- Whether sixteen words are a valid record (R300). -/
def recValid (s : State) (ws : List Word) : Bool :=
  ws.length == 16 && nthW ws 0 == nthW ws 15 && s.sec.grn.isSome && nthW ws 14 == grnTag s custGrn (ws.take 14)

/-- Rewrite the granary. -/
def modGran (s : State) (f : Granary → Granary) : State := { s with gran := f s.gran }

/-- The record at the front of the queue may be written: eMRAM is not inhibited and its detail is formed (R301, R306). -/
def writable (s : State) : Option Rec :=
  if !s.rcd.ready || s.supply.inhibit then none
  else match s.rcd.queue with
    | [] => none
    | r :: _ => if r.detailDue then none else some r

/-- Whether record n also goes to FIRST (R306). -/
def inFirst (s : State) (n : Nat) : Bool := decide (s.gran.firstBase ≤ n) && decide (n - s.gran.firstBase < 4096)

/-- The wear counters as RECORDER_WEAR shows them (R311). -/
def wearWord (g : Granary) : Word := pack [(32, 32, g.lastPasses), (16, 16, g.firstClears), (0, 16, g.crashWrites)]

/-- The index area is written: the next of its eight wear words takes the counters (R306, R307). [DESIGN CHOICE, log entry 151] -/
def indexWrite (s : State) : State :=
  modGran s fun g => { g with wear := sset 0 g.wear (g.wearAt % 8) (wearWord g), wearAt := g.wearAt + 1 }

/-- Put sixteen words into the slot of record n in LAST; a pass of LAST that it completes is an index write (R306). -/
def putLast (s : State) (n : Nat) (ws : List Word) : State :=
  let s := modGran s fun g => { g with last := sset [] g.last (n % 16384) ws, genLast := g.genLast + 1 }
  if n % 16384 == 16383 then indexWrite (modGran s fun g => { g with lastPasses := satAdd 32 g.lastPasses 1 }) else s

/-- Put sixteen words into the slot of record n in FIRST, where it goes there (R306). -/
def putFirst (s : State) (n : Nat) (ws : List Word) : State :=
  if inFirst s n then
    modGran s fun g => { g with first := sset [] g.first (n - g.firstBase) ws, genFirst := g.genFirst + 1 }
  else s

/-- The byte offset of the slot of record n in LAST, and in FIRST (R306, R307). -/
def lastAt (n : Nat) : Nat := 0x090000 + (n % 16384) * 128
/-- That in FIRST. -/
def firstAt (s : State) (n : Nat) : Nat := 0x010000 + (n - s.gran.firstBase) * 128

/-- What the slot at a byte offset holds after a write that did not succeed: the manual states no content. [DESIGN CHOICE, log entry 15] -/
def tornSlot (at_ : Nat) : List Word := (upto 16).map fun i => Config.emramWord (at_ + 8 * i)

/-- The queue loses its front record; space that returns after drops raises RECORD_GAP (R306). -/
def popRec (s : State) (tag : Word) : State :=
  let n := match s.rcd.queue with | r :: _ => r.seq | [] => s.rcd.written
  let s := modRcd s fun d =>
    { d with queue := d.queue.drop 1, written := n, lastTag := tag, retry := false, lastOk := false, firstOk := false }
  if s.rcd.gapPending > 0 then
    let k := s.rcd.gapPending
    raise (modRcd s fun d => { d with gapPending := 0 })
      { code := fcode 13 1 5, master := 6, words := [BitVec.ofNat 64 k] }
  else s

/-- GRANARY_WRITE_FAIL for the slot at a byte offset (R306). -/
def granaryFails (at_ : Nat) (s : State) : State := raiseI s (fcode 13 2 4) 6 at_

/-- EMRAM_WRITE_DONE: the writes of the front record to LAST and to FIRST are read back, each as written or not; one that
differs is made once more, and one that differs again leaves its slot as it stands (R306). -/
def emramDone (lastOk firstOk : Bool) (s : State) : State :=
  match writable s with
  | none => s
  | some r =>
    let n := r.seq
    let l := s.rcd.lastOk || lastOk
    let f := s.rcd.firstOk || firstOk || !(inFirst s n)
    if !(l && f) && !s.rcd.retry then modRcd s fun d => { d with retry := true, lastOk := l, firstOk := f }
    else
      let ws := recWords s r (inFirst s n)
      let s := putLast s n (if l then ws else tornSlot (lastAt n))
      let s := popRec (putFirst s n (if f then ws else tornSlot (firstAt s n))) (nthW ws 14)
      let s := if l then s else granaryFails (lastAt n) s
      if f then s else granaryFails (firstAt s n) s

/-- SQ2 writes, or the recorder forms RAW, the detail of a FAULT record (R301); that of a RESIDUE_MISMATCH keeps the index and
member in its first word (R91). -/
def setDetail (s : State) (seq : Nat) (ws : List Word) (raw : Bool) : State :=
  let fix (r : Rec) : Rec :=
    if r.type == 1 && r.detailDue && fld (nthW r.content 1) 47 32 == seq then
      let d := if raw then r.raw else if r.code == fcode 0 2 0 then r.raw.take 1 ++ ws.drop (min 1 r.raw.length) else ws
      { r with
        content := tenWords (r.content.take 2 ++ (d ++ List.replicate 8 0).take 8), detailDue := false,
        flags := if raw then r.flags ||| 1 else r.flags }
    else r
  modRcd s fun d => { d with queue := d.queue.map fix, held := d.held.map fix }

/-- The tags of the queued records are formed while the granary key is still held (R440): a detail not yet supplied is
formed from the raw capture words. -/
def fixTags (s : State) : State :=
  let go := s.rcd.queue.foldl (fun (acc : List Rec × State) r =>
    let r := if r.detailDue then
        { r with content := tenWords (r.content.take 2 ++ (r.raw ++ List.replicate 8 0).take 8), detailDue := false,
                 flags := r.flags ||| 1 }
      else r
    let ws := recWords acc.2 r (inFirst acc.2 r.seq)
    (acc.1 ++ [{ r with fixedTag := some (nthW ws 14) }], modRcd acc.2 fun d => { d with lastTag := nthW ws 14 })) ([], s)
  modRcd s fun d => { d with queue := go.1 }

/-- The valid records the granary holds in FIRST and LAST. -/
def validRecs (s : State) : List (List Word) :=
  (s.gran.first.map (·.2) ++ s.gran.last.map (·.2)).filter (recValid s)

/-- GRANARY_SCAN_DONE: numbering resumes, the BOOT record is formed first, READY rises (R308, R436). -/
def scanDone (s : State) : State :=
  if s.rcd.ready || s.sec.grn.isNone then s
  else
    let vs := validRecs s
    let seqs := vs.map fun w => (nthW w 0).toNat
    let found := seqs.foldl max 0
    let resume := if vs.isEmpty then s.gran.firstBase else found + 1033
    let bad := (s.gran.last.filter fun p => p.2.any (· != 0) && !(recValid s p.2)).length
    let span := min 16384 (found + 1)
    let here := (upto span).filter fun i => seqs.contains (found - i)
    let missing := if vs.isEmpty then 0 else span - here.length
    let tag := match vs.find? fun w => (nthW w 0).toNat == found with | some w => nthW w 14 | none => 0
    let content := [BitVec.ofNat 64 found, BitVec.ofNat 64 resume, pack [(0, 32, bad), (32, 32, missing)],
      pack [(0, 8, s.rcd.bootCause)]]
    let boot : Rec := { seq := resume, time := stamp s, type := 3, master := 6, content := tenWords content }
    let waiting := (upto s.rcd.held.length).zip s.rcd.held |>.map fun (i, r) => { r with seq := resume + 1 + i }
    let s := modRcd s fun d =>
      { d with
        ready := true, bootFound := found, lastTag := tag, queue := boot :: waiting, held := [],
        next := resume + 1 + waiting.length, written := resume - 1, queueMax := max d.queueMax (waiting.length + 1) }
    let s := if waiting.length + 1 > 768 then latch s 2 3 else s
    mailBoot (cnt s 12) resume

/-- A word of the INDEX area by its offset (R307, R438). [DESIGN CHOICE, log entry 151] -/
def indexWord (s : State) (o : Nat) : Word :=
  if o == 0 then s.gran.deviceId
  else if 0x1000 ≤ o && o < 0x1800 then BitVec.ofNat 64 (nthN s.gran.qlist ((o - 0x1000) / 8))
  else if o == 0x2000 then BitVec.ofNat 64 s.gran.firstBase
  else if 0x2008 ≤ o && o < 0x2028 then
    BitVec.ofNat 64 (nthN [s.gran.genIndex, s.gran.genFirst, s.gran.genLast, s.gran.genCrash] ((o - 0x2008) / 8))
  else if 0x2028 ≤ o && o < 0x2068 then sget 0 s.gran.wear ((o - 0x2028) / 8)
  else if 0x2068 ≤ o && o < 0x3000 then Config.emramWord o
  else if o == 0x3000 then s.gran.secWord
  else if o == 0x3008 then s.gran.secTag
  else 0

/-- The two words of an entry of a dump index (R293). -/
def dumpWords (e : DumpEntry) : List Word :=
  [e.time, pack [(48, 16, e.unit), (47, 1, b2n e.complete), (46, 1, b2n e.skipped), (0, 32, e.offset)]]

/-- A word of the CRASH area by its offset (R307). -/
def crashWord (s : State) (o : Nat) : Word :=
  if o < 0x1000 then nthW s.gran.crashHeader (o / 8)
  else match s.gran.crashIndex[(o - 0x1000) / 16]? with
    | some e => nthW (dumpWords e) ((o - 0x1000) % 16 / 8)
    | none => 0

/-- The sixteen words of a slot of an area (R309). -/
def slotWords (s : State) (area slot : Nat) : List Word :=
  match area with
  | 0 => (upto 16).map fun i => indexWord s (128 * slot + 8 * i)
  | 1 => (sget [] s.gran.first slot ++ List.replicate 16 0).take 16
  | 2 => (sget [] s.gran.last slot ++ List.replicate 16 0).take 16
  | _ => (upto 16).map fun i => crashWord s (128 * slot + 8 * i)

/-- A write of RECORDER_RD_SEL (R309). -/
def rdSelWrite (v : Word) (s : State) : State :=
  let area := fld v 59 56; let slot := fld v 19 0
  modRcd s fun d =>
    { d with
      rdSel := pack [(56, 4, area), (0, 20, slot)], rdArea := area, rdSlot := slot, rdGen := wrapAdd 16 d.rdGen 1,
      rdData := if area ≤ 3 then slotWords s area slot else List.replicate 16 0 }

/-- The areas of the granary: first byte offset and size (R307). -/
def areaAt (a : Nat) : Nat × Nat :=
  match a with
  | 0 => (0, 0x10000) | 1 => (0x010000, 0x80000) | 2 => (0x090000, 0x200000) | _ => (0x290000, 0x400000)

/-- Sixty-four bytes of the granary from a byte offset on (R307, R310). -/
def granBytes (s : State) (o : Nat) : List Byte :=
  let area := if o < 0x010000 then 0 else if o < 0x090000 then 1 else if o < 0x290000 then 2 else 3
  let i := o - (areaAt area).1
  wordsBytes (((slotWords s area (i / 128)).drop (i % 128 / 8)).take 8)

/-- A new RECORDER copy: every bucket keeps the level it has reached under the old one, cut to its new BURST, and its pending
count (R304). [DESIGN CHOICE, log entry 113] -/
def recorderTakes (s : State) : State :=
  let t := modRcd s fun d => { d with content := (region s 5).content }
  modRcd t fun d =>
    { d with
      buckets := (upto 1024).foldl (fun m k =>
        let old := entryFor s k
        let b := refill (sget {} d.buckets k) old.1 old.2.2 (ticks s)
        sset {} m k { b with level := min b.level ((entryFor t k).1 * token) }) [] }

/-- The view of a bucket (R311). -/
def bucketView (b : Bucket) : Word :=
  pack [(48, 16, b.pending), (32, 16, min (b.level * 256 / token) 0xFFFF), (0, 32, b.admitted)]

/-- RECORDER_STATUS (R311); what the index area holds is read by the scan (R312). -/
def recorderStatus (s : State) : Word :=
  let d := s.rcd
  pack [(63, 1, b2n d.ready), (62, 1, b2n (d.ready && decide (d.next - s.gran.firstBase ≥ 4096))),
    (61, 1, b2n (d.ready && s.gran.crashLocked)), (60, 1, b2n s.supply.inhibit),
    (48, 9, if d.ready then s.gran.qlist.length else 0), (32, 11, queued s),
    (16, 11, d.queueMax), (0, 16, d.queueDrops)]

/-- The RECORDER block (R311), by window offset. -/
def viewRecorder (s : State) (off : Nat) : Option Word :=
  let d := s.rcd; let g := s.gran
  if off == 0x020000 then some (recorderStatus s)
  else if off == 0x020008 then some (BitVec.ofNat 64 d.next)
  else if off == 0x020010 then some (BitVec.ofNat 64 d.written)
  else if off == 0x020018 then some (if d.ready then BitVec.ofNat 64 g.firstBase else 0)
  else if off == 0x020020 then some (BitVec.ofNat 64 d.bootFound)
  else if off == 0x020028 then
    some (if d.ready then wearWord g else 0)
  else if off == 0x020030 then some 0
  else if off == 0x020038 then
    some (pack [(63, 1, b2n d.cmdBusy), (60, 3, d.cmdResult), (56, 4, d.cmdArea), (52, 4, d.cmd), (32, 16, d.cmdBreaks),
      (16, 16, d.cmdBad), (0, 16, d.cmdToken)])
  else if off == 0x020040 then some d.archiveDst
  else if off == 0x020048 then some d.rdSel
  else if off == 0x020050 then some (pack [(56, 4, d.rdArea), (32, 16, d.rdGen), (0, 20, d.rdSlot)])
  else if off == 0x020058 then some (bucketView (refill d.agg 1024 10000 (ticks s)))
  else if 0x020080 ≤ off && off < 0x020100 && off % 8 == 0 then some (nthW d.rdData ((off - 0x020080) / 8))
  else if 0x021000 ≤ off && off < 0x023000 && off % 8 == 0 then
    let k := (off - 0x021000) / 8
    let e := entryFor s k
    some (bucketView (refill (sget {} d.buckets k) e.1 e.2.2 (ticks s)))
  else none

end Sys2Proof.Machine
end

