-- ==== Sys2Proof/Machine/Dma.lean ====
section
/-! DEFINITION. The DMA channels, the routing windows and the translation unit (R313–R328). A channel keeps one 64-byte
request outstanding at a time. -/
namespace Sys2Proof.Machine

/-- SRC_KIND or DST_KIND of a descriptor word (R314): 0 JOB, 1 PHYS, 2 BLOCK, 3 ZERO. -/
def dKind (w : Word) : Nat := fld w 63 60
/-- The address of a descriptor word. -/
def dAddr (w : Word) : Nat := if dKind w == 1 then fld w 51 0 else fld w 56 0
/-- LEN of a descriptor. -/
def dLen (ctl : Word) : Nat := fld ctl 39 0
/-- OWNER of a descriptor. -/
def dOwner (ctl : Word) : Nat := fld ctl 55 48
/-- TAG of a descriptor. -/
def dTag (ctl : Word) : Nat := fld ctl 63 56

/-- The rules of R314 for a descriptor posted to channel c. -/
def descLegal (s : State) (c : Nat) (src dst ctl : Word) : Bool :=
  let phys := dKind src == 1 || dKind dst == 1
  decide (dKind src ≤ 3) && decide (dKind dst ≤ 2) && fld src 59 57 == 0 && fld dst 59 57 == 0 && fld ctl 47 41 == 0 &&
    fld src 5 0 == 0 && fld dst 5 0 == 0 && dLen ctl % 64 == 0 && dLen ctl != 0 &&
    (!(bitOf ctl 40) || c == 0) && (!phys || (dOwner ctl == 11 && !(isArmed s)))

/-- The routing window of a host physical address (R317); none while the common part holds no usable content (R334, R339). -/
def windowOf (s : State) (a : Nat) : Option Window :=
  if !(topoUsable s) then none
  else
    let ws := (region s 1).content
    ((upto (fld (nthW ws 0) 47 40)).map (windowIn ws)).find? fun w => decide (w.base ≤ a) && decide (a < w.limit)

/-- The set bits of a port mask, rising. -/
def maskPorts (m : Nat) : List Nat := (upto 16).filter fun p => nbit m p

/-- The port of an address in a window (R317). -/
def portOf (w : Window) (a : Nat) : Nat :=
  let ps := maskPorts w.mask
  nthN ps (((a - w.base) / 2 ^ w.gran) % ps.length)

/-- The size in bits of a page of size code 0 4 KiB, 1 2 MiB, 2 1 GiB (R145). -/
def pageBits (code : Nat) : Nat := if code == 2 then 30 else if code == 1 then 21 else 12

/-- The walk level at which a page of a size is a leaf (R318). -/
def leafLevel (code : Nat) : Nat := if code == 2 then 2 else if code == 1 then 3 else 4

/-- The page size of a leaf at a level. -/
def levelSize (level : Nat) : Nat := if level == 2 then 2 else if level == 3 then 1 else 0

/-- The bits of a job address that a table at a level covers below its index (R318). -/
def levelShift (level : Nat) : Nat := 48 - 9 * level

/-- The index of a job address at a level (R318). -/
def levelIndex (a level : Nat) : Nat := (a / 2 ^ levelShift level) % 512

/-- A list with an element moved to its end, or added there, and cut to `n` from its end (R319). -/
def lruTouch {α : Type} [DecidableEq α] (n : Nat) (l : List α) (x : α) : List α :=
  let l := l.filter (fun y => y ≠ x) ++ [x]
  l.drop (l.length - n)

/-- A cached leaf that maps a job address (R319). -/
def tlbLeaf (s : State) (a : Nat) : Option TlbLeaf :=
  s.dma.leaves.find? fun l => a / 2 ^ pageBits l.size == l.base

/-- The deepest cached table for a job address: its level and address (R319). -/
def tlbDir (s : State) (a : Nat) : Option TlbDir :=
  (s.dma.dirs.filter fun d => a / 2 ^ (levelShift d.level + 9) == d.base).foldl
    (fun b d => match b with
      | none => some d
      | some e => if d.level > e.level then some d else some e) none

/-- Rewrite the DMA block. -/
def modDma (s : State) (f : Dma → Dma) : State := { s with dma := f s.dma }

/-- A refusal of a translation or an access: cause, level for DMA_CH_FAULT, code, capture address, and for a refused
translation the bytes to the end of what the refusing entry maps. -/
structure DmaFault where
  cause : Nat := 0
  level : Nat := 0
  code : Nat := 0
  addr : Nat := 0
  write : Bool := false
  job : Nat := 0
  span : Nat := 64
deriving DecidableEq, Repr

/-- DMA_XLATE, DMA_PERM, DMA_BUS, DMA_SKIPPED and DMA_DESC. -/
def fcXlate : Nat := fcode 10 2 0
/-- DMA_PERM. -/
def fcPerm : Nat := fcode 10 2 1
/-- DMA_BUS. -/
def fcBus : Nat := fcode 10 2 2
/-- DMA_SKIPPED. -/
def fcSkipped : Nat := fcode 10 1 3
/-- DMA_DESC. -/
def fcDesc : Nat := fcode 10 2 4

/-- A capture of access type MEM_READ or MEM_WRITE (R259). -/
def raiseMem (s : State) (code ch addr : Nat) (write : Bool) : State :=
  raise s { code := code, access := if write then 4 else 3, master := ch, addr := addr }

/-- A walk of channel c has ended; a discarded one completes an invalidation (R320). -/
def walkEnds (s : State) (c : Nat) : State :=
  let left := s.dma.dropWalks.filter (· != c)
  modDma s fun d => { d with dropWalks := left, invBusy := d.invBusy && !(left.isEmpty) }

/-- The current descriptor of a channel ends in a state; a walk of it has ended (R320), and the response of a request it leaves is
taken when it comes. -/
def dmaStops (s : State) (c st : Nat) : State :=
  let s := if s.dma.dropWalks.contains c then walkEnds s c else s
  updChan s c fun ch =>
    { ch with
      cur := { ch.cur with state := st }, busy := false, req := none, granule := [], hold := none, cut := ch.cut ++ ch.req.toList }

/-- The current descriptor of a channel ends in a state, and its owner is told (R315, R323). -/
def dmaEnds (s : State) (c st : Nat) : State :=
  let d := { (chan s c).cur with state := st }
  let s := dmaStops s c st
  let o := dOwner d.ctl
  let s := if 7 ≤ o && o ≤ 10 then latch s (o - 7) 15 else s
  post s (.dmaDone c d)

/-- The bytes from the next request to the end of its 4 KiB unit (R315). [DEDUCED, log entry 117] -/
def unitLeft (d : DmaDesc) : Nat :=
  4096 - ((if dKind d.dst ≤ 1 then dAddr d.dst else dAddr d.src) + d.done) % 4096

/-- A fault in mid-transfer (R322, R324). A fault the capture of which its source has raised has code 0. [DEDUCED, log entry 117] -/
def dmaFault (s : State) (c : Nat) (f : DmaFault) : State :=
  let s := if f.code = 0 then s else raiseMem s f.code c f.addr f.write
  let ch := chan s c
  if c == 0 then
    let left := dLen ch.cur.ctl - ch.cur.done
    let n := min (if f.cause ≥ 5 then unitLeft ch.cur else f.span) left
    let s := raiseMem s fcSkipped 0 f.addr f.write
    updChan s 0 fun ch =>
      { ch with
        req := none, granule := [], skips := satAdd 24 ch.skips 1, skipBytes := satAdd 40 ch.skipBytes (ceilDiv n 4096),
        skipAddr := if ch.skipSeen then ch.skipAddr else f.job, skipSeen := true,
        cur := { ch.cur with done := ch.cur.done + n, skipped := true } }
  else
    let d := { ch.cur with state := 2, cause := f.cause }
    let s := updChan s c fun ch =>
      { ch with
        req := none, cur := d,
        fault := pack [(63, 1, 1), (62, 1, b2n f.write), (59, 3, f.level), (0, 57, f.job)] }
    post s (.dmaPaused c d)

/-- The class of a channel (R313). -/
def chanClass (c : Nat) : Nat := if c = 0 then 0 else if c ≤ 2 then 1 else if c ≤ 4 then 2 else 3

/-- The requests of a channel without a response. -/
def outstanding (ch : Channel) : List MemReq := ch.req.toList ++ ch.cut

/-- The channel that has a request with an identifier outstanding on a port (R390). -/
def memTaker (s : State) (port id : Nat) : Option Nat :=
  (upto 8).find? fun c => (outstanding (chan s c)).any fun r => r.port == port && r.id == id

/-- An identifier with nothing outstanding on a port: the next of the count (R390). -/
def freeId (s : State) (port : Nat) : Nat :=
  (((upto 256).map (wrapAdd 8 s.dma.nextId ·)).find? fun i => (memTaker s port i).isNone).getD s.dma.nextId

/-- A request is offered on a MEM port (R317, R390). [DESIGN CHOICE, log entry 116] -/
def memIssue (s : State) (c : Nat) (addr port : Nat) (write : Bool) (wait : DmaWait) (data : List Byte) : State :=
  let id := freeId s port
  let s := modDma s fun d => { d with nextId := wrapAdd 8 id 1 }
  let d := (chan s c).cur
  updChan s c fun ch =>
    { ch with
      req := some {
        id := id, port := port, addr := addr, write := write, wait := wait, data := data, cls := chanClass c,
        tag := if dKind d.src == 1 || dKind d.dst == 1 then 0 else fld s.dma.ctx 15 0 } }

/-- Channels may issue: not while the common part of TOPOLOGY drains (R492). [DESIGN CHOICE, log entry 116] -/
def dmaMayIssue (s : State) : Bool := (region s 1).state != .draining

/-- Issue a data request to a host physical address, or fault with BUS (R317). -/
def dataIssue (s : State) (c : Nat) (phys job : Nat) (write : Bool) (data : List Byte) : State :=
  match windowOf s phys with
  | none => dmaFault s c ⟨5, 7, fcBus, phys, write, job, 0⟩
  | some w => memIssue s c phys (portOf w phys) write
      (if write then .write else .read) data

/-- Read the entry of a walk at a level (R318, R319), or stand still with it while TOPOLOGY drains (R492). -/
def walkIssue (s : State) (c : Nat) (a level table : Nat) (write : Bool) : State :=
  let phys := table + 8 * levelIndex a level
  let s := updChan s c fun ch => { ch with table_ := table, hold := none }
  if !(dmaMayIssue s) then updChan s c fun ch => { ch with hold := some (level, write) }
  else match windowOf s phys with
  | none => dmaFault s c ⟨5, 7, fcBus, phys, write, a, 0⟩
  | some w => memIssue s c (phys / 64 * 64) (portOf w phys) false (.walk level write) []

/-- Start the walk of a job address (R318, R319). -/
def walkStart (s : State) (c : Nat) (a : Nat) (write : Bool) : State :=
  let s := modDma s fun d => { d with walks := satAdd 32 d.walks 1 }
  match tlbDir s a with
  | some d => walkIssue (modDma s fun m => { m with dirs := lruTouch 64 m.dirs d }) c a d.level d.addr write
  | none => walkIssue s c a 0 (fld s.dma.root 51 12 * 4096) write

/-- Access a job address: through the translation buffer, or by a walk (R318, R319). -/
def jobAccess (s : State) (c : Nat) (a : Nat) (write : Bool) (data : List Byte) : State :=
  if !(bitOf s.dma.root 0) then dmaFault s c ⟨3, 0, fcXlate, 0, write, a, 2 ^ 57⟩
  else match tlbLeaf s a with
    | none => walkStart s c a write
    | some l =>
      let walked := (chan s c).walked
      let s := updChan s c fun ch => { ch with walked := false }
      let s := modDma s fun d => { d with hits := if walked then d.hits else satAdd 32 d.hits 1, leaves := lruTouch 2048 d.leaves l }
      let pb := pageBits l.size
      if write && !l.write then
        dmaFault s c ⟨4, leafLevel l.size, fcPerm, l.entry, write, a, 2 ^ pb - a % 2 ^ pb⟩
      else dataIssue s c (l.addr + a % 2 ^ pb) a write data

/-- The source and destination address of the next request of a descriptor. -/
def srcAt (d : DmaDesc) : Nat := dAddr d.src + d.done
/-- The destination address of the next request. -/
def dstAt (d : DmaDesc) : Nat := dAddr d.dst + d.done

/-- Where bytes that a descriptor brings to its owner come from; for a sequencer, its core and the offset in its data
store where they go. -/
def sinkAt (d : DmaDesc) : Nat :=
  if d.work == .sequencer then (dOwner d.ctl - 7) * 2 ^ 57 + dstAt d else srcAt d

/-- Sixty-four bytes of the owner's buffer. -/
def bufAt (d : DmaDesc) : List Byte := ((d.buf.drop d.done).take 64 ++ List.replicate 64 0).take 64

/-- A granule of 64 bytes is complete; the first of each unit counts a unit issued (R315, R473). -/
def granuleDone (s : State) (c : Nat) : State :=
  let d := (chan s c).cur
  let ua := if dKind d.dst ≤ 1 then dstAt d else srcAt d
  let s := if d.done == 0 || ua % 4096 == 0 then cnt s 13 else s
  updChan s c fun ch =>
    { ch with granule := [], bytes := satAdd 64 ch.bytes 64, cur := { ch.cur with done := ch.cur.done + 64 } }

/-- One request of a RUNNING descriptor is formed, or data passes inside the block (R315). -/
def dmaAdvance (s : State) (c : Nat) : State :=
  let ch := chan s c
  let d := ch.cur
  if d.done ≥ dLen d.ctl then dmaEnds s c 3
  else if ch.granule.isEmpty then
    match dKind d.src with
    | 0 => jobAccess s c (srcAt d) false []
    | 1 => dataIssue s c (srcAt d) (srcAt d) false []
    | k => if dKind d.dst == 2 && (d.work != .sequencer || decide (d.done ≥ 16384)) then
          updChan s c fun ch =>
            { ch with bytes := satAdd 64 ch.bytes (dLen d.ctl - d.done), cur := { d with done := dLen d.ctl } }
        else updChan s c fun ch =>
          { ch with granule :=
              if d.work == .archive then granBytes s (srcAt d) else if k == 2 then bufAt d else List.replicate 64 0 }
  else
    match dKind d.dst with
    | 0 => jobAccess s c (dstAt d) true ch.granule
    | 1 => dataIssue s c (dstAt d) (dstAt d) true ch.granule
    | _ =>
      granuleDone (post s (.dmaData c d.work (sinkAt d) ch.granule)) c

/-- The next request of a channel starts a 4 KiB unit (R315). -/
def atUnit (d : DmaDesc) : Bool := d.done == 0 || unitLeft d == 4096

/-- No state is read for a copy or a pull while the update is open (R191). A channel of an owner that stands at the marker of a global
stop issues nothing past a 4 KiB boundary (R291): channel 1 first writes the journal records of the step engine, channel 0 the dump
itself. Channel 5 is the memory test's while that runs. -/
def dmaHeld (s : State) (c : Nat) : Bool :=
  let ch := chan s c
  (s.step.eng.updOpen && ch.busy && ch.granule.isEmpty && dTag ch.cur.ctl == 0 &&
    (ch.cur.work == .mirrorOut || (ch.cur.work == .serve && mirMode s != 2))) ||
  s.stop.marked && s.stop.state != 0 && c != 0 && (c != 1 || s.stop.frozenUnits.contains 1) &&
    (!ch.busy || (ch.granule.isEmpty && atUnit ch.cur)) ||
  c == 5 && s.mem.busy && (!ch.busy || s.mem.issued)

/-- The access that a channel's walk serves: its job address. -/
def walkFor (ch : Channel) : Nat := if ch.granule.isEmpty then srcAt ch.cur else dstAt ch.cur

/-- A channel forms its next request: a walk that stood still goes on first. -/
def dmaForm (s : State) (c : Nat) : State :=
  match (chan s c).hold with
  | some (level, write) => walkIssue s c (walkFor (chan s c)) level (chan s c).table_ write
  | none => dmaAdvance s c

/-- Run a channel until it has a request outstanding, is paused or is idle. -/
def dmaRun : Nat → Nat → State → State
  | 0, _, s => s
  | f + 1, c, s =>
    let ch := chan s c
    if ch.req.isSome || !(dmaMayIssue s) || dmaHeld s c then s
    else if ch.busy then
      if ch.cur.state == 1 then dmaRun f c (dmaForm s c) else s
    else match ch.queue with
      | [] => s
      | d :: r => dmaRun f c (updChan s c fun ch =>
        { ch with
          queue := r ++ ch.waiting.take 1, waiting := ch.waiting.drop 1, cur := { d with state := 1 }, busy := true })

/-- The steps that a descriptor takes at most without a request: two for each granule that passes inside the block, one for each unit
that is skipped. -/
def descSteps (d : DmaDesc) : Nat := 2 * (min (dLen d.ctl) 16384 / 64) + dLen d.ctl / 4096 + 8

/-- Run channel c, as far as its descriptors go. -/
def dmaGo (c : Nat) (s : State) : State :=
  let ch := chan s c
  dmaRun ((([ch.cur] ++ ch.queue ++ ch.waiting).map descSteps).sum + 8) c s

/-- Whether channel c has room for a descriptor: none may overtake one that waits (R313). -/
def dmaRoom (s : State) (c : Nat) : Bool :=
  let ch := chan s c
  ch.waiting.isEmpty && decide (ch.queue.length + b2n ch.busy < 16)

/-- An owner posts a descriptor (R313, R314). A full queue makes its owner wait. -/
def dmaPost (c : Nat) (src dst ctl : Word) (work : DmaWork) (buf : List Byte) (s : State) : State :=
  let d : DmaDesc := { src := src, dst := dst, ctl := ctl, work := work, buf := buf }
  if !(descLegal s c src dst ctl) then
    let o := dOwner ctl
    let s := if 7 ≤ o && o ≤ 10 then latch s (o - 7) 15 else s
    post (raiseI s fcDesc o) (.dmaDone c { d with state := 4 })
  else if dmaRoom s c then dmaGo c (updChan s c fun ch => { ch with queue := ch.queue ++ [d] })
  else updChan s c fun ch => { ch with waiting := ch.waiting ++ [d] }

/-- The entry a walk has read (R318, R319). -/
def walkEntry (s : State) (c : Nat) (level : Nat) (write : Bool) (e : Word) : State :=
  let ch := chan s c
  let a := walkFor ch
  let at_ := ch.table_ + 8 * levelIndex a level
  let leaf := bitOf e 1
  let pb := levelShift level
  let span := 2 ^ pb - a % 2 ^ pb
  let reserved := fld e 63 52 != 0 || fld e 11 3 != 0
  let misplaced := (leaf && decide (level ≤ 1)) || (!leaf && level == 4)
  let unaligned := leaf && (fld e 51 12 * 4096) % 2 ^ pb != 0
  if s.dma.dropWalks.contains c then walkStart (walkEnds s c) c a write
  else if !(bitOf e 0) then dmaFault s c ⟨1, level, fcXlate, at_, write, a, span⟩
  else if reserved || misplaced || unaligned then dmaFault s c ⟨2, level, fcXlate, at_, write, a, span⟩
  else if leaf && write && !(bitOf e 2) then dmaFault s c ⟨4, level, fcPerm, at_, write, a, span⟩
  else if leaf then
    let l : TlbLeaf := ⟨a / 2 ^ pb, levelSize level, fld e 51 12 * 4096, bitOf e 2, at_⟩
    modDma (updChan s c fun ch => { ch with walked := true }) fun d => { d with leaves := lruTouch 2048 d.leaves l }
  else
    let next := fld e 51 12 * 4096
    let s := modDma s fun d => { d with dirs := lruTouch 64 d.dirs ⟨a / 2 ^ pb, level + 1, next⟩ }
    walkIssue s c a (level + 1) next write

/-- The access that a request serves is a write. -/
def MemReq.serves (r : MemReq) : Bool := match r.wait with | .walk _ w => w | .read => false | .write => true

/-- A data or walk request fails: cause MEM, with the direction of the access it serves (R319, R322). -/
def memFails (s : State) (c : Nat) (r : MemReq) : State :=
  let a := walkFor (chan s c)
  let s := updChan s c fun ch => { ch with req := none }
  let s := if s.dma.dropWalks.contains c then walkEnds s c else s
  dmaFault s c ⟨6, 7, 0, r.addr, r.serves, a, 0⟩

/-- A response to the request of channel c's descriptor (R315, R322). -/
def memTaken (c status : Nat) (data : List Byte) (r : MemReq) (s : State) : State :=
  if status != 0 then dmaGo c (memFails (raiseMem s (fcode 8 2 3) c r.addr r.write) c r)
  else
    let s := updChan s c fun ch => { ch with req := none }
    dmaGo c <| match r.wait with
      | .walk level write =>
        let a := walkFor (chan s c)
        walkEntry s c level write (nthW (bytesWords data) (((chan s c).table_ + 8 * levelIndex a level) % 64 / 8))
      | .read => updChan s c fun ch => { ch with granule := (data ++ List.replicate 64 0).take 64 }
      | .write => granuleDone s c

/-- A response to a request that no descriptor waits for any more: it is taken, an error captured. -/
def memLate (c port id status : Nat) (s : State) : State :=
  let rs := (chan s c).cut.filter fun r => r.port == port && r.id == id
  let s := updChan s c fun ch => { ch with cut := ch.cut.filter fun r => !(r.port == port && r.id == id) }
  forEach rs s fun s r => if status != 0 && c != 5 then raiseMem s (fcode 8 2 3) c r.addr r.write else s

/-- The payload of a MEM response (R390): identifier, status, data (R407). [DESIGN CHOICE, log entry 154] -/
def memPayload (id status : Nat) (data : List Byte) : Nat := id + status * 2 ^ 8 + (nthW (bytesWords data) 0).toNat * 2 ^ 9

/-- No response in 50 µs to the oldest request of a channel: MEM_TIMEOUT, and the request fails to its channel (R390). -/
def memTimeout (c : Nat) (s : State) : State :=
  match (chan s c).cut, (chan s c).req with
  | r :: rest, _ =>
    let s := updChan s c fun ch => { ch with cut := rest }
    if c == 5 then s else raiseMem s (fcode 8 2 2) c r.addr r.write
  | [], none => s
  | [], some r => dmaGo c (memFails (raiseMem s (fcode 8 2 2) c r.addr r.write) c r)

/-- A request held not ready for 2 µs is withdrawn with PORT_TIMEOUT and fails to its channel (R390). -/
def memReqTimeout (c : Nat) (s : State) : State :=
  match (chan s c).req with
  | none => s
  | some r => dmaGo c (memFails (raisePort s fcPortTimeout 7 r.port r.addr) c r)

/-- DMA_CMD RESUME (R323, R327). -/
def dmaResume (rq : Acc) (c : Nat) (s : State) : State :=
  secure rq s <|
    if (chan s c).busy && (chan s c).cur.state == 2 then
      dmaGo c (updChan s c fun ch => { ch with cur := { ch.cur with state := 1, cause := 0 } })
    else raiseK s fcCmdIllegal rq 0x070020

/-- A PAUSED descriptor ends as ABANDONED (R323). -/
def dmaAbandonCh (c : Nat) (s : State) : State :=
  if (chan s c).busy && (chan s c).cur.state == 2 then dmaGo c (dmaEnds s c 4) else s

/-- DMA_CMD ABANDON (R323, R327). -/
def dmaAbandon (rq : Acc) (c : Nat) (s : State) : State :=
  secure rq s <|
    if (chan s c).busy && (chan s c).cur.state == 2 then dmaAbandonCh c s else raiseK s fcCmdIllegal rq 0x070020

/-- Work that its owner gives up: what waits on a channel is taken out, and what runs there ends as ABANDONED (R323). -/
def dropWork (c : Nat) (p : DmaDesc → Bool) (s : State) : State :=
  let s := updChan s c fun ch => { ch with queue := ch.queue.filter fun d => !(p d), waiting := ch.waiting.filter fun d => !(p d) }
  if (chan s c).busy && p (chan s c).cur then dmaGo c (dmaStops s c 4) else s

/-- Work that fails: the same, and the owner is told of each. [DEDUCED, log entry 88] -/
def failWork (c : Nat) (p : DmaDesc → Bool) (s : State) : State :=
  let ch := chan s c
  let ds := (if ch.busy then [ch.cur] else []) ++ ch.queue ++ ch.waiting
  forEach (ds.filter p) (dropWork c p s) fun s d => post s (.dmaDone c { d with state := 4 })

/-- The channels whose request is a walk's. -/
def walking (s : State) : List Nat :=
  (upto 8).filter fun c => match (chan s c).req with
    | some r => (match r.wait with | .walk _ _ => true | _ => false)
    | none => false

/-- An invalidation with the entries that stay (R320). A walk that stands still is given up and starts afresh. -/
def xlateInv (s : State) (keepLeaf : TlbLeaf → Bool) (keepDir : TlbDir → Bool) : State :=
  let ws := walking s
  let s := forEach (upto 8) s fun s c => if (chan s c).hold.isSome then updChan s c fun ch => { ch with hold := none } else s
  modDma s fun d =>
    { d with
      leaves := d.leaves.filter keepLeaf, dirs := d.dirs.filter keepDir, invBusy := !(ws.isEmpty), dropWalks := ws }

/-- DMA_XLATE_INV ALL (R320, R327). -/
def invAll (rq : Acc) (s : State) : State :=
  secure rq s <|
    if s.dma.invBusy then raiseK s fcCmdIllegal rq 0x070018 else xlateInv s (fun _ => false) (fun _ => false)

/-- Whether two ranges of job addresses, each a page number and its size in bits, have an address in common. -/
def pagesMeet (a abits b bbits : Nat) : Bool :=
  decide (a * 2 ^ abits < (b + 1) * 2 ^ bbits) && decide (b * 2 ^ bbits < (a + 1) * 2 ^ abits)

/-- DMA_XLATE_INV RANGE: a page of the size code, at the job address (R320). -/
def invRange (rq : Acc) (v : Word) (s : State) : State :=
  secure rq s <|
    let code := fld v 59 58
    let pb := pageBits code
    let page := fld v 56 12 * 4096 / 2 ^ pb
    if s.dma.invBusy || code == 3 then raiseK s fcCmdIllegal rq 0x070018
    else xlateInv s (fun l => !(pagesMeet l.base (pageBits l.size) page pb))
      (fun d => !(pagesMeet d.base (levelShift d.level + 9) page pb))

/-- DMA_STATUS (R327). -/
def dmaStatus (s : State) : Word :=
  let st (k : Nat) := packN ((upto 8).map fun c => (c, 1, b2n ((chan s c).busy && (chan s c).cur.state == k)))
  pack [(8, 8, st 2), (0, 8, st 1), (16, 1, b2n s.dma.invBusy), (32, 12, s.dma.leaves.length + s.dma.dirs.length)]

/-- The DMA block (R327), by window offset. -/
def viewDma (s : State) (off : Nat) : Option Word :=
  if off == 0x070000 then some (dmaStatus s)
  else if off == 0x070008 then some s.dma.root
  else if off == 0x070010 then some s.dma.ctx
  else if off == 0x070018 || off == 0x070020 then some 0
  else if off == 0x070028 then some (pack [(32, 32, s.dma.hits), (0, 32, s.dma.walks)])
  else if 0x070100 ≤ off && off < 0x070300 then
    let c := (off - 0x070100) / 0x40
    let ch := chan s c
    match (off - 0x070100) % 0x40 with
    | 0x00 => some ch.cur.src
    | 0x08 => some ch.cur.dst
    | 0x10 => some ch.cur.ctl
    | 0x18 => some (pack [(56, 8, ch.cur.state), (48, 8, ch.cur.cause), (0, 40, ch.cur.done)])
    | 0x20 => some ch.fault
    | 0x28 => some (if c == 0 then pack [(24, 40, ch.skipBytes), (0, 24, ch.skips)] else 0)
    | 0x30 => some (if c == 0 then pack [(0, 57, ch.skipAddr)] else 0)
    | 0x38 => some (pack [(0, 64, ch.bytes)])
    | _ => none
  else none

end Sys2Proof.Machine
end

