-- ==== Sys2Proof/Machine/Archive.lean ====
section
/-! DEFINITION. The recorder's commands: archive, verify and clear (R310). -/
namespace Sys2Proof.Machine

/-- The write generation of an area (R310). -/
def areaGen (s : State) (a : Nat) : Nat :=
  match a with
  | 0 => s.gran.genIndex | 1 => s.gran.genFirst | 2 => s.gran.genLast | _ => s.gran.genCrash

/-- The descriptor of an ARCHIVE, or of a VERIFY, over an area goes to channel 7 (R310, R313). -/
def archivePost (s : State) (area : Nat) (verify : Bool) : State :=
  let (at_, len) := areaAt area
  let mem := BitVec.ofNat 64 (fld s.rcd.archiveDst 56 12 * 4096)
  let own := pack [(60, 4, 2), (0, 57, if verify then 0 else at_)]
  let ctl := pack [(48, 8, 6), (0, 40, len)]
  if verify then dmaPost 7 mem own ctl .verify [] s else dmaPost 7 own mem ctl .archive [] s

/-- A RECORDER_CMD write: 1 ARCHIVE, 2 VERIFY, 3 CLEAR (R310). -/
def recCmd (rq : Acc) (v : Word) (s : State) : State :=
  secure rq s <|
    let cmd := fld v 63 60; let area := fld v 59 56; let arg := fld v 15 0
    let clearOk := cmd != 3 ||
      (area != 2 && sget 0x10000 s.rcd.tokens area == arg && arg == areaGen s area % 2 ^ 16)
    if s.rcd.cmdBusy then raiseK (modRcd s fun d => { d with cmdResult := 2 }) fcCmdIllegal rq 0x020030
    else if cmd == 0 || cmd > 3 || area > 3 || !clearOk then
      raiseK (modRcd s fun d => { d with cmdResult := 2, cmd := cmd, cmdArea := area }) fcCmdIllegal rq 0x020030
    else
      let s := modRcd s fun d =>
        { d with
          cmdBusy := true, cmdResult := 0, cmd := cmd, cmdArea := area, cmdBad := 0, cmdBreaks := 0, cmdMoved := cmd == 3,
          verWords := [], cmdToken := if cmd == 1 then areaGen s area % 2 ^ 16 else 0 }
      if cmd == 3 then s else archivePost s area (cmd == 2)

/-- Cut words into slots of sixteen. -/
def slots (ws : List Word) : List (List Word) := (upto (ws.length / 16)).map fun i => (ws.drop (16 * i)).take 16

/-- VERIFY's counts over an archive of an area: invalid records and chain breaks (R310). [DEDUCED, log entry 114] -/
def archiveCounts (s : State) (area : Nat) (ws : List Word) : Nat × Nat :=
  if area == 1 || area == 2 then
    let rs := (slots ws).filter fun r => r.any (· != 0)
    let ok := rs.filter (recValid s)
    let breaks := ok.filter fun r => ok.any fun p => nthW p 0 + 1 == nthW r 0 && nthW p 14 != nthW r 3
    (rs.length - ok.length, breaks.length)
  else if area == 3 then
    let n := s.gran.crashHeader.length
    let h := ws.take n
    (if n ≥ 1 && nthW h (n - 1) != grnTag s custGrn (h.take (n - 1)) then 1 else 0, 0)
  else (0, 0)

/-- The effect of a CLEAR (R310): one index write. [DEDUCED, log entry 115] -/
def clearArea (s : State) (a : Nat) : State :=
  indexWrite <| match a with
  | 0 => modGran s fun g => { g with qlist := [], genIndex := g.genIndex + 1 }
  | 1 => modGran s fun g => { g with firstBase := s.rcd.next, firstClears := satAdd 16 g.firstClears 1 }
  | _ => modGran s fun g => { g with crashLocked := false }

/-- Bytes of the archive that VERIFY reads. [DEDUCED, log entry 114] -/
def verifyData (s : State) (bytes : List Byte) : State :=
  modRcd s fun d => { d with verWords := (bytesWords bytes).reverse ++ d.verWords }

/-- The descriptor of an ARCHIVE or a VERIFY has ended; an abandoned one gives FAILED at once (R310, R323). -/
def archiveEnded (s : State) (d : DmaDesc) : State :=
  if !s.rcd.cmdBusy then s
  else if d.state == 3 then modRcd s fun r => { r with cmdMoved := true }
  else modRcd s fun r => { r with cmdBusy := false, cmdResult := 3, verWords := [] }

/-- RECORDER_CMD_DONE (R310): an ARCHIVE or a VERIFY whose data has moved, or a CLEAR whose index write is allowed,
completes with DONE. [DEDUCED, log entry 115] -/
def recCmdDone (s : State) : State :=
  let d := s.rcd
  if !d.cmdBusy || !d.cmdMoved || (d.cmd == 3 && s.supply.inhibit) then s
  else
    let s := modRcd s fun d => { d with cmdBusy := false, cmdResult := 1, verWords := [] }
    match d.cmd with
    | 1 => modRcd s fun r => { r with tokens := sset 0x10000 r.tokens d.cmdArea d.cmdToken }
    | 2 =>
      let c := archiveCounts s d.cmdArea d.verWords.reverse
      modRcd s fun r => { r with cmdBad := min c.1 0xFFFF, cmdBreaks := min c.2 0xFFFF }
    | _ => (postRec (clearArea s d.cmdArea) 4 0 6 [pack [(0, 4, d.cmdArea)]]).2

end Sys2Proof.Machine
end

