-- ==== Sys2Proof/Machine/Loader.lean ====
section
/-! DEFINITION. The configuration loader: sessions, header and region loads, verification, activation (R329–R347,
R492). -/
namespace Sys2Proof.Machine

/-- Rewrite the loader. -/
def modLd (s : State) (f : Loader → Loader) : State := { s with loader := f s.loader }

/-- A loader outcome fills CONFIG_EVENT (R336, R347). -/
def cfgEvent (s : State) (outcome r : Nat) : State :=
  modLd s fun l => { l with event := heldPost l.event (pack [(60, 3, outcome), (55, 5, r)]) 0 (stamp s) }

/-- A capture of access type REGION (R259). -/
def raiseR (s : State) (code r off : Nat) : State := raise s { code := code, access := 10, master := r, addr := off }

/-- REGION_VERIFY_FAIL. -/
def fcVerify : Nat := fcode 11 2 0
/-- REGION_AUTH_FAIL. -/
def fcAuth : Nat := fcode 11 2 1
/-- LOAD_TIMEOUT. -/
def fcLoadTimeout : Nat := fcode 11 2 2

/-- The entry of a region in a table. -/
def entryOf (t : Option Table) (r : Nat) : Option TableEntry :=
  match t with
  | none => none
  | some t => t.entries.find? fun e => e.region == r

/-- The table RELOAD loads against: the pending one in an OPEN session, else the active one (R336). -/
def loadTable (s : State) : Option Table := if s.loader.session == 3 then s.loader.pend else s.loader.active

/-- A region of the active content equals its pending entry (R336). -/
def matchesPend (s : State) (e : TableEntry) : Bool := regActive s e.region && (region s e.region).digest == e.digest

/-- Regions the pending table still has to load: CONFIG_STATUS.TO_LOAD. -/
def toLoad (s : State) : Nat :=
  match s.loader.pend with
  | none => 0
  | some t => (t.entries.filter fun e => !(matchesPend s e)).length

/-- PEND_DIFF of a region (R336). -/
def pendDiff (s : State) (r : Nat) : Bool :=
  s.loader.session == 3 && (match entryOf s.loader.pend r with
    | some e => !(matchesPend s e)
    | none => false)

/-- A CONFIG_CMD that R336, R339 or R346 does not allow. -/
def cfgIllegal (rq : Acc) (s : State) : State := raiseK s fcCmdIllegal rq 0x080008

/-- The checks every CONFIG_CMD goes through first: the secure attribute, the safe state, and for BEGIN and RELOAD the
recovery level (R345, R346). -/
def cfgCmd (rq : Acc) (starts : Bool) (r : Nat) (f : State → State) (s : State) : State :=
  secure rq s <|
    if s.fault.safe then frozen s rq 0x080008 5 r
    else if starts && recovery s ≥ 3 then modeRefused (raiseK s (fcode 6 1 3) rq 0x080008) 5 1 4 0 r
    else if s.loader.busy then cfgIllegal rq s
    else f s

/-- CONFIG_CMD BEGIN (R336). -/
def cfgBegin (rq : Acc) : State → State := cfgCmd rq true 0 fun s =>
  if s.loader.session == 0 then
    modLd s fun l => { l with session := 1, busy := true, hdrWords := [], received := 0, expected := 0, loadRegion := 0 }
  else cfgIllegal rq s

/-- Positions a tile group and its arbitrations take up (R339): a host position or a checker of an arbitration that is
not IDLE lies in the group. -/
def groupArbBusy (s : State) (g : Nat) : Bool :=
  s.tiles.any fun (n, t) =>
    t.arb.state != .idle && (part s n == g || part s t.arb.x == g || (t.arb.nbrValid && part s t.arb.nbr == g) ||
      (t.arb.state == .round2 && part s t.arb.suspect == g))

/-- A structural test or self-test runs in a partition. -/
def groupTesting (s : State) (g : Nat) : Bool :=
  s.tiles.any fun (n, t) => part s n == g && (t.pos.testing.isSome || t.pos.selfTest.isSome)

/-- The condition of R339 for a RELOAD of region r. -/
def reloadAllowed (s : State) (r : Nat) : Bool :=
  if r == 1 then !s.qrs.reconDone
  else if r == 7 || r == 8 then !(isArmed s)
  else if r ≥ 16 then regActive s 1 && !(groupArbBusy s (r - 16)) && !(groupTesting s (r - 16))
  else true

/-- The load of a region starts taking words (R336): in-place holders lose their content; the common part takes every
tile group to FENCED (R339). -/
def enterLoading (s : State) (r : Nat) : State :=
  let s := setRegion s r .loading
  let inPlace := r == 1 || r == 2 || r == 7 || decide (r ≥ 16)
  let s := if inPlace then updRegion s r fun g => { g with content := [] } else s
  let s := post s (.regionDown r)
  if r == 1 then forEach (upto s.build.partitions) s fun s g =>
    post (setRegion s (16 + g) .fenced) (.regionDown (16 + g))
  else s

/-- CONFIG_CMD RELOAD (R336, R339). -/
def cfgReload (rq : Acc) (r : Nat) : State → State := cfgCmd rq true r fun s =>
  match entryOf (loadTable s) r with
  | none => cfgIllegal rq s
  | some e =>
    let st := (region s r).state
    if !((regionNumbers s.build).contains r) || s.loader.session == 1 || s.loader.session == 2 ||
        !(st == .fenced || (st == .active && s.loader.session == 3)) || !(reloadAllowed s r) then cfgIllegal rq s
    else
      let differs := s.loader.session == 3 && (region s r).digest != e.digest
      let s := modLd s fun l =>
        { l with
          busy := true, loadRegion := r, received := 0, expected := e.length / 8,
          reloaded := l.reloaded || l.session == 3, mixed := l.mixed || differs }
      let s := updRegion (setRegion s r .draining) r fun g => { g with staged := [] }
      if r == 7 then post s (.regionDown 7)
      else if r == 1 || r ≥ 16 then s
      else enterLoading s r

/-- CONFIG_CMD END (R336). -/
def cfgEnd (rq : Acc) : State → State := cfgCmd rq false 0 fun s =>
  if s.loader.session == 3 && toLoad s == 0 then
    cfgEvent (modLd s fun l =>
      { l with active := l.pend, pend := none, session := 0, mixed := false, reloaded := false }) 7 0
  else cfgIllegal rq s

/-- CONFIG_CMD ABORT (R336). -/
def cfgAbort (rq : Acc) : State → State := cfgCmd rq false 0 fun s =>
  if s.loader.session == 3 && !s.loader.reloaded then modLd s fun l => { l with pend := none, session := 0 }
  else cfgIllegal rq s

/-- A word of a header load (R335): the length is known from HEADER_LEN in word 1. -/
def headerWord (s : State) (w : Word) : State :=
  let l := s.loader
  let ws := l.hdrWords ++ [w]
  let exp := if ws.length ≥ 2 then fld (nthW ws 1) 63 32 / 8 + 904 else 0
  let l := { l with hdrWords := ws, received := l.received + 1, expected := exp }
  { s with loader := if ws.length ≥ 2 && ws.length ≥ exp then { l with session := 2 } else l }

/-- A word of a region load. -/
def regionWord (s : State) (w : Word) : State :=
  let r := s.loader.loadRegion
  let s := updRegion s r fun g => { g with staged := g.staged ++ [w] }
  let s := modLd s fun l => { l with received := l.received + 1 }
  if s.loader.received ≥ s.loader.expected then setRegion s r .verifying else s

/-- A write of CONFIG_LOAD_DATA (R335, R252). -/
def loadData (rq : Acc) (w : Word) (s : State) : State :=
  secure rq s <|
    let l := s.loader
    if s.fault.safe then modLd s fun l => { l with stray := satAdd 16 l.stray 1 }
    else if l.session == 1 && l.busy then headerWord s w
    else if l.busy && (region s l.loadRegion).state == .loading then regionWord s w
    else modLd s fun l => { l with stray := satAdd 16 l.stray 1 }

/-- The six words of a digest at byte offset `o` (a multiple of 8) of words. -/
def digestAt (ws : List Word) (o : Nat) : Nat := leNat (wordsBytes ((ws.drop (o / 8)).take 6))

/-- The entries of a header (R330). -/
def headerEntries (ws : List Word) : List TableEntry :=
  (upto (fld (nthW ws 2) 63 32)).map fun i =>
    let b := 8 + 8 * i
    ⟨fld (nthW ws b) 15 0, fld (nthW ws b) 63 32, (nthW ws (b + 1)).toNat, digestAt ws (64 + 64 * i + 16)⟩

/-- The field that fails check 5 of R333, by its offset: HEADER_LEN, or the REGION or LENGTH of an entry; with entries left out,
REGION_COUNT. [DEDUCED, log entry 165] -/
def entriesBad (b : Build) (len : Nat) (es : List TableEntry) : Option Nat :=
  let ns := regionNumbers b
  if len != 64 + 64 * es.length then some 12
  else if es.length < ns.length then some 20
  else firstBad ((upto es.length).map fun i =>
    let e := es[i]?.getD {}
    if ns[i]? != some e.region then (false, 64 + 64 * i) else (e.length != 0 && e.length % 8 == 0, 68 + 64 * i))

/-- The checks of R333 in order: the fault and the offset of the first that fails. `sigOk` says whether the ML-DSA-87
signature verifies, `fuse` is the level of fuse_hash (R399). -/
def headerCheck (s : State) (ws : List Word) (sigOk : Bool) (fuse : Nat) : Option (Nat × Nat) :=
  let len := fld (nthW ws 1) 63 32
  let ipMin := fld (nthW ws 2) 23 0
  let es := headerEntries ws
  let sig := ws.drop (len / 8)
  let key := (wordsBytes sig).take 2592
  if nthW ws 0 != 0x4B52344253540003 then some (fcVerify, 0)
  else if fld (nthW ws 1) 31 0 != 3 then some (fcVerify, 8)
  else if ipMin / 2 ^ 16 != 4 || decide (ipMin > 0x040200) then some (fcVerify, 16)
  else if nthW ws 3 != s.build.identConfig then some (fcVerify, 24)
  else if (entriesBad s.build len es).isSome then some (fcVerify, (entriesBad s.build len es).getD 0)
  else if fuse == 0 || Config.sha3_384 key != fuse then some (fcAuth, len)
  else if !sigOk then some (fcAuth, len + 2592)
  else none

/-- HEADER_CHECK_DONE: the session opens or the header is rejected (R333, R336). -/
def headerDone (sigOk : Bool) (fuse : Nat) (s : State) : State :=
  if s.loader.session == 2 && !s.fault.safe then
    let ws := s.loader.hdrWords
    match headerCheck s ws sigOk fuse with
    | some (code, off) => cfgEvent (raiseR (modLd s fun l => { l with session := 0, busy := false }) code 0 off) 6 0
    | none =>
      let len := fld (nthW ws 1) 63 32
      let hdr := ws.take (len / 8)
      let t : Table := ⟨headerEntries ws, nthW ws 4, Config.sha3_384 (wordsBytes hdr)⟩
      cfgEvent (modLd s fun l => { l with session := 3, busy := false, pend := some t, reloaded := false }) 5 0
  else s

/-- The OFFSET of the region being loaded in the file (R330). -/
def loadOffset (s : State) : Nat := ((entryOf (loadTable s) s.loader.loadRegion).map (·.offset)).getD 0

/-- A load ends with the region FENCED: the fault, its offset and the outcome (R336). -/
def loadFails (s : State) (code off outcome : Nat) : State :=
  let r := s.loader.loadRegion
  cfgEvent (raiseR (setRegion (modLd s fun l => { l with busy := false }) r .fenced) code r off) outcome r

/-- LOAD_TIMEOUT: a header load or a region in LOADING does not finish in time (R336). -/
def loadTimeout (s : State) : State :=
  let l := s.loader
  if s.fault.safe then s
  else if l.session == 1 && l.busy then
    cfgEvent (raiseR (modLd s fun l => { l with session := 0, busy := false }) fcLoadTimeout 0 (8 * l.received)) 6 0
  else if l.busy && (region s l.loadRegion).state == .loading then
    loadFails s fcLoadTimeout (loadOffset s + 8 * l.received) 3
  else s

/-- DRAIN_END: the holder of a DRAINING region is idle, or DRAIN_LIMIT is reached (R492). -/
def drainEnd (r : Nat) (s : State) : State :=
  if (region s r).state == .draining && !s.fault.safe then enterLoading s r else s

/-- The holders take the content of a region that has become ACTIVE; copies are replaced (R334). -/
def takeContent (s : State) (r : Nat) (ws : List Word) : State :=
  match r with
  | 1 => modLd s fun l => { l with topoLoaded := true }
  | 2 => modLd s fun l => { l with contracts := contractsOf ws }
  | 3 => modLd s fun l => { l with policy := ws }
  | 4 => { s with fault := { s.fault with react := ws, reactDefault := false } }
  | 6 => { s with thermal := { s.thermal with words := some ws } }
  | 8 => modLd s fun l => { l with security := ws }
  | _ => s

/-- REGION_VERIFY_DONE (R336). -/
def regionVerified (exists_ : Nat → Bool) (s : State) : State :=
  let r := s.loader.loadRegion
  let g := region s r
  if !(s.loader.busy && g.state == .verifying && !s.fault.safe) then s
  else
    match entryOf (loadTable s) r with
    | none => s
    | some e =>
      if Config.sha3_384 (wordsBytes g.staged) != e.digest then loadFails s fcAuth e.offset 1
      else match verifyRegion exists_ s r g.staged with
        | some off => loadFails s fcVerify (e.offset + off) 2
        | none =>
          let s := updRegion s r fun g =>
            { g with content := g.staged, staged := [], length := g.staged.length, digest := e.digest }
          let s := takeContent (modLd s fun l => { l with busy := false }) r g.staged
          post (cfgEvent (setRegion s r .active) 0 r) (.regionActive r)

/-- A PARTITION rung covering a tile group fences a load of it (R336). [DEDUCED, log entry 120] -/
def fenceGroup (s : State) (g : Nat) : State :=
  let r := 16 + g
  let st := (region s r).state
  if st == .draining || st == .loading || st == .verifying then
    post (cfgEvent (setRegion (modLd s fun l => { l with busy := false }) r .fenced) 4 r) (.regionDown r)
  else s

/-- A value of CONFIG_CTL as it is stored (R345). -/
def storeCtl (v : Word) : Word := pack [(32, 16, min (fld v 47 32) 100), (16, 16, min (fld v 31 16) 10000)]

/-- Word w of a digest held as a number. -/
def digestWord (d w : Nat) : Word := BitVec.ofNat 64 (d / 2 ^ (64 * w))

/-- CONFIG_STATUS (R345). -/
def configStatus (s : State) : Word :=
  let l := s.loader
  pack [(61, 3, l.session), (60, 1, b2n l.active.isSome), (59, 1, b2n l.mixed), (58, 1, b2n l.busy),
    (48, 5, if l.busy then l.loadRegion else 0), (32, 8, toLoad s)]

/-- CONFIG_REGION[r] (R345, R347). -/
def configRegion (s : State) (r : Nat) : Word :=
  if r == 0 || r == 9 then pack [(61, 3, if s.loader.active.isSome then 0 else 4)]
  else if !((regionNumbers s.build).contains r) then 0
  else
    let g := region s r
    pack [(61, 3, regCode g.state), (60, 1, b2n (entryOf s.loader.active r).isSome), (59, 1, b2n (pendDiff s r)),
      (32, 24, g.length), (0, 32, g.digest)]
where
  regCode : RegState → Nat
    | .active => 0 | .draining => 1 | .loading => 2 | .verifying => 3 | .fenced => 4

/-- The CONFIG block (R345), by window offset. -/
def viewConfig (s : State) (off : Nat) : Option Word :=
  let l := s.loader
  if off == 0x080000 then some (configStatus s)
  else if off == 0x080008 || off == 0x080010 || off == 0x080038 then some 0
  else if off == 0x080018 then some (pack [(40, 24, l.received), (16, 24, l.expected), (0, 16, l.stray)])
  else if off == 0x080020 then some l.ctl
  else if off == 0x080028 then some ((l.active.map (·.serial)).getD 0)
  else if off == 0x080030 then some (setFld (heldView l.event) 31 24 (missed8 l.event))
  else if 0x080040 ≤ off && off < 0x080070 && off % 8 == 0 then
    some (digestWord ((l.active.map (·.digest)).getD 0) ((off - 0x080040) / 8))
  else if 0x080070 ≤ off && off < 0x0800A0 && off % 8 == 0 then
    some (digestWord ((l.pend.map (·.digest)).getD 0) ((off - 0x080070) / 8))
  else if 0x080100 ≤ off && off < 0x080200 && off % 8 == 0 then some (configRegion s ((off - 0x080100) / 8))
  else none

end Sys2Proof.Machine
end

