-- ==== Sys2Proof/Machine/Seq.lean ====
section
/-! DEFINITION. The sequencer cores: instructions, events and waits, timers, faults and stalls, restart and trace
(R348–R363). LDB and STB are in the file that has the register map. -/
namespace Sys2Proof.Machine

/-- The requester a core is for its register accesses (R357). -/
def seqAcc (n : Nat) : Acc := ⟨0xFFF0 + n, true⟩

/-- Whether core n stands frozen in a global stop (R291). -/
def seqFrozen (s : State) (n : Nat) : Bool := s.stop.frozenUnits.contains (7 + n)

/-- Register sr of a core: s0 reads 0 (R349). -/
def sreg (c : Core) (r : Nat) : Word := if r = 0 then 0 else sget 0 c.regs r

/-- Write register sr of a core: a write of s0 is discarded (R349). -/
def setSreg (c : Core) (r : Nat) (v : Word) : Core := if r = 0 then c else { c with regs := sset 0 c.regs r v }

/-- The instruction word at a core's PC; a store word that no image gives is zero. -/
def seqWord (c : Core) : Nat := (nthW c.code c.pc).toNat

/-- The immediate, sign-extended (R350). -/
def immS (w : Nat) : Word := BitVec.ofInt 64 (toSigned 19 (iImm w))

/-- The immediate, zero-extended. -/
def immZ (w : Nat) : Word := BitVec.ofNat 64 (iImm w)

/-- The data address or window offset s[ra] + imm (R351). [DEDUCED, log entry 121] -/
def seqAddr (c : Core) (w : Nat) : Word := sreg c (iRa w) + immS w

/-- A data address that R355 allows. -/
def dataOk (a : Nat) : Bool := a % 8 == 0 && decide (a < 16384)

/-- The trace entry of an instruction (R361). -/
def traceEntry (s : State) (c : Core) (w event : Nat) (faulted : Bool) : Word :=
  pack [(51, 13, c.pc), (46, 5, iOp w), (45, 1, b2n (s.time.state == .lost)), (44, 1, b2n faulted), (39, 5, event),
    (0, 39, min (now s - c.lastStamp) (2 ^ 39 - 1))]

/-- The trace ring of a core takes an entry unless it is frozen (R361). -/
def traceAdd (s : State) (n w event : Nat) (faulted : Bool) : State :=
  updCore s n fun c =>
    if c.traceFrozen then c
    else { c with trace := sset 0 c.trace c.traceNext (traceEntry s c w event faulted), traceNext := wrapAdd 13 c.traceNext 1,
                  traceCount := satAdd 48 c.traceCount 1, lastStamp := now s }

/-- A core fault (R355): the core halts at the faulting instruction and its ring freezes. -/
def coreFault (s : State) (n cause : Nat) : State :=
  let s := traceAdd s n (seqWord (core s n)) 0 true
  let s := updCore s n fun c => { c with state := .fault, cause := cause, traceFrozen := true }
  raiseI s (fcode 13 2 0) (7 + n)

/-- An instruction retires: its entry, the next PC, the count. -/
def retire (s : State) (n w pc event : Nat) : State :=
  let s := traceAdd s n w event false
  updCore s n fun c => { c with pc := pc % 2 ^ 13, retired := satAdd 48 c.retired 1, lastRetire := some (ticks s) }

/-- Any of the `k` words of a core's data store from byte address `a` has an uncorrectable error (R349, R355). [DESIGN CHOICE, log entry 184] -/
def dataBad (c : Core) (a k : Nat) : Bool := (upto k).any fun i => c.dataErr.contains (a / 8 + i)

/-- A core executes the instruction at its PC when it runs and that instruction has opcode `op`; a word that the store cannot
correct and an illegal word are core faults (R349, R351, R355). -/
def seqDo (op n : Nat) (f : Core → Nat → State → State) (s : State) : State :=
  let c := core s n
  let w := seqWord c
  if c.state != .run || seqFrozen s n then s
  else if c.codeErr.contains c.pc then coreFault s n 3
  else if !(instrLegal w) then coreFault s n 1
  else if iOp w != op then s
  else f c w s

/-- An operation that writes rd and goes on to the next instruction. -/
def seqAlu (op n : Nat) (v : Core → Nat → State → Word) : State → State :=
  seqDo op n fun c w s =>
    retire (updCore s n fun k => setSreg k (iRd w) (v c w s)) n w (c.pc + 1) 0

/-- A shift: imm[6] says right, imm[5:0] the count (R351). -/
def shiftOf (w : Nat) (x : Word) : Word :=
  if nbit (iImm w) 6 then x >>> (iImm w % 64) else x <<< (iImm w % 64)

/-- The condition of a CMP (R351). -/
def cmpHolds (cond : Nat) (x y : Word) : Bool :=
  match cond with
  | 0 => x == y
  | 1 => x != y
  | 2 => x.ult y
  | 3 => !(x.ult y)
  | 4 => x.slt y
  | _ => !(x.slt y)

/-- LD (R351). -/
def seqLd (n : Nat) : State → State := seqDo 0x0A n fun c w s =>
  let a := (seqAddr c w).toNat
  if !(dataOk a) then coreFault s n 2
  else if dataBad c a 1 then coreFault s n 3
  else retire (updCore s n fun k => setSreg k (iRd w) (sget 0 c.data (a / 8))) n w (c.pc + 1) 0

/-- A word is written into a core's data store, with parity of its own (R349). -/
def dataSet (k : Core) (i : Nat) (v : Word) : Core :=
  { k with data := sset 0 k.data i v, dataErr := k.dataErr.filter (· != i) }

/-- ST (R351). -/
def seqSt (n : Nat) : State → State := seqDo 0x0B n fun c w s =>
  let a := (seqAddr c w).toNat
  if dataOk a then
    retire (updCore s n fun k => dataSet k (a / 8) (sreg c (iRd w))) n w (c.pc + 1) 0
  else coreFault s n 2

/-- BR (R351). -/
def seqBr (n : Nat) : State → State := seqDo 0x0F n fun c w s =>
  let taken := if nbit (iImm w) 18 then sreg c (iRd w) != 0 else sreg c (iRd w) == 0
  retire s n w (if taken then jumpTo c.pc (toSigned 18 (iImm w)) else c.pc + 1) 0

/-- JAL (R351). -/
def seqJal (n : Nat) : State → State := seqDo 0x10 n fun c w s =>
  retire (updCore s n fun k => setSreg k (iRd w) (BitVec.ofNat 64 (c.pc + 1))) n w
    (jumpTo c.pc (toSigned 19 (iImm w))) 0

/-- JR (R351): s[ra] is read before rd is written. -/
def seqJr (n : Nat) : State → State := seqDo 0x11 n fun c w s =>
  retire (updCore s n fun k => setSreg k (iRd w) (BitVec.ofNat 64 (c.pc + 1))) n w ((sreg c (iRa w)).toNat) 0

/-- The lowest-numbered set latch in a mask. -/
def lowLatch (latches mask : Nat) : Option Nat := (upto 19).find? fun i => nbit (latches &&& mask) i

/-- A WAIT returns event e: its number to rd, its latch cleared (R353). -/
def waitReturns (s : State) (n e : Nat) : State :=
  let c := core s n
  let w := seqWord c
  let s := updCore s n fun k =>
    setSreg { k with state := .run, latches := k.latches - (k.latches &&& 2 ^ e) } (iRd w) (BitVec.ofNat 64 e)
  retire s n w (c.pc + 1) e

/-- WAIT (R351, R353). -/
def seqWait (n : Nat) : State → State := seqDo 0x12 n fun c w s =>
  if iImm w = 0 then coreFault s n 9
  else
    let s := updCore s n fun k => { k with mask := iImm w }
    match lowLatch c.latches (iImm w) with
    | some e => waitReturns s n e
    | none => updCore s n fun k => { k with state := .wait }

/-- A waiting core returns when a latch of its mask is set (R353). -/
def seqWaitReturn (n : Nat) (s : State) : State :=
  let c := core s n
  if c.state == .wait && !(seqFrozen s n) then
    match lowLatch c.latches c.mask with
    | some e => waitReturns s n e
    | none => s
  else s

/-- TIMER (R351, R354): the durations are at most 2^40 − 1, and 0 disarms. -/
def seqTimerArm (n : Nat) : State → State := seqDo 0x13 n fun c w s =>
  if iRd w > 2 then coreFault s n 8
  else
    let d := (sreg c (iRa w) + immZ w).toNat
    retire (updCore s n fun k => { k with timers := sset 0 k.timers (iRd w) (min d (2 ^ 40 - 1)) }) n w (c.pc + 1) 0

/-- A timer of a core expires and sets its latch (R354). -/
def seqExpire (n i : Nat) (s : State) : State :=
  if sget 0 (core s n).timers i = 0 then s
  else latch (updCore s n fun k => { k with timers := sset 0 k.timers i 0 }) n (16 + i)

/-- The ten words of a record CONTENT at a data address (R351). -/
def dataWords (c : Core) (a k : Nat) : List Word := (upto k).map fun i => sget 0 c.data (a / 8 + i)

/-- POST (R351, R355). [DEDUCED, log entry 121] -/
def seqPost (n : Nat) : State → State := seqDo 0x15 n fun c w s =>
  let type := iImm w % 256
  let a := (seqAddr c w).toNat
  if type == 2 || type == 3 || type == 4 || type == 0x0A || (type == 1 && n != 2) then coreFault s n 5
  else if !(dataOk a && dataOk (a + 72)) then coreFault s n 2
  else if dataBad c a 10 then coreFault s n 3
  else
    let content := dataWords c a 10
    if type == 1 then
      retire (post s (.detail (fld (sreg c (iRd w)) 15 0) (content.drop 2))) n w (c.pc + 1) 0
    else
      let (ok, s) := postRec s type 0 (7 + n) content
      retire (updCore s n fun k => setSreg k (iRd w) (if ok then 1 else 0)) n w (c.pc + 1) 0

/-- MBOX (R351, R355). -/
def seqMbox (n : Nat) : State → State := seqDo 0x16 n fun c w s =>
  if n != 3 then coreFault s n 6
  else retire (mbOutPost (iImm w % 8) (sreg c (iRd w)) (fld (sreg c (iRa w)) 31 0) s) n w (c.pc + 1) 0

/-- DMA (R351): the descriptor goes to channel 7 with OWNER 7 + core. BLOCK means the core's data store. -/
def seqDmaPost (n : Nat) : State → State := seqDo 0x18 n fun c w s =>
  let a := (seqAddr c w).toNat
  let ws := dataWords c a 4
  let src := nthW ws 0
  if !(dataOk a && dataOk (a + 24)) then coreFault s n 2
  else if dataBad c a 4 || (dKind src == 2 && dataBad c (dAddr src) (ceilDiv (dLen (nthW ws 2)) 8)) then coreFault s n 3
  else
    let buf := if dKind src == 2 then wordsBytes ((upto 2048).map fun i => sget 0 c.data i) else []
    let ok := dmaRoom s 7
    let s := if ok then
        dmaPost 7 src (nthW ws 1) (setFld (nthW ws 2) 55 48 (7 + n)) .sequencer (buf.drop (dAddr src)) s
      else s
    retire (updCore s n fun k => setSreg k (iRd w) (if ok then 1 else 0)) n w (c.pc + 1) 0

/-- Bytes that a DMA descriptor brings to a core's data store. -/
def seqSink (s : State) (n off : Nat) (bytes : List Byte) : State :=
  let ws := bytesWords bytes
  updCore s n fun k => (upto ws.length).foldl (fun k i =>
    if off / 8 + i < 2048 then dataSet k (off / 8 + i) (nthW ws i) else k) k

/-- RAISE (R351, R355). -/
def seqRaise (n : Nat) : State → State := seqDo 0x19 n fun c w s =>
  let code := iImm w % 2 ^ 16
  if fcls code == 15 || fsev code == 3 then coreFault s n 7
  else retire (raiseI s code (7 + n)) n w (c.pc + 1) 0

/-- A core starts from address 0 (R356, R359): registers and timers zeroed, the data store initialised from the active
MICROCODE region, latches kept. -/
def startCore (s : State) (n : Nat) : State :=
  let im := ((images (region s 7).content)[n]?).getD ([], [])
  let s := updCore s n fun c =>
    { c with
      state := .run, cause := 0, restarts := satAdd 16 c.restarts 1, pc := 0, regs := [], timers := [],
      code := im.1.map fun w => BitVec.ofNat 64 w,
      data := (upto im.2.length).foldl (fun d i => sset 0 d i (nthW im.2 i)) [], codeErr := [], dataErr := [],
      traceFrozen := false,
      overloadRaised := false }
  if n == 3 then mailSq3Start s else s

/-- MICROCODE enters ACTIVE: every core starts (R359). -/
def startCores (s : State) : State := forEach (upto 4) s startCore

/-- MICROCODE enters DRAINING: every core halts (R359). -/
def haltCores (s : State) : State := forEach (upto 4) s fun s n => updCore s n fun c => { c with state := .haltedLoad }

/-- SEQ_CMD RESTART, FREEZE, THAW (R356, R361–R363). -/
def seqRestartCmd (rq : Acc) (n : Nat) (s : State) : State :=
  secure rq s <|
    let st := (core s n).state
    if st == .fault || st == .stall then startCore s n else raiseK s fcCmdIllegal rq 0x0D0020

/-- SEQ_CMD FREEZE. -/
def seqFreezeCmd (rq : Acc) (n : Nat) (s : State) : State :=
  secure rq s <| updCore s n fun c => { c with traceFrozen := true }

/-- SEQ_CMD THAW. -/
def seqThawCmd (rq : Acc) (n : Nat) (s : State) : State :=
  secure rq s <|
    if (core s n).traceFrozen then updCore s n fun c => { c with traceFrozen := false }
    else raiseK s fcCmdIllegal rq 0x0D0020

/-- A reserved code of SEQ_CMD (R363). -/
def seqBadCmd (rq : Acc) (s : State) : State := secure rq s (raiseK s fcCmdIllegal rq 0x0D0020)

/-- SQ_STALL: a running core retires nothing for 1 ms, or no WAIT for WATCHDOG (R356). -/
def seqStallEff (n : Nat) (watchdog : Bool) (s : State) : State :=
  if (core s n).state == .run && !(seqFrozen s n) then
    raiseI (updCore s n fun c => { c with state := .stall, cause := if watchdog then 11 else 10, traceFrozen := true })
      (fcode 13 2 1) (7 + n)
  else s

/-- CONTROL_OVERLOAD: a latch of the mask has stayed set for OVERLOAD (R360). -/
def seqOverload (n l : Nat) (s : State) : State :=
  let c := core s n
  if (c.state == .run || c.state == .wait) && nbit (c.latches &&& c.mask) l && !c.overloadRaised then
    raiseI (updCore s n fun c => { c with overloadRaised := true }) (fcode 13 1 2) (7 + n)
  else s

/-- A period of overload ends when no latch of the mask is set (R360). -/
def overloadSettles (s : State) : State :=
  if (upto 4).any (fun n => (core s n).overloadRaised && (core s n).latches &&& (core s n).mask == 0) then
    forEach (upto 4) s fun s n =>
      if (core s n).latches &&& (core s n).mask == 0 then updCore s n fun c => { c with overloadRaised := false } else s
  else s

/-- A write of SEQ_TRACE_SEL loads 32 entries (R362, R363). -/
def traceSel (rq : Acc) (v : Word) (s : State) : State :=
  secure rq s <|
    let n := fld v 61 60; let i := fld v 12 0
    let c := core s n
    { s with
      seq := { s.seq with
        traceSel := pack [(60, 2, n), (0, 13, i)], traceCore := n, traceIndex := i, traceGen := wrapAdd 16 s.seq.traceGen 1,
        traceData := (upto 32).map fun k => sget 0 c.trace ((i + k) % 8192) } }

/-- A value of SEQ_CTL as it is stored (R362). -/
def seqCtlStore (v : Word) : Word := pack [(16, 16, min (fld v 31 16) 1000), (0, 16, min (fld v 15 0) 1000)]

/-- The code of a core state. -/
def coreCode : CoreState → Nat
  | .haltedLoad => 0 | .run => 1 | .wait => 2 | .fault => 3 | .stall => 4

/-- The SEQUENCERS block (R362), by window offset. -/
def viewSeq (s : State) (off : Nat) : Option Word :=
  let q := s.seq
  if 0x0D0000 ≤ off && off < 0x0D0020 && off % 8 == 0 then
    let c := core s ((off - 0x0D0000) / 8)
    some (pack [(61, 3, coreCode c.state), (57, 4, c.cause), (32, 16, c.restarts), (0, 13, c.pc)])
  else if off == 0x0D0020 then some 0
  else if off == 0x0D0028 then some q.ctl
  else if 0x0D0040 ≤ off && off < 0x0D0060 && off % 8 == 0 then some (pack [(0, 48, (core s ((off - 0x0D0040) / 8)).retired)])
  else if 0x0D0060 ≤ off && off < 0x0D0080 && off % 8 == 0 then
    let c := core s ((off - 0x0D0060) / 8)
    some (pack [(32, 19, c.mask), (0, 19, c.latches)])
  else if off == 0x0D0080 then some q.traceSel
  else if off == 0x0D0088 then some (pack [(60, 2, q.traceCore), (32, 16, q.traceGen), (0, 13, q.traceIndex)])
  else if 0x0D00A0 ≤ off && off < 0x0D00C0 && off % 8 == 0 then
    let c := core s ((off - 0x0D00A0) / 8)
    some (pack [(63, 1, b2n c.traceFrozen), (0, 48, c.traceCount)])
  else if 0x0D0100 ≤ off && off < 0x0D0200 && off % 8 == 0 then some (nthW q.traceData ((off - 0x0D0100) / 8))
  else if 0x0D0200 ≤ off && off < 0x0D0400 && off % 8 == 0 then
    some (sreg (core s ((off - 0x0D0200) / 0x80)) ((off - 0x0D0200) % 0x80 / 8))
  else none

end Sys2Proof.Machine
end

