-- ==== Sys2Proof/Machine/Fault.lean ====
section
/-! DEFINITION. The fault collector: captures, coalescing, pending bits, reaction timers, the safe state, escalation and
injection, records of faults with their snapshots, interrupts (R256–R274, R301–R305, R491). -/
namespace Sys2Proof.Machine

/-- The bit of FAULT_PENDING of a class and a severity from WARN to FATAL. -/
def pendBit (cls sev : Nat) : Nat := 16 * sev + cls

/-- A FAULT_INFO word (R273). -/
def infoWord (c : Cap) (seq rep : Nat) : Word :=
  pack [(63, 1, 1), (62, 1, b2n c.part.isSome), (58, 4, c.part.getD 0), (54, 4, c.access), (50, 4, rep), (32, 16, seq),
    (16, 16, c.master), (0, 16, c.code)]

/-- The rung an action asks for: one whose target is unknown gives way to the next whose target is known (R265). -/
def resolveRung (r : Nat) (t : Target) : Nat :=
  let r := if r == 1 && t.ctx.isNone then 2 else r
  let r := if r == 2 && t.tile.isNone then 3 else r
  if r == 3 && t.part.isNone then 4 else r

/-- The target of a capture (R265): only a TAP capture names a context and a tile. -/
def capTarget (c : Cap) : Target := if c.access == 7 then ⟨c.ctx, c.tile, c.part⟩ else ⟨none, none, c.part⟩

/-- The word of REACTION for a class: the defaults of R262 before the first region. -/
def reactWord (s : State) (cls : Nat) : Word :=
  if s.fault.reactDefault then pack [(56, 4, 6)] else nthW s.fault.react cls

/-- The reaction timer of a class. -/
def react (s : State) (cls : Nat) : React := sget {} s.fault.timers cls

/-- Rewrite the reaction timer of a class. -/
def updReact (s : State) (cls : Nat) (f : React → React) : State :=
  modFault s fun u => { u with timers := supd {} u.timers cls f }

/-- The ticks a running timer still has. -/
def reactLeft (s : State) (r : React) : Nat := if r.running then r.timer - (ticks s - r.start) else r.remain

/-- Stop a timer where it stands. -/
def reactStop (s : State) (cls : Nat) : State :=
  if (react s cls).running then updReact s cls fun r => { r with running := false, remain := reactLeft s r } else s

/-- The rung of an action is requested for a target, unless the safe state holds (R263, R269). -/
def askRung (s : State) (r : Nat) (t : Target) : State :=
  if s.fault.safe then s else post s (.rung ⟨resolveRung r t, t⟩)

/-- A reaction timer expires (R263). -/
def reactExpires (s : State) (cls : Nat) : State :=
  let r := react s cls
  if !r.running then s
  else
    let s := updReact s cls fun r => { r with running := false, expired := true, remain := 0 }
    askRung (latch s 2 2) r.action r.target

/-- QUIESCE is entered from RUN or THROTTLE, by a global stop or otherwise (R250). -/
def enterQuiesce (s : State) (byStop : Bool) : State :=
  if s.mode.power == .run || s.mode.power == .throttle then
    let s := setPower s .quiesce
    { s with mode := { s.mode with quiesceByStop := byStop } }
  else s

/-- The safe state ends a rung below CHIP and drops what is deferred; the recovery level is frozen (R252, R283). [DEDUCED, log entry 103] -/
def ladderStops (s : State) : State :=
  let l := s.ladder
  if l.rung = 0 ∨ 4 ≤ l.rung then { s with ladder := { l with deferred := [] } }
  else { s with ladder := { l with rung := 0, stage := 0, target := {}, engReq := none, partReq := none, deferred := [] } }

/-- Entry into the safe state (R268, R269): causes 1 collector fault, 2 fatal action SAFE, 3 injected. -/
def enterSafe (s : State) (cause : Nat) : State :=
  if s.fault.safe then s
  else
    let s := modFault s fun u => { u with safe := true, safeCause := cause }
    let s := modEng s fun e => { e with commitClosed := true, updOpen := false }
    let s := modGate s fun g => { g with closed := true }
    let s := enterQuiesce s false
    let s := ladderStops s
    post (forEach (upto 16) s reactStop) .tokens

/-- Set a pending bit and start what it starts (R258, R263). -/
def setPending (s : State) (c : Cap) : State :=
  let cls := fcls c.code; let sev := fsev c.code
  let was := nbit s.fault.pending.toNat (pendBit cls sev)
  let bit := BitVec.ofNat 64 (2 ^ pendBit cls sev)
  let s := modFault s fun u => { u with pending := u.pending ||| bit }
  if sev == 2 && !was && !s.fault.safe then
    let w := reactWord s cls
    let s := updReact s cls fun r => { r with expired := false }
    if fld w 63 60 == 0 then s
    else
      let t := fld w 33 0
      let s := updReact s cls fun _ =>
        { running := true, action := fld w 63 60, target := capTarget c, timer := t, start := ticks s, remain := t }
      if t = 0 then reactExpires s cls else s
  else if sev == 3 then
    let act := fld (reactWord s cls) 59 56
    if cls == 15 then
      let s := modFault s fun u => { u with collectorFault := true }
      enterSafe s (if c.access == 11 then 3 else 1)
    else if act == 6 then enterSafe s (if c.access == 11 then 3 else 2)
    else askRung s act (capTarget c)
  else s

/-- The newest history entry takes a capture within 1 µs of its creation that has its code, access type and master, while
a first-error record is held (R260). -/
def coalesces (s : State) (c : Cap) : Bool :=
  let u := s.fault
  let at_ := (sget {} u.hist u.newest).createdAt
  u.first.valid && u.newestKey == some (c.code, c.access, c.master) && decide (now s ≤ at_ + 1000) && decide (at_ ≤ now s + 1000)

/-- A fault enters the first-error record and the history (R260); the sequence number it has. A collector fault writes no
first-error record (R268). -/
def enterHistory (s : State) (c : Cap) : Nat × State :=
  let u := s.fault
  if coalesces s c then
    let e := sget {} u.hist u.newest
    let e' := { e with info := setFld e.info 53 50 (satAdd 4 (fld e.info 53 50) 1) }
    (fld e.info 47 32, modFault s fun u => { u with hist := sset {} u.hist u.newest e' })
  else
    let seq := wrapAdd 16 u.seq 1
    let e : FaultEntry := ⟨true, infoWord c seq 0, BitVec.ofNat 64 c.addr, stamp s, now s⟩
    let s := modFault s fun u =>
      { u with
        seq := seq, hist := sset {} u.hist (seq % 16) e, newest := seq % 16, newestKey := some (c.code, c.access, c.master),
        first := if u.first.valid || fcls c.code == 15 then u.first else e }
    (seq, latch s 2 1)

/-- The FAULT record of a capture, with its snapshots (R301, R302, R305). `rd` reads a register of the window. -/
def faultRecord (rd : State → Nat → Option Word) (s : State) (c : Cap) (seq : Nat) : State :=
  let k := fcls c.code * 64 + fidx c.code
  let (burst, list, rate) := entryFor s k
  let (ok, sup, b) := takeToken (sget {} s.rcd.buckets k) burst rate (ticks s)
  let s := modRcd s fun d => { d with buckets := sset {} d.buckets k b }
  if !ok then s
  else
    let w1 := pack [(60, 4, c.access), (59, 1, b2n c.part.isSome), (55, 4, c.part.getD 0),
      (32, 16, if fsev c.code = 0 then 0 else seq)]
    let offs := snapList s.rcd.content list
    let r : Rec :=
      { time := stamp s, code := c.code, type := 1, flags := if offs.isEmpty then 0 else 2, suppressed := sup,
        master := c.master, content := tenWords [BitVec.ofNat 64 c.addr, w1], raw := c.words, detailDue := true }
    let vals := offs.map fun o => (rd s o).getD 0
    let s := formRec s r
    forEach (upto (ceilDiv vals.length 10)) s fun s i =>
      formRec s { time := stamp s, code := c.code, type := 2, flags := 4 * (i + 1), master := 6,
                  content := tenWords ((vals.drop (10 * i)).take 10) }

/-- A capture is counted: in its class, and CAS_LINK_DOWN in CAS_STATUS.LINK_DOWNS (R260, R461). -/
def countCap (s : State) (c : Cap) : State :=
  let s := modFault s fun u => { u with counts := supd 0 u.counts (fcls c.code) fun n => satAdd 48 n 1 }
  if fcls c.code == 14 && fidx c.code == 0 then modCas s fun k => { k with linkDowns := satAdd 16 k.linkDowns 1 } else s

/-! ### The two copies (R268) -/

/-- The words the collector keeps twice (R268): FAULT_PENDING, the first-error record, the interrupt enables, its status, the
history, the counters, the timers and the REACTION words. [DESIGN CHOICE, log entry 149] -/
def collectorWords (u : FaultUnit) : List Word :=
  [u.pending, u.first.info, u.first.addr, u.first.time, u.irqSEn, u.irqNsEn,
    pack [(63, 1, b2n u.safe), (62, 1, b2n u.collectorFault), (61, 1, b2n u.reactDefault), (56, 4, u.safeCause),
      (32, 16, u.histLost), (16, 4, u.newest), (0, 16, u.seq)]] ++
  (upto 16).flatMap (fun i => let e := sget {} u.hist i; [e.info, e.addr, e.time]) ++
  (upto 16).map (fun c => BitVec.ofNat 64 (sget 0 u.counts c)) ++
  (upto 16).flatMap (fun c =>
    let r := sget {} u.timers c
    [pack [(63, 1, b2n r.running), (62, 1, b2n r.expired), (58, 4, r.action), (0, 34, r.timer)],
      BitVec.ofNat 64 r.start, BitVec.ofNat 64 r.remain]) ++
  (upto 16).map (nthW u.react)

/-- The word of an index as one of the two copies holds it. [DEDUCED, log entry 186] -/
def copyWord (u : FaultUnit) (second : Bool) (i : Nat) : Word :=
  u.flaws.foldl (fun w f => if f.second == second && f.word == i then w ^^^ f.bits else w) (nthW (collectorWords u) i)

/-- The parity bits, one per byte, that belong to a word. -/
def parityOf (w : Word) : Nat :=
  (upto 8).foldl (fun p b => p + 2 ^ b * (((upto 8).filter fun k => bitOf w (8 * b + k)).length % 2)) 0

/-- The parity bits of a word as one of the two copies holds them. -/
def copyParity (u : FaultUnit) (second : Bool) (i : Nat) : Nat :=
  u.flaws.foldl (fun p f => if f.second == second && f.word == i then p ^^^ f.par else p) (parityOf (nthW (collectorWords u) i))

/-- A copy of a word does not fit the parity bits beside it (R268). -/
def parityBad (u : FaultUnit) (second : Bool) (i : Nat) : Bool :=
  parityOf (copyWord u second i) != copyParity u second i

/-- The two copies of a word disagree (R268). -/
def copiesDiffer (u : FaultUnit) (i : Nat) : Bool := copyWord u false i != copyWord u true i

/-- The collector grants a capture (R258–R261, R268); a collector fault has a SAFE_ENTRY record with both copies of FAULT_PENDING. [DEDUCED, log entry 95] -/
def capture (rd : State → Nat → Option Word) (c : Cap) (s : State) : State :=
  let cls := fcls c.code
  let s := countCap s c
  let s := latch s 2 0
  let s := if cls == 9 then latch s 2 4 else s
  if fsev c.code = 0 then faultRecord rd s c 0
  else
    let (seq, s) := enterHistory s c
    let s := faultRecord rd (setPending s c) c seq
    if cls == 15 then (postRec s 0x0A 0 0 [copyWord s.fault false 0, copyWord s.fault true 0]).2 else s

/-- A capture that the collector could not grant within 2 µs: it does not enter the history, where a fault counts as lost, and
the collector is at fault (R258, R260, R261, R268). Its record, where its bucket admits one, carries the number of the newest
capture. [DEDUCED, log entry 95] -/
def captureLost (rd : State → Nat → Option Word) (c : Cap) (s : State) : State :=
  let s := countCap s c
  let s := if fsev c.code = 0 then s else setPending (modFault s fun u => { u with histLost := satAdd 16 u.histLost 1 }) c
  raiseI (faultRecord rd s c s.fault.seq) (fcode 15 3 1) 0

/-- The collector compares its copies: a parity error in either raises COLLECTOR_PARITY, a disagreement between them
COLLECTOR_MISMATCH (R268). [DESIGN CHOICE, log entry 149] -/
def collectorCheck (s : State) : State :=
  let ws := upto (collectorWords s.fault).length
  let s' := if ws.any (fun i => parityBad s.fault false i || parityBad s.fault true i) then raiseI s (fcode 15 3 0) 0 else s
  if ws.any (copiesDiffer s.fault) then raiseI s' (fcode 15 3 1) 0 else s'

/-- Bits of one copy of one word of the collector turn, and the comparison finds it (R268): which copy, which word and which
bits, parity bits among them and at least one, are free values. [DESIGN CHOICE, log entry 149] -/
def collectorParity (s : State) : State :=
  let (c, s) := drawNext s
  let (w, s) := drawNext s
  let (m, s) := drawNext s
  let m := Config.draw m % (2 ^ 72 - 1) + 1
  let flaw : Flaw := ⟨Config.draw c % 2 == 1, Config.draw w % (collectorWords s.fault).length, BitVec.ofNat 64 m, m / 2 ^ 64⟩
  collectorCheck (modFault s fun u => { u with flaws := u.flaws ++ [flaw] })

/-- The severities with which the block raises the index of a class (R257); none for a reserved index. -/
def raisedSev (cls idx : Nat) : List Nat :=
  let e : List Nat → List Nat := fun l => match l[idx]? with
    | some v => [v]
    | none => []
  match cls with
  | 0 => e [2, 2, 1, 1, 2, 2, 2, 2, 2, 1, 1]
  | 1 => e [2, 2, 1, 1, 2, 2, 2]
  | 2 => e [2, 1]
  | 3 => e [2, 2, 2, 2, 2, 1, 2, 2, 0, 2, 2, 2, 1, 1]
  | 4 => e [1, 2, 1, 2, 2, 2, 1, 2, 2, 2, 2, 1, 2, 1, 1]
  | 5 => e [2, 2, 1, 1, 2, 2, 2, 1, 0, 1, 2]
  | 6 => if idx = 1 then [1, 2] else e [0, 1, 1, 1, 1]
  | 7 => e [2, 2, 1, 2, 2, 3, 1]
  | 8 => e [1, 2, 2, 2, 2, 2]
  | 9 => e [2, 1, 1, 1, 3, 1, 2]
  | 10 => e [2, 2, 2, 1, 2]
  | 11 => e [2, 2, 2]
  | 12 => e [3, 1, 3, 0]
  | 13 => e [2, 2, 1, 1, 2, 1, 1]
  | 14 => e [2, 3, 2]
  | _ => e [3, 3]

/-- Whether a code is one that FAULT_INJECT may raise (R272). [DEDUCED, log entry 94] -/
def codeKnown (code : Nat) : Bool :=
  (code / 64) % 16 == 0 && (raisedSev (fcls code) (fidx code)).contains (fsev code)

/-- A write of FAULT_INJECT (R270, R272). [DEDUCED, log entry 94] [DEDUCED, log entry 95] -/
def injectCmd (rq : Acc) (v : Word) (s : State) : State :=
  secure rq s <|
    let code := fld v 15 0
    if codeKnown code then raise s { code := code, access := 11, master := rq.id, addr := fld v 63 16 }
    else raiseK s fcCmdIllegal rq 0x010048

/-- The target a command names for a rung (R265, R271). -/
def cmdTarget (s : State) (rung t : Nat) : Target :=
  match rung with
  | 1 => { ctx := some t }
  | 2 => { tile := some t, part := partOf s t }
  | 3 => { part := some t }
  | _ => {}

/-- Whether R271 allows a rung for a target. -/
def escalateOk (s : State) (rung t : Nat) : Bool :=
  decide (1 ≤ rung) && decide (rung ≤ 5) && (rung != 2 || decide (t < s.build.tiles)) &&
    (rung != 3 || decide (t < s.build.partitions)) && (!s.fault.safe || decide (rung ≥ 4))

/-- FAULT_CMD (R270, R271): 1 ESCALATE. -/
def faultCmd (rq : Acc) (v : Word) (s : State) : State :=
  secure rq s <|
    let rung := fld v 59 56; let t := fld v 15 0
    if fld v 63 60 == 1 && escalateOk s rung t then post s (.rung ⟨rung, cmdTarget s rung t⟩)
    else raiseK s fcCmdIllegal rq 0x010040

/-- ESC: the rung of imm[3:0] for the target s[ra][15:0] (R351, R271). -/
def seqEsc (n : Nat) : State → State := seqDo 0x17 n fun c w s =>
  let rung := iImm w % 16; let t := fld (sreg c (iRa w)) 15 0
  let s := if escalateOk s rung t then post s (.rung ⟨rung, cmdTarget s rung t⟩) else raiseI s fcCmdIllegal (7 + n)
  retire s n w (c.pc + 1) 0

/-- A write of FAULT_PENDING: W1C of WARN and ERROR bits; clearing an ERROR bit stops its timer (R263, R266). -/
def pendingWrite (rq : Acc) (v : Word) (s : State) : State :=
  secure rq s <|
    let hit := BitVec.ofNat 64 (fld v 47 16 * 2 ^ 16) &&& s.fault.pending
    let s := modFault s fun u => { u with pending := u.pending ^^^ hit }
    forEach (upto 16) s fun s c => if bitOf hit (32 + c) then reactStop s c else s

/-- FAULT_FIRST_ACK (R260). -/
def firstAck (rq : Acc) (v : Word) (s : State) : State :=
  secure rq s <|
    if s.fault.first.valid && fld v 15 0 == fld s.fault.first.info 47 32 then
      modFault s fun u => { u with first := { u.first with valid := false, info := setFld u.first.info 63 63 0 } }
    else s

/-! ### Outputs (R267) -/

/-- ERR_N is low. [DESIGN CHOICE, log entry 10] -/
def errLow (s : State) : Bool := s.fault.safe || s.fault.pending != 0
/-- The collector's part of IRQ_S and IRQ_NS. [DESIGN CHOICE, log entry 10] -/
def faultIrq (s : State) (ns : Bool) : Bool :=
  s.fault.pending &&& (if ns then s.fault.irqNsEn else s.fault.irqSEn) != 0

/-- SAFE_N is low (R267, R269). -/
def safeLow (s : State) : Bool := s.fault.safe
/-- IRQ_S, or with `ns` IRQ_NS, is high: an enabled pending bit, or a mailbox doorbell (R267, R368). -/
def irqHigh (s : State) (ns : Bool) : Bool := faultIrq s ns || mailIrq s ns

/-- FAULT_STATUS (R273). [DEDUCED, log entry 145] -/
def faultStatus (s : State) : Word :=
  let u := s.fault
  pack [(63, 1, b2n u.safe), (62, 1, b2n u.collectorFault), (61, 1, b2n (errLow s)), (60, 1, b2n u.reactDefault),
    (56, 4, u.safeCause), (32, 16, u.histLost), (0, 16, u.seq)]

/-- The target field of FAULT_REACT for an action. -/
def targetLow (r : Nat) (t : Target) : Nat :=
  (match r with | 1 => t.ctx.getD 0 | 2 => t.tile.getD 0 | 3 => t.part.getD 0 | _ => 0) % 2 ^ 16

/-- FAULT_REACT[c] (R273). -/
def reactView (s : State) (c : Nat) : Word :=
  let r := react s c
  pack [(63, 1, b2n r.running), (62, 1, b2n r.expired), (58, 4, r.action), (40, 16, targetLow r.action r.target),
    (0, 34, reactLeft s r)]

/-- The FAULT block (R273), by window offset. -/
def viewFault (s : State) (off : Nat) : Option Word :=
  let u := s.fault
  if off == 0x010000 then some (faultStatus s)
  else if off == 0x010008 then some u.pending
  else if off == 0x010010 then some u.first.info
  else if off == 0x010018 then some u.first.addr
  else if off == 0x010020 then some u.first.time
  else if off == 0x010028 || off == 0x010040 || off == 0x010048 then some 0
  else if off == 0x010030 then some u.irqSEn
  else if off == 0x010038 then some u.irqNsEn
  else if 0x010100 ≤ off && off < 0x010300 && off % 8 == 0 then
    let e := sget {} u.hist ((off - 0x010100) / 0x20)
    match (off - 0x010100) % 0x20 with
    | 0x00 => some e.info
    | 0x08 => some e.addr
    | 0x10 => some e.time
    | _ => none
  else if 0x010400 ≤ off && off < 0x010480 && off % 8 == 0 then some (reactView s ((off - 0x010400) / 8))
  else if 0x010480 ≤ off && off < 0x010500 && off % 8 == 0 then
    some (BitVec.ofNat 64 (sget 0 u.counts ((off - 0x010480) / 8)))
  else none

end Sys2Proof.Machine
end

