-- ==== Sys2Proof/Machine/Supply.lean ====
section
/-! DEFINITION. The supplies: rails, clusters, droop and the eMRAM interlock (R408–R421). The voltages themselves lie
outside the block; the supervisor's judgements are its commands. -/
namespace Sys2Proof.Machine

/-- Rewrite the supplies. -/
def modSup (s : State) (f : Supply → Supply) : State := { s with supply := f s.supply }

/-- Rail r: 0 VDDC, 1 VDDS, 2 VDDIO, 3 VDDA, 4 VDDNV (R416). -/
def rail (s : State) (r : Nat) : Rail := sget {} s.supply.rails r

/-- Rewrite rail r. -/
def updRail (s : State) (r : Nat) (f : Rail → Rail) : State :=
  modSup s fun p => { p with rails := supd {} p.rails r f }

/-- A capture of access type SENSOR (R259). -/
def raiseS (s : State) (code sensor reading : Nat) (p : Option Nat := none) : State :=
  raise s { code := code, access := 9, master := sensor, addr := reading, part := p }

/-- An ENV record of a supply or thermal event (R300): 1 a cluster leaves its range, 2 returns, 3 a rail leaves, 4 returns, 5 a
sensor breaks, 6 recovers, 7 THERMAL_CRIT is set, 8 cleared. [DESIGN CHOICE, log entry 152] -/
def envRecord (kind unit value : Nat) (s : State) : State := record s 9 5 [pack [(56, 8, kind), (0, 16, unit)], BitVec.ofNat 64 value]

/-- RAIL_RANGE. -/
def fcRail : Nat := fcode 9 2 6

/-- Every rail and every cluster is in range. -/
def allInRange (s : State) : Bool := s.supply.clustersOut.isEmpty && (upto 5).all fun r => !(rail s r).out

/-- A write step is cut by the interlock: its slot may be left torn (R415). -/
def cutWrite (s : State) : State :=
  match writable s with
  | none => s
  | some r =>
    modGran s fun g => { g with
      last := sset [] g.last (r.seq % 16384) (tornSlot (lastAt r.seq)),
      first := if inFirst s r.seq then sset [] g.first (r.seq - g.firstBase) (tornSlot (firstAt s r.seq)) else g.first }

/-- EMRAM_INTERLOCK: a rail leaves its range (R415). -/
def interlock (s : State) : State :=
  let s := cutWrite s
  modSup s fun p => { p with inhibit := true }

/-- Write steps are allowed again when every rail is judged in range (R415). -/
def interlockEnds (s : State) : State :=
  if allInRange s then (if s.supply.inhibit then post (modSup s fun p => { p with inhibit := false }) .writesAllowed else s) else s

/-- Numbers with one put in, rising. -/
def insertNat (l : List Nat) (k : Nat) : List Nat :=
  if l.contains k then l else l.takeWhile (fun x => decide (x < k)) ++ [k] ++ l.dropWhile (fun x => decide (x < k))

/-- The positions of cluster k. -/
def clusterPositions (s : State) (k : Nat) : List Nat := s.build.positions.filter fun n => s.build.cluster n == k

/-- CLUSTER_VDDC_OUT (R414, R416, R417). -/
def clusterLeaves (k : Nat) (s : State) : State :=
  if s.supply.clustersOut.contains k then s
  else
    let s := interlock s
    let s := modSup s fun p =>
      { p with clustersOut := insertNat p.clustersOut k, excursions := satAdd 16 p.excursions 1 }
    let s := envRecord 1 k (sget {} s.supply.droops k).last (updRail s 0 fun r => { r with seen := true })
    let s := raiseS s fcRail k (sget {} s.supply.droops k).last (partOf s (s.build.clusterFirst k))
    let s := post s (.loseCheckers (clusterPositions s k))
    if isDecode s then post s .badOpen
    else post s (.require 4 false none 14)

/-- CLUSTER_VDDC_IN (R414, R417). A cluster that was never judged out is judged in range, and the interlock looks again (R415). -/
def clusterReturns (k : Nat) (s : State) : State :=
  if !(s.supply.clustersOut.contains k) then interlockEnds s
  else
    let s := modSup s fun p => { p with clustersOut := p.clustersOut.filter (· != k) }
    forEach (clusterPositions s k) (envRecord 2 k (sget {} s.supply.droops k).last (interlockEnds s)) fun s n => post s (.regainChecker n)

/-- DARK: the gates close and nothing completes any more (R250). -/
def goDark (s : State) : State :=
  let s := modEng s fun e => { e with commitClosed := true }
  let s := modGate s fun g => { g with closed := true }
  setPower (modSup s fun p => { p with inhibit := true }) .dark

/-- Power is lost: every key goes (R435). -/
def keysLost (s : State) : State :=
  modSec s fun u =>
    { u with
      seed := none, grn := none, att := none, kem := none, pip := none, jnl := none, mst := none, job := none, step := none,
      jobKey := [0, 0, 0, 0] }

/-- RAIL_OUT (R414, R416). VDDC is supervised by cluster: rail 0 is every cluster. -/
def railLeaves (r : Nat) (s : State) : State :=
  if r == 0 then forEach (upto s.build.clusters) s fun s k => clusterLeaves k s
  else if (rail s r).out then s
  else
    let s := updRail (interlock s) r fun x => { x with out := true, seen := true }
    if r == 1 || r == 3 then keysLost (goDark s) else raiseS (envRecord 3 r (rail s r).now s) fcRail (0x100 + r) (rail s r).now

/-- RAIL_IN (R414, R415). -/
def railReturns (r : Nat) (s : State) : State :=
  if r == 0 then forEach (upto s.build.clusters) s fun s k => clusterReturns k s
  else
    let was := (rail s r).out
    let s := interlockEnds (updRail s r fun x => { x with out := false })
    if was then envRecord 4 r (rail s r).now s else s

/-- The droop threshold in force (R418, R421). -/
def droopLimit (s : State) : Nat := if s.supply.droopMv = 0 then 680 else s.supply.droopMv

/-- A DROOP_MV value as it is stored (R421). -/
def droopStore (v : Word) : Nat := let m := fld v 15 0; if m = 0 then 0 else min 850 (max 600 m)

/-- A rail's window reading (R421). -/
def railReading (s : State) (r mv : Nat) : State :=
  updRail s r fun x =>
    { x with now := mv, read := true, max := if x.read then max x.max mv else mv, min := if x.read then min x.min mv else mv }

/-- DROOP_WINDOW: the minima of the clusters and the readings of the other rails in a 10 µs window (R418, R421). -/
def droopWindow (mins : List (Nat × Nat)) (rails : List Nat) (s : State) : State :=
  let mins := mins.filter fun m => decide (m.1 < s.build.clusters)
  let s := forEach mins s fun s (k, mv) =>
    let below := decide (mv < droopLimit s)
    let s := modSup s fun p =>
      { p with droops := supd {} p.droops k fun d =>
          { below := if below then satAdd 16 d.below 1 else d.below, last := mv, read := true,
            min := if d.read then min d.min mv else mv } }
    if below then raiseS s (fcode 9 1 5) k mv (partOf s (s.build.clusterFirst k)) else s
  let s := match mins with
    | [] => s
    | m :: r =>
      let low := r.foldl (fun a b => if b.2 < a.2 then b else a) m
      railReading (modSup s fun p => { p with minCluster := low.1, minMv := low.2 }) 0 low.2
  forEach ((upto 4).zip (rails.take 4)) s fun s (i, mv) => railReading s (i + 1) mv

/-- SUPPLY_STATUS (R421). -/
def supplyStatus (s : State) : Word :=
  let p := s.supply
  let out := packN ((upto 5).map fun r => (r, 1, b2n ((rail s r).out || (r == 0 && !p.clustersOut.isEmpty))))
  let seen := packN ((upto 5).map fun r => (r, 1, b2n (rail s r).seen))
  pack [(41, 1, b2n p.inhibit), (32, 9, p.clustersOut.length), (16, 16, p.excursions), (8, 5, seen), (0, 5, out)]

/-- A write of SUPPLY_STATUS: W1C of RAIL_SEEN (R421); a rail that is out keeps its bit. [DEDUCED, log entry 108] -/
def supplyClear (v : Word) (s : State) : State :=
  forEach (upto 5) s fun s r =>
    if bitOf v (8 + r) then updRail s r fun x => { x with seen := x.out || (r == 0 && !s.supply.clustersOut.isEmpty) } else s

/-- The supply registers (R421), by window offset. -/
def viewSupply (s : State) (off : Nat) : Option Word :=
  let p := s.supply
  if off == 0x040800 then some (supplyStatus s)
  else if off == 0x040808 then some (pack [(0, 16, p.droopMv)])
  else if off == 0x040810 then some (pack [(32, 8, p.minCluster), (0, 16, p.minMv)])
  else if 0x040820 ≤ off && off < 0x040848 && off % 8 == 0 then
    let r := rail s ((off - 0x040820) / 8)
    some (pack [(32, 16, r.min), (16, 16, r.max), (0, 16, r.now)])
  else if 0x040C00 ≤ off && off < 0x041400 && off % 8 == 0 then
    let d : Droop := sget {} p.droops ((off - 0x040C00) / 8)
    some (pack [(48, 16, d.below), (16, 16, d.min), (0, 16, d.last)])
  else none

end Sys2Proof.Machine
end

