-- ==== Sys2Proof/Machine/Thermal.lean ====
section
/-! DEFINITION. The thermal supervision: sensors, maxima, the throttle law and the critical latch (R422–R432). -/
namespace Sys2Proof.Machine

/-- Rewrite the thermal supervision. -/
def modTh (s : State) (f : Thermal → Thermal) : State := { s with thermal := f s.thermal }

/-- Sensor x. -/
def sensor (s : State) (x : Nat) : Sensor := sget {} s.thermal.sensors x

/-- Rewrite sensor x. -/
def updSensor (s : State) (x : Nat) (f : Sensor → Sensor) : State :=
  modTh s fun t => { t with sensors := supd {} t.sensors x f }

/-- The clusters that share an edge with cluster k, rising (R430). -/
def clusterEdges (b : Build) (k : Nat) : List Nat :=
  let c := b.cols / 4
  (if k ≥ c then [k - c] else []) ++ (if k % c ≥ 1 then [k - 1] else []) ++
    (if k % c + 1 < c then [k + 1] else []) ++ (if k + c < b.clusters then [k + c] else [])

/-- The entry of a sensor in force: of the copy, or of the reset content (R429, R430). -/
def sensEntry (s : State) (x : Nat) : Word :=
  match s.thermal.words with
  | some ws => sensIn ws x
  | none =>
    if x < s.build.clusters then
      let e := clusterEdges s.build x
      pack [(63, 1, 1), (0, 9, e.getD 0 0x1FF), (9, 9, e.getD 1 0x1FF), (18, 9, e.getD 2 0x1FF), (27, 9, e.getD 3 0x1FF)]
    else 0

/-- Whether a sensor is configured. -/
def sensOn (s : State) (x : Nat) : Bool := bitOf (sensEntry s x) 63
/-- Whether it is masked. -/
def sensMasked (s : State) (x : Nat) : Bool := bitOf (sensEntry s x) 62
/-- Its partition. -/
def sensPart (s : State) (x : Nat) : Nat := fld (sensEntry s x) 59 56

/-- The partition of a sensor when one is known: with the reset content none is (R259, R430). [DEDUCED, log entry 130] -/
def sensPartKnown (s : State) (x : Nat) : Option Nat := if s.thermal.words.isSome then some (sensPart s x) else none

/-- TSTART, TCRIT and KP in force (R429, R430). -/
def thermLaw (s : State) : Nat × Nat × Nat :=
  match s.thermal.words with
  | some ws => (fld (nthW ws 0) 11 0, fld (nthW ws 0) 27 16, fld (nthW ws 0) 39 32)
  | none => (1272, 1472, 16)

/-- The value of an unmasked sensor: 1,712 while broken; raw code plus OFFSET; 0 before its first reading (R423, R424). [DEDUCED, log entry 129] -/
def ownValue (s : State) (x : Nat) : Nat :=
  let r := sensor s x
  if r.broken then 1712
  else if r.read then ((r.raw : Int) + toSigned 8 (fld (sensEntry s x) 55 48)).toNat else 0

/-- The replacements of a masked sensor are all broken (R425). [DEDUCED, log entry 129] -/
def replBroken (s : State) (x : Nat) : Bool := (sensNames (sensEntry s x)).all fun y => (sensor s y).broken

/-- The value the law uses (R424, R425): of a masked sensor the highest among its replacements that are not broken. [DEDUCED, log entry 129] -/
def sensValue (s : State) (x : Nat) : Nat :=
  if sensMasked s x then
    if replBroken s x then 1712
    else (((sensNames (sensEntry s x)).filter fun y => !(sensor s y).broken).map (ownValue s)).foldl max 0
  else ownValue s x

/-- A value put into a rising list. -/
def insertRising (x : Nat) : List Nat → List Nat
  | [] => [x]
  | y :: r => if x ≤ y then x :: y :: r else y :: insertRising x r

/-- Twice the median of a list of values, none for fewer than two (R424). -/
def median2 (l : List Nat) : Option Nat :=
  let l := l.foldr insertRising []
  let n := l.length
  if n < 2 then none else some (nthN l (n / 2) + nthN l ((n - 1) / 2))

/-- Condition 4 of R424. [DEDUCED, log entry 129] -/
def disagrees (s : State) (x : Nat) : Bool :=
  let names := (sensNames (sensEntry s x)).filter fun y =>
    sensOn s y && !(sensMasked s y) && !(sensor s y).broken && (sensor s y).read
  match median2 (names.map (ownValue s)) with
  | none => false
  | some m => decide ((2 * (ownValue s x : Int) - m).natAbs > 240)

/-- Whether a sensor is judged: configured, unmasked, not broken. -/
def judged (s : State) (x : Nat) : Bool := sensOn s x && !(sensMasked s x) && !(sensor s x).broken

/-- A judged sensor becomes broken (R424). -/
def breakSensor (s : State) (x cause reading : Nat) : State :=
  if !(judged s x) then s
  else
    let s := updSensor s x fun r => { r with broken := true, cause := cause, breaks := satAdd 16 r.breaks 1 }
    post (raiseS (envRecord 5 x reading s) (fcode 9 1 3) (0x200 + x) reading (sensPartKnown s x)) .thermal

/-- Condition 4 is applied to one sensor. -/
def judgeNear (s : State) (x : Nat) : State :=
  if judged s x && (sensor s x).read && disagrees s x then breakSensor s x 4 (sensor s x).raw else s

/-- The partitions the law has: with the reset content, and of the THERMAL region, all of the build. -/
def lawParts (s : State) : List Nat := upto s.build.partitions

/-- The highest value over sensors, and the lowest-numbered sensor that has it. [DEDUCED, log entry 129] -/
def hottest (s : State) (l : List Nat) : Nat × Nat :=
  l.foldl (fun b x => if sensValue s x > b.1 then (sensValue s x, x) else b) (0, l.headD 0)

/-- L, R and H of a maximum (R427). -/
def lawOf (s : State) (t : Nat) : Nat × Nat × Nat :=
  let (start, _, kp) := thermLaw s
  let l := min 255 (kp * (t - start) / 8)
  (l, min 255 (4 * l), if l ≤ 64 then 0 else min 255 (ceilDiv ((l - 64) * 4) 3))

/-- The law is evaluated (R426–R428). [DEDUCED, log entry 130] -/
def evalThermal (s : State) : State :=
  let s := forEach (upto 512) s judgeNear
  let on := (upto 512).filter (sensOn s)
  let isDef := s.thermal.words.isNone
  let (gmax, ghot) := hottest s on
  let valid := on.filter fun x => if sensMasked s x then !(replBroken s x) else !(sensor s x).broken
  let (vmax, vhot) := hottest s valid
  let old := s.thermal.parts
  let parts := (lawParts s).foldl (fun m p =>
    let (t, hot) := if isDef then (gmax, ghot) else hottest s (on.filter fun x => sensPart s x == p)
    let (l, r, h) := lawOf s t
    sset {} m p ⟨l, r, h, t, hot⟩) ([] : SMap PartTherm)
  let hotPart := ((lawParts s).find? fun p => (sget {} parts p).max == gmax).getD 0
  let s := modTh s fun t =>
    { t with
      parts := parts, evaluated := true, globalMax := gmax, validMax := vmax, hotPart := hotPart,
      broken := (t.sensors.filter fun x => x.2.broken).length }
  let s := if (lawParts s).any fun p => (sget {} old p).red != (sget {} parts p).red then latch s 1 2 else s
  let (_, crit, _) := thermLaw s
  let s :=
    if !s.thermal.crit && decide (vmax ≥ crit) && !(valid.isEmpty) then
      raiseS (envRecord 7 vhot vmax (modTh s fun t => { t with crit := true })) (fcode 9 3 4) (0x200 + vhot) (sensor s vhot).raw
        (sensPartKnown s vhot)
    else if s.thermal.crit && decide (vmax + 40 < crit) then envRecord 8 vhot vmax (modTh s fun t => { t with crit := false })
    else s
  if s.mode.power == .run || s.mode.power == .throttle then powerByLaw s else s

/-- A raw code is legal (R397). -/
def codeInRange (c : Nat) : Bool := decide (192 ≤ c) && decide (c ≤ 1712)

/-- A reading of a configured sensor (R423, R424). -/
def takeReading (x code : Nat) (s : State) : State :=
  if !(codeInRange code) then breakSensor s x 1 code
  else post (judgeNear (updSensor s x fun r => { r with raw := code, read := true }) x) .thermal

/-- The payload of a reading: identifier, code (R397, R407). [DESIGN CHOICE, log entry 154] -/
def tsensPayload (i code : Nat) : Nat := i + code * 2 ^ 8

/-- TSENS_READING (R397). -/
def tsens (i code : Nat) (s : State) : State :=
  let x := 256 + i
  if !(sensOn s x) then raisePort s fcPortRange 13 i (tsensPayload i code)
  else if !(codeInRange code) then takeReading x code (raisePort s fcPortRange 13 i (tsensPayload i code))
  else takeReading x code s

/-- ON_DIE_SENSOR_READ: read over its column's riser; a cluster out of range keeps its last value (R422, R424). -/
def onDie (k code : Nat) (s : State) : State :=
  if s.supply.clustersOut.contains k || !(riserUp s (s.build.clusterFirst k)) then s
  else if sensOn s k then takeReading k code s else s

/-- SENSOR_TIMEOUT and SENSOR_STUCK (R424). -/
def sensorFails (x cause : Nat) (s : State) : State :=
  if cause == 2 && !(sensor s x).read then s else breakSensor s x cause (sensor s x).raw

/-- SENSOR_RECOVER: 1 s of readings that pass every check (R424). -/
def sensorHeals (x : Nat) (s : State) : State :=
  if (sensor s x).broken && !(sensMasked s x) then
    post (envRecord 6 x (sensor s x).raw (updSensor s x fun r => { r with broken := false })) .thermal
  else s

/-- A THERMAL activation: a sensor that becomes masked leaves the broken state (R430). -/
def thermalTakes (s : State) : State :=
  let s := forEach (upto 512) s fun s x =>
    if sensMasked s x && (sensor s x).broken then updSensor s x fun r => { r with broken := false } else s
  post s .thermal

/-- The throttle level of a partition now (R250, R269, R427); 0 while a reset is asserted (R379). -/
def throttleOut (s : State) (p : Nat) : Nat :=
  if s.shell.porstLow || s.shell.blkRstLow then 0
  else if s.fault.safe || s.mode.power == .quiesce then 255 else (sget {} s.thermal.parts p).throt

/-- THERM_STATUS (R431): the fields of the last evaluation (R432). -/
def thermStatus (s : State) : Word :=
  let t := s.thermal
  pack [(63, 1, b2n t.crit), (62, 1, b2n t.words.isNone), (58, 4, t.hotPart),
    (48, 10, t.broken), (40, 8, (t.parts.map (·.2.level)).foldl max 0),
    (16, 12, t.globalMax), (0, 12, t.validMax)]

/-- THERM_SENSOR[x] (R431). -/
def sensorView (s : State) (x : Nat) : Word :=
  let r := sensor s x; let e := sensEntry s x
  pack [(63, 1, b2n (sensOn s x)), (62, 1, b2n (sensMasked s x)), (61, 1, b2n r.broken), (58, 3, r.cause),
    (48, 8, fld e 55 48), (32, 16, r.breaks), (28, 4, fld e 59 56), (12, 12, r.raw), (0, 12, sensValue s x)]

/-- The thermal registers (R431), by window offset. -/
def viewThermal (s : State) (off : Nat) : Option Word :=
  if off == 0x040000 then some (thermStatus s)
  else if 0x040100 ≤ off && off < 0x040180 && off % 8 == 0 then
    let p := (off - 0x040100) / 8
    let t : PartTherm := sget {} s.thermal.parts p
    some (if p < s.build.partitions && s.thermal.evaluated then
        pack [(56, 8, t.level), (48, 8, t.red), (40, 8, t.throt), (32, 8, throttleOut s p), (16, 12, t.max), (0, 9, t.hot)]
      else 0)
  else if 0x042000 ≤ off && off < 0x043000 && off % 8 == 0 then
    some (if s.thermal.evaluated then sensorView s ((off - 0x042000) / 8) else 0)
  else none

end Sys2Proof.Machine
end

