-- ==== Sys2Proof/Machine/Security.lean ====
section
/-! DEFINITION. The security unit: keys, the security state and its word, commands, permits, zeroisation (R433–R449).
Whether a signature or a tag verifies comes with the command. -/
namespace Sys2Proof.Machine

/-- derive(label, data) (R434). Labels: 1 GRN, 2 ATT, 3 KEM, 4 KEM-Z, 5 PIP, 6 JNL, 7 MST, 8 STEP. -/
def derive (seed label : Nat) (data : List Nat) : Nat := Config.kmac 256 seed custKdf (label :: data)

/-- The FIPS 203 seed d ‖ z of the device KEM key: d from label KEM, z from label KEM-Z (R434). -/
def kemSeed (seed : Nat) : Nat := derive seed 3 [] + 2 ^ 256 * derive seed 4 []

/-- The chip number (R453) and the instance number of this instance. -/
def chipNo (s : State) : Nat := s.cas.chip
/-- The instance number: the cascade position. -/
def instNo (s : State) : Nat := s.cas.position

/-- SEC_DEVICE_ID (R448). -/
def deviceId (s : State) : Word :=
  match s.sec.att with
  | none => 0
  | some k => BitVec.ofNat 64 (Config.sha3_384 (Config.attPublic k))

/-- The state word of a state (R438). -/
def stateWord (st : SecState) (pend : Bool) (count : Nat) : Word :=
  pack [(0, 2, secCode st), (8, 1, b2n pend), (16, 16, count)]

/-- Rewrite the state word with its tag (R438). -/
def putState (s : State) (st : SecState) (pend : Bool) (count : Nat) : State :=
  let w := stateWord st pend count
  modGran s fun g => { g with secWord := w, secTag := grnTag s custSec [w] }

/-- The state a code of the word means. -/
def secOf (n : Nat) : SecState := match n with | 0 => .provision | 1 => .open_ | 2 => .sealed_ | _ => .locked

/-- Whether a security state enables an instrument (R444). -/
def instrEnabled (st : SecState) : Instrument → Bool
  | .captureSram | .statStore => st == .open_
  | .tileRings | .emramTest => st == .provision || st == .open_
  | .counters | .supervisor | .riserTraining | .delayTrim | .checkerTest | .blockReset | .zeroise => true

/-- The instruments that a security state disables leave the scan path (R433, R444). [DEDUCED, log entry 128] -/
def scanPath (st : SecState) (h : Shell) : Shell := { h with included := h.included.filter (instrEnabled st) }

/-- The security state is what the word says (R438); MODE_GEN counts a change. -/
def takeState (s : State) (st : SecState) (pend : Bool) (count : Nat) : State :=
  let s := if secState s = st then s else bumpGen s
  let s := { s with shell := scanPath st s.shell }
  modSec s fun u => { u with state := some st, lockPending := pend, provisions := count }

/-- The state word is read once the granary key is held (R438), outside the safe state (R252). A pending lock is rewritten as soon as
eMRAM takes writes (R412). [DEDUCED, log entry 132] -/
def readState (s : State) : State :=
  if s.sec.grn.isNone || s.fault.safe then s
  else
    let w := s.gran.secWord; let t := s.gran.secTag
    if w == 0 && t == 0 then takeState s .provision false 0
    else if t != grnTag s custSec [w] then takeState s .locked false 0
    else if bitOf w 8 then
      if s.supply.inhibit then takeState (modSec s fun u => { u with rewrite := true }) .locked true (fld w 31 16)
      else takeState (putState s .locked false (fld w 31 16)) .locked false (fld w 31 16)
    else takeState s (secOf (fld w 1 0)) false (fld w 31 16)

/-- eMRAM takes writes again: a pending lock that was read is rewritten (R438). [DEDUCED, log entry 132] -/
def lockRewrite (s : State) : State :=
  if s.sec.rewrite && s.sec.grn.isSome then
    modSec (putState s .locked false s.sec.provisions) fun u => { u with rewrite := false, lockPending := false }
  else s

/-- KEY_SEED_RANGE. -/
def fcSeed : Nat := fcode 12 3 2

/-- KEY_SEED (R398, R434, R435): `seed` is the four words of the value. -/
def keySeedEff (seed : List Nat) (s : State) : State :=
  if !s.shell.keySeedReady then s
  else
    let s := { s with shell := { s.shell with keySeedReady := false } }
    let v := leNat (wordsBytes ((upto 4).map fun i => BitVec.ofNat 64 (nthN seed i)))
    if v = 0 || v = 2 ^ 256 - 1 then raisePort s fcSeed 14 0 v
    else
      let salt := Config.draw s.sec.bootSalt
      readState (modSec s fun u =>
        { u with
          seed := some v, grn := some (derive v 1 []), att := some (derive v 2 []), kem := some (kemSeed v),
          pip := some (derive v 5 [salt]) })

/-- No transfer within 10 ms (R398). -/
def keySeedLate (s : State) : State :=
  if s.shell.keySeedReady then raisePort { s with shell := { s.shell with keySeedReady := false } } fcSeed 14 0 0 else s

/-- The number that stands for every job: a job key written in OPEN names none. -/
def anyJob : Nat := 2 ^ 32

/-- The step key of a job (R435). -/
def stepKey (key job : Nat) : Nat := Config.kmac 256 key custKdf [8, job]

/-- The keys an accepted arm or join makes (R435); what a former storage key sealed can no longer be read (R441). A job key of an
earlier arm is zeroised; one that names no job is this job's from now on. [DEDUCED, log entry 134] -/
def armKeys (s : State) (job : Nat) : State :=
  let (n, s) := drawNext s
  let data := [job, chipNo s, instNo s, Config.draw n]
  modSec (modMir s fun m => { m with notices := [] }) fun u =>
    { u with
      armNonce := n, jnl := u.seed.map fun k => derive k 6 data, mst := u.seed.map fun k => derive k 7 data,
      job := if u.jobUsed then none else u.job, jobUsed := true, jobId := if u.jobId = anyJob then job else u.jobId,
      step := if u.jobUsed || u.spent then none else if u.jobId = anyJob then u.job.map fun k => stepKey k job else u.step }

/-- DISARM zeroises the journal, mirror storage, job and step keys (R435). [DEDUCED, log entry 134] -/
def disarmKeys (s : State) : State :=
  modSec (modMir s fun m => { m with notices := [] }) fun u => { u with jnl := none, mst := none, job := none, step := none }

/-- A job key is held for a job, and no earlier arm has used it (R435). [DEDUCED, log entry 134] -/
def jobKeyFor (s : State) (job : Nat) : Bool :=
  s.sec.job.isSome && !s.sec.jobUsed && (s.sec.jobId == job || s.sec.jobId == anyJob)

/-- A security command takes its result (R448): 1 DONE, 2 REFUSED, 3 FAILED. -/
def secResult (s : State) (cmd r : Nat) : State := modSec s fun u => { u with cmd := cmd, cmdResult := r, cmdBusy := false }

/-- A security command is refused (R447). -/
def secRefuse (rq : Acc) (s : State) (cmd : Nat) : State := raiseK (secResult s cmd 2) fcDenied rq 0x0A0008

/-- The frame of a security command (R447): secure writes only, in the safe state only ZEROISE, in the states that allow
it. -/
def secCmd (rq : Acc) (cmd : Nat) (ok : State → Bool) (f : State → State) (s : State) : State :=
  secure rq s <|
    if s.fault.safe && cmd != 6 then frozen (secResult s cmd 2) rq 0x0A0008 7 cmd
    else if ok s then f s else secRefuse rq s cmd

/-- The words of the held SECURITY copy: TARGET, TAMPER_LOCK, REPROVISION_ID, ATT_ROOT (R443). -/
def secTarget (s : State) : Nat := fld (nthW s.loader.security 0) 1 0
/-- The held SECURITY copy is all zeros, as after reset (R443). -/
def secBlank (s : State) : Bool := s.loader.security.all (· == 0)
/-- TAMPER_LOCK. -/
def tamperLock (s : State) : Bool := bitOf (nthW s.loader.security 0) 8
/-- REPROVISION_ID. -/
def reprovisionId (s : State) : Word := nthW s.loader.security 1
/-- ATT_ROOT. -/
def attRoot (s : State) : Nat := digestAt s.loader.security 16

/-- A change of the security state: the word is rewritten first; one that cannot be written fails (R439). LOCK_PENDING stays. -/
def secMove (s : State) (cmd : Nat) (written : Bool) (st : SecState) (count : Nat) (f : State → State) : State :=
  if !written || s.supply.inhibit then secResult s cmd 3
  else
    secResult (f (takeState (putState s st s.sec.lockPending count) st s.sec.lockPending count)) cmd 1

/-- A certificate's two keys are the device's own (R442). -/
def ownKeys (s : State) (cert : List Byte) : Bool :=
  s.sec.att.map Config.attPublic == some ((cert.drop 16).take 2592) && s.sec.kem.map Config.kemPublic == some ((cert.drop 2608).take 1568)

/-- LOAD_CERT (R442): the bytes that the issuer has signed, and the signature with the bytes after it. With SECURITY content of zeros
none verifies (R443). [DEDUCED, log entry 133] -/
def loadCert (rq : Acc) (cert : List Byte) (sigOk : Bool) (sig : List Byte) : State → State :=
  secCmd rq 1 (fun s => secState s != .locked && s.sec.att.isSome && s.sec.kem.isSome) fun s =>
    let ok := cert.length == 6768 && sig.length == 4632 && leNat (cert.take 8) == 1 && ownKeys s cert &&
      leNat ((cert.drop 8).take 8) == Config.sha3_384 ((cert.drop 16).take 2592) % 2 ^ 64 && !(secBlank s) &&
      Config.sha3_384 ((cert.drop 4176).take 2592) == attRoot s && sigOk
    if ok then secResult (modSec s fun u => { u with certOk := true, cert := cert ++ sig }) 1 1 else secResult s 1 3

/-- COMMIT_STATE (R439). -/
def commitState (rq : Acc) (written : Bool) : State → State :=
  secCmd rq 2 (fun s => secState s == .provision && s.sec.state.isSome && s.sec.certOk && (secTarget s == 1 || secTarget s == 2))
    fun s => secMove s 2 written (secOf (secTarget s)) s.sec.provisions fun s => modGran s fun g =>
      { g with deviceId := deviceId s }

/-- SEAL (R439). -/
def sealCmd (rq : Acc) (written : Bool) : State → State :=
  secCmd rq 3 (fun s => secState s == .open_ && !(isArmed s)) fun s =>
    secMove s 3 written .sealed_ s.sec.provisions fun s => modSec s fun u => { u with permits := [] }

/-- LOCK (R439). -/
def lockCmd (rq : Acc) (written : Bool) : State → State :=
  secCmd rq 4 (fun s => secState s != .locked) fun s =>
    secMove s 4 written .locked s.sec.provisions fun s => post s (.zeroise 2)

/-- REPROVISION (R439). -/
def reprovision (rq : Acc) (written : Bool) : State → State :=
  secCmd rq 5 (fun s => secState s == .locked && s.sec.state.isSome && reprovisionId s != 0 && reprovisionId s == deviceId s)
    fun s => secMove s 5 written .provision (min (s.sec.provisions + 1) 65535) id

/-- ZEROISE (R447). [DEDUCED, log entry 135] -/
def zeroiseCmd (rq : Acc) : State → State :=
  secCmd rq 6 (fun _ => true) fun s => secResult (post (raiseI s (fcode 12 0 3) 4) (.zeroise 1)) 6 1

/-- A job key is held with its step key (R435): none until its job is known, and none after a TAMPER_N or ZEROISE (R440). [DEDUCED, log entry 134] -/
def holdJobKey (s : State) (job key : Nat) : State :=
  modSec s fun u =>
    { u with job := some key, jobId := job, jobUsed := false, step := if u.spent || job = anyJob then none else some (stepKey key job) }

/-- The job key that a blob wraps (R437): bytes 0 to 1,575, and the encrypted key. -/
def unwrapKey (s : State) (blob key : List Byte) : Nat :=
  let shared := Config.kem (s.sec.kem.getD 0) (leNat ((blob.drop 8).take 1568))
  leNat (Config.openBytes (Config.kmac 256 shared custJobKey [leNat (blob.take 8)]) 0 (key.take 32))

/-- UNWRAP (R437): a blob up to its encrypted key, and that key with its tag; or in OPEN with a zero address the words of
SEC_JOB_KEY. `tagOk` says whether the tag holds. [DEDUCED, log entry 133] -/
def unwrapCmd (rq : Acc) (blob : List Byte) (tagOk : Bool) (key : List Byte) : State → State :=
  secCmd rq 7 (fun s => secState s == .open_ || secState s == .sealed_) fun s =>
    if secState s == .open_ && s.sec.arg == 0 then
      secResult (holdJobKey s anyJob (leNat (wordsBytes s.sec.jobKey))) 7 1
    else if tagOk && s.sec.kem.isSome then
      secResult (holdJobKey s (leNat (blob.take 4)) (unwrapKey s blob key)) 7 1
    else
      raiseK (secResult (modSec s fun u => { u with job := none, step := none }) 7 3) fcDenied rq 0x0A0008

/-- The permits held, by serial. -/
def permitHeld (s : State) (serial : Word) : Bool := s.sec.permits.any fun p => p.2.serial == serial

/-- LOAD_PERMIT (R446). [DEDUCED, log entry 133] -/
def loadPermit (rq : Acc) (ws : List Word) (sigOk : Bool) : State → State :=
  secCmd rq 8 (fun s => secState s == .sealed_) fun s =>
    let h := nthW ws 0
    let free := (upto 16).find? fun i => (sget {} s.sec.permits i).uses == 0
    let ok := sigOk && !(secBlank s) && fld h 7 0 == 1 && fld h 15 8 == instNo s && fld h 31 16 == chipNo s &&
      fld h 47 32 != 0 && !(permitHeld s (nthW ws 5))
    match free with
    | some i =>
      if ok then
        let p : Permit := ⟨nthW ws 1, nthW ws 2, nthW ws 3, nthW ws 4, nthW ws 5, fld h 47 32⟩
        secResult (modSec s fun u => { u with permits := sset {} u.permits i p }) 8 1
      else secResult s 8 3
    | none => secResult s 8 3

/-- CLEAR_PERMITS (R446). -/
def clearPermits (rq : Acc) : State → State :=
  secCmd rq 9 (fun s => secState s == .sealed_) fun s => secResult (modSec s fun u => { u with permits := [] }) 9 1

/-- A code of SEC_CMD that R447 does not list. -/
def secBadCmd (rq : Acc) (cmd : Nat) : State → State := secCmd rq cmd (fun _ => false) id

/-- The permit that covers a dump: its table entry (R446). -/
def permitFor (s : State) (name job : Word) (step : Nat) : Option Nat :=
  (upto 16).find? fun i =>
    let p : Permit := sget {} s.sec.permits i
    p.uses != 0 && p.name == name && p.job == job && decide (p.first.toNat ≤ step) && decide (step ≤ p.last.toNat)

/-- One use of a permit is taken; an entry without uses is freed (R446). -/
def usePermit (s : State) (i : Nat) : State :=
  modSec s fun u => { u with permits := supd {} u.permits i fun p => if p.uses ≤ 1 then {} else { p with uses := p.uses - 1 } }

/-- Journal and mirror encryption stops: what waits to be written fails (R140, R191, R441). [DEDUCED, log entry 88] -/
def cryptStops (s : State) : State :=
  let jnl (d : DmaDesc) : Bool := d.work == .journal
  let ch := chan s 1
  let some_ := (ch.busy && jnl ch.cur) || ch.queue.any jnl || ch.waiting.any jnl
  let s := failWork 1 jnl s
  let s := if some_ then post (raiseI s (fcode 3 2 1) 1) (.require 4 false none 8) else s
  failWork 4 (fun d => d.work == .mirrorIn || d.work == .notice) s

/-- Zeroisation (R435, R436, R440, R441): 0 TAMPER_N, 1 ZEROISE, 2 LOCK. The tags of records already queued are formed
first; but for LOCK nothing is derived again until PORST_N. A security command under way fails. [DEDUCED, log entry 88] [DEDUCED, log entry 135] -/
def zeroise (by_ : Nat) (s : State) : State :=
  let s := if by_ == 2 then s else { fixTags s with shell := { s.shell with keySeedReady := false } }
  let s := modSec s fun u =>
    { u with
      seed := if by_ == 2 then u.seed else none, grn := if by_ == 2 then u.seed.map fun k => derive k 1 [] else none,
      att := none, kem := none, pip := none, jnl := none, mst := none, job := none, step := none, permits := [],
      jobKey := [0, 0, 0, 0], spent := u.spent || by_ != 2,
      cmdBusy := false, cmdResult := if u.cmdBusy then 3 else u.cmdResult }
  let s := modMir s fun m => { m with notices := [] }
  let s := if by_ != 2 then modMir s fun m => { m with secret := none, txKey := none, rxKey := none } else s
  failWork 6 (fun d => d.work == .husk) (cryptStops s)

/-- TAMPER_N low after its filter (R439, R440). -/
def tamper (s : State) : State :=
  let s := modSec s fun u => { u with tamperSeen := true }
  let s :=
    if tamperLock s && s.sec.state.isSome && secState s != .locked && !s.supply.inhibit then
      modSec (putState s (secState s) true s.sec.provisions) fun u => { u with lockPending := true }
    else s
  post (raiseI s (fcode 12 3 0) 4) (.zeroise 0)

/-- SEC_STATUS (R448). -/
def secStatus (s : State) : Word :=
  let u := s.sec
  pack [(62, 2, secCode (secState s)), (61, 1, b2n u.lockPending), (60, 1, b2n u.tamperSeen), (59, 1, b2n u.seed.isSome),
    (58, 1, b2n u.certOk), (57, 1, b2n u.job.isSome), (56, 1, b2n u.jnl.isSome), (32, 16, u.provisions),
    (16, 5, u.permits.length)]

/-- The SECURITY block (R448), by window offset. -/
def viewSec (s : State) (off : Nat) : Option Word :=
  let u := s.sec
  if off == 0x0A0000 then some (secStatus s)
  else if off == 0x0A0008 then some 0
  else if off == 0x0A0010 then some (pack [(63, 1, b2n u.cmdBusy), (60, 3, u.cmdResult), (56, 4, u.cmd)])
  else if off == 0x0A0018 then some u.arg
  else if off == 0x0A0020 then some (deviceId s)
  else if 0x0A0040 ≤ off && off < 0x0A0060 && off % 8 == 0 then some 0
  else if 0x0A0100 ≤ off && off < 0x0A0180 && off % 8 == 0 then
    let p : Permit := sget {} u.permits ((off - 0x0A0100) / 8)
    some (pack [(63, 1, b2n (p.uses != 0)), (32, 16, p.uses), (0, 32, p.name.toNat)])
  else none

end Sys2Proof.Machine
end

