-- ==== Sys2Proof/Machine/Cascade.lean ====
section
/-! DEFINITION. The cascade ring: roles, enumeration, heartbeat, arming, verdicts and decisions of a package, summaries
and losses (R450–R461). -/
namespace Sys2Proof.Machine

/-- This instance is the master of a cascade. -/
def isMaster (s : State) : Bool := s.cas.role == .master
/-- This instance is a member. -/
def isMember (s : State) : Bool := s.cas.role == .member

/-- The widths of the payload fields of a message type, in the order R452 names them: a HEARTBEAT also carries the chip number
(R453), and ARM_OK and ARM_REFUSED are told apart by a bit. [DESIGN CHOICE, log entry 182] -/
def casWidths (type : Nat) : List Nat := match type with
  | 1 => [8] | 2 => [32, 16] | 3 => [2, 1, 2, 32] | 4 => [1, 32] | 5 => [3, 3, 1, 31, 32, 16] | 6 => [64] | 7 => [32, 1, 12, 12]
  | _ => []

/-- Fields one above the other, the first in the lowest bits. -/
def casPack : List Nat → List Nat → Nat
  | w :: ws, v :: vs => v % 2 ^ w + casPack ws vs * 2 ^ w
  | _, _ => 0

/-- The 128 bits of a message (R452): TYPE, SRC, DST and payload. -/
def casWord (type src dst : Nat) (payload : List Nat) : BitVec 128 :=
  BitVec.ofNat 128 (type % 256 * 2 ^ 120 + src % 256 * 2 ^ 112 + dst % 256 * 2 ^ 104 + casPack (casWidths type) payload % 2 ^ 104)

/-- Forward a message that another instance sent (R452). -/
def casForward (s : State) (type src dst : Nat) (payload : List Nat) : State :=
  modCas s fun c => { c with out := c.out ++ [casWord type src dst payload] }

/-- Send a message on the ring (R452). -/
def casSend (s : State) (type dst : Nat) (payload : List Nat) : State := casForward s type s.cas.position dst payload

/-- A message has come: SQ3 sees it (R452). -/
def casGot (s : State) : State := latch s 3 5

/-- A message that this instance does not consume goes on along the ring (R452); the master is where a broadcast it sent ends. -/
def casPass (s : State) (type src dst : Nat) (payload : List Nat) : State :=
  if isMaster s then casGot s else casForward (casGot s) type src dst payload

/-- CAS_LINK_DOWN (R451, R452). -/
def linkDown (s : State) : State := raiseI s (fcode 14 2 0) 12

/-- The role is taken (R450), but in the safe state, which freezes it (R252). An arm that waited for it goes on. -/
def takeRole (s : State) (r : Role) : State :=
  if s.fault.safe then s
  else
    let s := if s.cas.role = r then s else bumpGen s
    post (modCas s fun c => { c with role := r, roleKnown := true }) .armGo

/-- The master starts an enumeration (R451). -/
def enumStart (s : State) : State :=
  casSend (modCas s fun c => { c with enumOut := true, ringOk := false, members := [], instances := 0, armChecks := [] }) 1 0xFF [0]

/-- The spine reset is released with the strap (R450). -/
def casRelease (strap : Bool) (s : State) : State :=
  let s := modCas s fun c => { c with strap := strap }
  if strap then enumStart (takeRole s .master) else s

/-- ENUM arrives (R451). -/
def enumGot (count : Nat) (s : State) : State :=
  let s := casGot s
  if isMaster s then
    if s.cas.enumOut && decide (1 ≤ count) && decide (count ≤ 7) then
      modCas s fun c =>
        { c with enumOut := false, ringOk := true, instances := count + 1,
                 members := (upto (count + 1)).foldl (fun m i => sset {} m i { valid := true }) [] }
    else linkDown (modCas s fun c => { c with enumOut := false })
  else
    let s := if s.cas.roleKnown then s else takeRole s .member
    if isMember s then casForward (modCas s fun c => { c with position := count + 1 }) 1 0 0xFF [count + 1]
    else casForward s 1 0 0xFF [count]

/-- The master's ENUM does not return within 10 ms (R451). -/
def enumLate (s : State) : State :=
  if isMaster s && s.cas.enumOut then linkDown (modCas s fun c => { c with enumOut := false }) else s

/-- No ENUM within 10 ms of the release (R450). -/
def roleLate (s : State) : State := if s.cas.roleKnown then s else takeRole s .standalone

/-- CAS_CMD RETRAIN (R451). [DEDUCED, log entry 137] -/
def retrain (rq : Acc) (s : State) : State :=
  secure rq s <|
    if isMaster s && !(isArmed s) then enumStart (modCas s fun c => { c with failVerdicts := false })
    else raiseK s fcCmdIllegal rq 0x0C0010

/-- HEARTBEAT arrives at a member (R452, R453). -/
def heartbeatGot (gen chip : Nat) (s : State) : State :=
  casPass (if isMember s then modCas s fun c => { c with chip := chip % 2 ^ 16 } else s) 2 0 0xFF [gen, chip]

/-- The master sends HEARTBEAT every 10 µs (R452); in the safe state it sends none (R459). -/
def heartbeatSend (s : State) : State :=
  if isMaster s && !s.fault.safe then casSend s 2 0xFF [s.mode.gen % 2 ^ 32, s.cas.chip] else s

/-- A member has no HEARTBEAT for 50 µs (R459). -/
def heartbeatMissed (s : State) : State :=
  if isMember s && !s.cas.masterLost then raiseI (modCas s fun c => { c with masterLost := true }) (fcode 14 3 1) 12 else s

/-- The master loses its ring (R459). -/
def memberLost (s : State) : State :=
  let s := modCas s fun c =>
    { c with ringOk := false, failVerdicts := true,
             members := c.members.map fun (i, m) => (i, if i = 0 then m else { m with lost := true }) }
  raiseI s (fcode 14 2 2) 12

/-- HEARTBEAT is not returned within 50 µs (R459). -/
def heartbeatLate (s : State) : State := if isMaster s then memberLost s else s

/-- A handshake on CAS_OUT does not complete within 2 µs (R452, R459). -/
def casTimeout (s : State) : State :=
  if !s.cas.roleKnown || s.cas.role == .standalone then s
  else if isMaster s then memberLost (linkDown s) else linkDown s

/-- The arm parameters of R249 and R454. -/
def armParamsOf (s : State) : ArmParams := ⟨jobMode s, b2n (isUndo s), mirMode s, s.step.eng.job⟩

/-- The cascade refuses an arm for a job (R454). -/
def casArmRefuse (job : Nat) (s : State) : State :=
  let s := modCas s fun c => { c with armWait := none, armChecks := [] }
  modeRefused (raiseI (casSend s 4 0xFF [1, job]) (fcode 6 2 1) 1) 6 1 6 0 0

/-- The master judges the arm when it holds every ARM_CHECK and its own (R454); while there is no ring it is
refused (R451). -/
def casArmTry (s : State) : State :=
  let c := s.cas
  if !(isMaster s) || c.armWait.isNone then s
  else if !c.ringOk then casArmRefuse c.armParams.job s
  else
    let need := (upto c.instances).drop 1
    if need.all fun i => c.armChecks.any fun a => a.1 == i then
      if need.all fun i => c.armChecks.any fun a => a.1 == i && a.2 == c.armParams then
        post (casSend (modCas s fun c => { c with armChecks := [], armOk := true }) 4 0xFF [0, c.armParams.job]) .armGo
      else casArmRefuse c.armParams.job s
    else s

/-- ARM_CHECK arrives at the master (R454); while there is no ring that arm is refused (R451). A member passes it on. -/
def armCheckGot (src : Nat) (p : ArmParams) (s : State) : State :=
  if !(isMaster s) then casPass s 3 src 0 [p.jobMode, p.style, p.mirror, p.job]
  else if !s.cas.ringOk then casArmRefuse p.job (casGot s)
  else casArmTry (casGot (modCas s fun c => { c with armChecks := (c.armChecks.filter fun a => a.1 != src) ++ [(src, p)] }))

/-- ARM_OK arrives at a member (R454). -/
def armOkGot (job : Nat) (s : State) : State :=
  let s := casPass s 4 0 0xFF [0, job]
  if isMember s && s.cas.armWait.isSome && s.cas.armParams.job == job then post (modCas s fun c => { c with armOk := true }) .armGo else s

/-- ARM_REFUSED arrives at a member (R454). -/
def armRefusedGot (job : Nat) (s : State) : State :=
  casPass (if isMember s then modCas s fun c => { c with armWait := none } else s) 4 0 0xFF [1, job]

/-- The ARM_CHECKs are not all held within 1 ms (R454). -/
def armCheckLate (s : State) : State :=
  if isMaster s && s.cas.armWait.isSome then casArmRefuse s.cas.armParams.job s else s

/-- Rewrite member i. -/
def updMember (s : State) (i : Nat) (f : CasMember → CasMember) : State :=
  modCas s fun c => { c with members := supd {} c.members i f }

/-- VERDICT arrives at the master (R455); a member passes it on. -/
def casVerdictGot (src verdict point : Nat) (nf : Bool) (z step rep : Nat) (s : State) : State :=
  if isMaster s then
    if 1 ≤ src ∧ src < s.cas.instances then
      post (casGot (updMember s src fun m =>
        { m with verdict := verdict, point := point, nfRepro := nf, z := z, vstep := step, vreplay := rep, voted := true })) .tally
    else s
  else casPass s 5 src 0 [verdict, point, b2n nf, z, step, rep]

/-- Whether member i's verdict of the current run is held. -/
def memberVoted (s : State) (i : Nat) : Bool :=
  let m : CasMember := sget {} s.cas.members i
  m.voted && m.vstep == s.step.eng.number % 2 ^ 32 && m.vreplay == s.step.eng.replayNo

/-- VOTE_TIMEOUT after the first verdict with a member's still missing: the package votes without it (R455). -/
def casVerdictLate (s : State) : State :=
  let ms := (upto s.cas.instances).drop 1
  if isMaster s && !(ms.all (memberVoted s)) && s.step.vote.tree.own.isNone &&
      (s.step.vote.verdict.isSome || ms.any (memberVoted s)) then
    let s := modCas s fun c => { c with late := some (s.step.eng.number % 2 ^ 32, s.step.eng.replayNo) }
    post (raiseI s (fcode 14 2 2) 12) .tally
  else s

/-- Members' verdicts that count for the package: code, point, NF_REPRO, Z (R455, R459), one from a member in the safe state
FAILED. -/
def memberVerdicts (s : State) : List (Nat × Nat × Bool × Nat) :=
  ((upto s.cas.instances).drop 1).filterMap fun i =>
    let m : CasMember := sget {} s.cas.members i
    if m.safe then some (2, 4, false, 0)
    else if memberVoted s i then some (m.verdict, m.point, m.nfRepro, m.z)
    else none

/-- The decision that the contents of STEP_DECISION name, for the run of this instance (R456). -/
def wordDecision (s : State) (w : Word) : Decision :=
  { job := s.step.eng.job, step := s.step.eng.number, replayNo := s.step.eng.replayNo, kind := fld w 62 60, point := fld w 59 57,
    audit := bitOf w 56, fromBackup := bitOf w 55, backup := bitOf w 54 }

/-- DECISION arrives at a member (R456): a duplicate carries the step and SEQ of the one before it; one that names another
step than its own is not applied (R158). -/
def casDecisionGot (w : Word) (s : State) : State :=
  let s := casPass s 6 0 0xFF [w.toNat]
  if !(isMember s) || s.cas.lastDec == some (fld w 31 0, fld w 47 32) then s
  else
    let s := modCas s fun c => { c with lastDec := some (fld w 31 0, fld w 47 32) }
    if fld w 31 0 == s.step.eng.number % 2 ^ 32 then post s (.decision (wordDecision s w)) else s

/-- The bits [63:32] of FAULT_PENDING. -/
def pendingHigh (s : State) : Nat := fld s.fault.pending 63 32

/-- What a SUMMARY carries (R452). -/
def summaryOf (s : State) : List Nat := [pendingHigh s, b2n s.fault.safe, s.thermal.validMax, s.thermal.globalMax]

/-- A member sends its SUMMARY (R452). -/
def summarySend (s : State) : State := if isMember s then casSend s 7 0 (summaryOf s) else s

/-- SUMMARY arrives at the master (R458); a member passes it on. -/
def summaryGot (src pending : Nat) (safe : Bool) (vmax gmax : Nat) (s : State) : State :=
  if isMaster s then
    if src < s.cas.instances then
      casGot (updMember s src fun m =>
        { m with safe := safe, error := pending % 2 ^ 16, fatal := pending / 2 ^ 16 % 2 ^ 16, max := gmax, validMax := vmax })
    else s
  else casPass s 7 src 0 [pending, b2n safe, vmax, gmax]

/-- STOP arrives at a member (R291, R452). -/
def casStopGot (s : State) : State :=
  let s := casPass s 8 0 0xFF []
  if isMember s then post s .stop else s

/-- CAS_PKG_THERM (R461). -/
def pkgTherm (s : State) : Word :=
  if !(isMaster s) then 0
  else
    let hot := (s.cas.members.filter fun p => p.1 != 0).foldl (fun (b : Nat × Nat) p => if p.2.max > b.2 then (p.1, p.2.max) else b)
      (0, s.thermal.globalMax)
    let vm := (s.cas.members.map (·.2.validMax)).foldl max s.thermal.validMax
    pack [(32, 3, hot.1), (16, 12, hot.2), (0, 12, vm)]

/-- CAS_MEMBER[i] (R461). [DEDUCED, log entry 138] -/
def memberView (s : State) (i : Nat) : Word :=
  let m : CasMember := sget {} s.cas.members i
  if !(isMaster s) || !m.valid then 0
  else pack [(63, 1, 1), (62, 1, b2n m.safe), (61, 1, b2n m.lost), (58, 3, m.verdict), (55, 3, m.point), (32, 16, m.error),
    (16, 16, m.fatal), (0, 12, m.max)]

/-- The CASCADE block (R461), by window offset. [DEDUCED, log entry 138] -/
def viewCas (s : State) (off : Nat) : Option Word :=
  let c := s.cas
  if off == 0x0C0000 then
    some (pack [(62, 2, roleCode c.role), (61, 1, b2n c.ringOk), (60, 1, b2n c.masterLost),
      (56, 4, if c.roleKnown && c.role == .standalone then 1 else c.instances), (48, 3, c.position), (32, 16, c.linkDowns)])
  else if off == 0x0C0008 then some (pack [(0, 16, c.chip)])
  else if off == 0x0C0010 then some 0
  else if off == 0x0C0018 then some (pkgTherm s)
  else if 0x0C0100 ≤ off && off < 0x0C0140 && off % 8 == 0 then some (memberView s ((off - 0x0C0100) / 8))
  else none

end Sys2Proof.Machine
end

