-- ==== Sys2Proof/Machine/Memtest.lean ====
section
/-! DEFINITION. The memory-test engine on channel 5 (R467–R471). It keeps one request outstanding, and takes ⇕ in
ascending order. -/
namespace Sys2Proof.Machine

/-- Rewrite the memory test. -/
def modMt (s : State) (f : Memtest → Memtest) : State := { s with mem := f s.mem }

/-- An operation of a March element: a write or a read, of the background or of its complement. -/
structure MarchOp where
  write : Bool
  one : Bool
deriving DecidableEq, Repr

/-- r0, r1, w0, w1 of R468. -/
def mR0 : MarchOp := ⟨false, false⟩
/-- r1. -/
def mR1 : MarchOp := ⟨false, true⟩
/-- w0. -/
def mW0 : MarchOp := ⟨true, false⟩
/-- w1. -/
def mW1 : MarchOp := ⟨true, true⟩

/-- The elements of a suite, each with whether it descends; elements 6 and 7 are the retention write and read (R468). -/
def suiteElems (suite : Nat) : List (Bool × List MarchOp) :=
  (if suite = 0 then
    [(false, [mW0]), (false, [mR0, mW1, mR1]), (false, [mR1, mW0, mR0]), (true, [mR0, mW1, mR1]), (true, [mR1, mW0, mR0]),
     (false, [mR0])]
   else
    [(false, [mW0]), (false, [mR0, mR0, mW0, mR0, mW1]), (false, [mR1, mR1, mW1, mR1, mW0]),
     (true, [mR0, mR0, mW0, mR0, mW1]), (true, [mR1, mR1, mW1, mR1, mW0]), (false, [mR0])]) ++
  [(false, [mW1]), (false, [mR1])]

/-- The backgrounds of a suite (R468). -/
def backgrounds (suite : Nat) : List Nat :=
  if suite = 0 then [0x00, 0x55, 0x33, 0x0F]
  else [0x00, 0x55, 0x33, 0x0F, 0x01, 0x02, 0x04, 0x08, 0x10, 0x20, 0x40, 0x80, 0x96, 0x3C, 0x5A, 0xC3]

/-- Whether a retention pass follows a background (R468). -/
def retentionAfter (suite b : Nat) : Bool := if suite = 0 then b == 0 || b == 2 else b % 4 == 0

/-- Passes of a suite (R468). -/
def suitePasses (suite : Nat) : Nat := if suite = 0 then 60 else 360

/-- The element number of a suite that has ended. -/
def elemDone : Nat := 8

/-- The current element. -/
def curElem (m : Memtest) : Bool × List MarchOp := (suiteElems m.suite).getD m.elem (false, [])

/-- The current operation. -/
def curOp (m : Memtest) : MarchOp := (curElem m).2.getD m.opn mR0

/-- OPERATION (R470). -/
def opNumber (m : Memtest) : Nat :=
  if m.elem == 6 then 30 else if m.elem == 7 then 31
  else (((suiteElems m.suite).take (min m.elem 5)).map fun e => e.2.length).sum + m.opn

/-- The granules of the range as it stood at START. -/
def granules (m : Memtest) : Nat := (m.last - m.first) / 64

/-- The address of the current granule. -/
def curAddr (m : Memtest) : Nat := m.first + 64 * (if (curElem m).1 then granules m - 1 - m.addr else m.addr)

/-- The sixty-four bytes an operation writes or expects. -/
def marchData (m : Memtest) : List Byte :=
  let b := nthN (backgrounds m.suite) m.background
  List.replicate 64 (BitVec.ofNat 8 (if (curOp m).one then 255 - b else b))

/-- The test is running and has an operation to issue. -/
def mtRunning (s : State) : Bool := s.mem.busy && s.mem.elem != elemDone

/-- The test moves to its next background, or ends. -/
def mtNextBackground (m : Memtest) : Memtest :=
  if m.background + 1 < (backgrounds m.suite).length then { m with background := m.background + 1, elem := 0, opn := 0, addr := 0 }
  else { m with elem := elemDone, opn := 0, addr := 0 }

/-- An operation has completed on its granule (R468). -/
def mtAdvance (m : Memtest) : Memtest :=
  let ops := (curElem m).2.length
  if m.opn + 1 < ops then { m with opn := m.opn + 1 }
  else if m.addr + 1 < granules m then { m with opn := 0, addr := m.addr + 1 }
  else
    let m := { m with passes := m.passes + ops, opn := 0, addr := 0 }
    if m.elem < 5 then { m with elem := m.elem + 1 }
    else if m.elem == 5 && retentionAfter m.suite m.background then { m with elem := 6 }
    else if m.elem == 6 then { m with elem := 7, pause := true }
    else mtNextBackground m

/-- A finding: kind 0 DATA, 1 ERROR, 2 TIMEOUT (R468, R469). -/
def mtFinding (m : Memtest) (kind : Nat) : Memtest :=
  let w := pack [(63, 1, 1), (61, 2, kind), (57, 4, m.background), (52, 5, opNumber m)]
  let w := BitVec.ofNat 64 (w.toNat + curAddr m % 2 ^ 52)
  { m with findings := satAdd 32 m.findings 1, find := if m.find.length < 16 then m.find ++ [w] else m.find }

/-- The descriptor of an operation: one granule, by PHYS (R314, R467). -/
def mtDesc (m : Memtest) : DmaDesc :=
  let phys := pack [(60, 4, 1), (0, 52, curAddr m)]
  let block := pack [(60, 4, 2)]
  { src := if (curOp m).write then block else phys, dst := if (curOp m).write then phys else block,
    ctl := pack [(48, 8, 11), (0, 40, 64)], state := 1, work := .memtest }

/-- The operations of the current element that are left. -/
def mtLeft (m : Memtest) : Nat := granules m * ((curElem m).2.length + 1) + 1

/-- The engine issues its next request (R467, R468, R492). A granule outside the windows raises DMA_BUS and is a finding; while no
address lies in a window the engine then waits for TOPOLOGY (R317, R339). -/
def mtRun : Nat → State → State
  | 0, s => s
  | f + 1, s =>
    let m := s.mem
    if !(mtRunning s) || m.pause || m.issued || (chan s 5).busy || !(dmaMayIssue s) then s
    else
      let a := curAddr m; let op := curOp m
      match windowOf s a with
      | none =>
        let s := raiseMem (updChan s 5 fun ch => { ch with cur := { mtDesc m with state := 4, cause := 5 } }) fcBus 5 a op.write
        let s := modMt s fun m => mtAdvance (mtFinding m 1)
        if topoUsable s then mtRun f s else s
      | some w =>
        let s := updChan (modMt s fun m => { m with issued := true }) 5 fun ch => { ch with cur := mtDesc m, busy := true }
        memIssue s 5 a (portOf w a) op.write (if op.write then .write else .read) (if op.write then marchData m else [])

/-- The engine goes on. [DEDUCED, log entry 143] -/
def mtIssue (s : State) : State := mtRun (mtLeft s.mem) s

/-- The current operation ends, with the kind of finding it has if any; its descriptor ends with it. [DEDUCED, log entries 119, 143] [DEDUCED, log entry 119] -/
def mtOpDone (kind : Option Nat) (s : State) : State :=
  let s := match kind with
    | some 1 | some 2 => s
    | _ => granuleDone s 5
  let st := if kind == some 1 || kind == some 2 then 4 else 3
  let s := updChan s 5 fun ch =>
    { ch with req := none, busy := false, cur := { ch.cur with state := st, cause := if st == 4 then 6 else 0 } }
  mtIssue <| modMt s fun m =>
    let m := { m with issued := false }
    match kind with
    | some k => mtAdvance (mtFinding m k)
    | none => mtAdvance m

/-- A response to the engine (R468). -/
def mtResponse (status : Nat) (data : List Byte) (s : State) : State :=
  let m := s.mem
  let kind := if status != 0 then some 1
    else if !(curOp m).write && (data ++ List.replicate 64 0).take 64 != marchData m then some 0 else none
  mtOpDone kind s

/-- Whether channel c's request belongs to the memory test. -/
def mtOwns (s : State) (c : Nat) : Bool := c == 5 && s.mem.issued

/-- The windows hold every GiB of a range, each in one (R467). -/
def rangeRouted (s : State) (base limit : Nat) : Bool :=
  (upto ((limit - base) / 2 ^ 30)).all fun i =>
    match windowOf s (base + i * 2 ^ 30) with
    | none => false
    | some w => decide (base + (i + 1) * 2 ^ 30 ≤ w.limit)

/-- MEMTEST_CMD START (R467, R470). [DEDUCED, log entry 143] -/
def mtStart (rq : Acc) (suite : Nat) (s : State) : State :=
  secure rq s <|
    let m := s.mem
    let b := m.base.toNat; let l := m.limit.toNat
    if isArmed s || m.busy || suite > 1 || decide (b ≥ l) || b % 2 ^ 30 != 0 || l % 2 ^ 30 != 0 || !(rangeRouted s b l) then
      raiseK (if m.busy then s else modMt s fun m => { m with result := 4 }) fcCmdIllegal rq 0x090100
    else
      mtIssue (modMt s fun m =>
        { base := m.base, limit := m.limit, first := b, last := l, busy := true, suite := suite })

/-- The test ends as ABORTED (R467, R468). -/
def mtAborts (s : State) : State :=
  if s.mem.busy then
    let s := if s.mem.issued then dmaStops s 5 4 else s
    dmaGo 5 (modMt s fun m => { m with busy := false, issued := false, result := 3, pause := false })
  else s

/-- MEMTEST_CMD ABORT (R468). -/
def mtAbort (rq : Acc) (s : State) : State := secure rq s (mtAborts s)

/-- A code of MEMTEST_CMD that R469 does not define. -/
def mtBadCmd (rq : Acc) (s : State) : State := secure rq s (raiseK s fcCmdIllegal rq 0x090100)

/-- A retention pause ends (R468). -/
def mtPauseEnd (s : State) : State :=
  if s.mem.busy && s.mem.pause then mtIssue (modMt s fun m => { m with pause := false }) else s

/-- The suite has ended: PASS without a finding, else FAIL (R468). -/
def mtDone (s : State) : State :=
  if s.mem.busy && s.mem.elem == elemDone then
    dmaGo 5 (modMt s fun m => { m with busy := false, result := if m.findings = 0 then 1 else 2 })
  else s

/-- The memory-test registers (R469), by window offset. -/
def viewMemtest (s : State) (off : Nat) : Option Word :=
  let m := s.mem
  if off == 0x090100 then some 0
  else if off == 0x090108 then some m.base
  else if off == 0x090110 then some m.limit
  else if off == 0x090118 then
    some (pack [(63, 1, b2n m.busy), (60, 3, m.result), (56, 4, m.suite), (52, 4, m.background), (47, 5, opNumber m),
      (46, 1, b2n m.pause), (32, 8, m.passes * 100 / suitePasses m.suite), (0, 32, m.findings)])
  else if 0x090140 ≤ off && off < 0x0901C0 && off % 8 == 0 then some (nthW m.find ((off - 0x090140) / 8))
  else none

end Sys2Proof.Machine
end

