-- ==== Sys2Proof/Machine/Observe.lean ====
section
/-! DEFINITION. Observability: counter commands, ring readout, named tensor dumps and their husks (R445, R446,
R472–R485). -/
namespace Sys2Proof.Machine

/-- An action of OBS_CNT_CMD on counters (R474): 1 CLEAR_START, 2 FREEZE, 3 RUN. -/
def cntAct (cmd tag : Nat) (o : Obs) : Obs :=
  match cmd with
  | 1 => { o with counts := [], running := true, tag := tag }
  | 2 => { o with running := false, tag := tag }
  | _ => { o with running := true, tag := tag }

/-- The tiles of a scope (R474). -/
def cntTiles (s : State) (scope target : Nat) : List Nat :=
  match scope with
  | 1 => [target]
  | 2 => partPositions s target
  | 3 => s.build.positions
  | _ => []

/-- Whether a scope and its target exist. -/
def cntScopeOk (s : State) (scope target : Nat) : Bool :=
  scope == 0 || (scope == 1 && decide (target < s.build.tiles)) || (scope == 2 && decide (target < s.build.partitions)) ||
    scope == 3

/-- OBS_CNT_CMD (R474, R484). -/
def cntCmd (rq : Acc) (cmd scope tag target : Nat) (s : State) : State :=
  secure rq s <|
    if s.obs.cntBusy || cmd == 0 || cmd > 3 || !(cntScopeOk s scope target) then raiseK s fcCmdIllegal rq 0x0B0000
    else
      let ts := cntTiles s scope target
      let s := if scope == 0 then modOb s fun o =>
          { o with counts := if cmd == 1 then [] else o.counts, running := cmd != 2, tag := tag }
        else forEach (ts.filter (riserUp s)) s fun s n => modObs s n (cntAct cmd tag)
      modOb s fun o =>
        { o with cntBusy := true, cntTag := tag, missed := (ts.filter fun n => !(riserUp s n)).length }

/-- Every tile of the scope has applied the command (R474). -/
def cntDone (s : State) : State := modOb s fun o => { o with cntBusy := false }

/-- The words of a ring entry. -/
def ringWords (e : RingEntry) : List Word := [e.w0, e.w1, e.w2, e.w3]

/-- A write of OBS_RING_SEL (R478). -/
def ringSel (rq : Acc) (v : Word) (s : State) : State :=
  secure rq s <|
    let n := fld v 27 16; let i := fld v 5 0
    let s := modOb s fun o => { o with ringSel := pack [(16, 12, n), (0, 6, i)], ringTile := n, ringIndex := i }
    if decide (n < s.build.tiles) && riserUp s n then
      let r := (tile s n).obs.ring
      modOb s fun o =>
        { o with
          ringFailed := false, ringGen := wrapAdd 16 o.ringGen 1,
          ringData := (upto 8).flatMap fun k => ringWords ((r[i + k]?).getD {}) }
    else modOb s fun o => { o with ringFailed := true }

/-! ### Tensor dumps (R480–R482) -/

/-- A dump outcome (R484): 0 DONE, 1 REFUSED, 2 FAILED, 3 CANCELLED. [DEDUCED, log entry 136] -/
def dumpOutcome (s : State) (entry outcome : Nat) : State :=
  modOb s fun o => { o with result := heldPost o.result (pack [(60, 3, outcome), (56, 4, entry)]) 0 (stamp s) }

/-- An entry of a dump list (R480). -/
def dumpEntry (ws : List Word) : TensorDump :=
  let w2 := nthW ws 2
  let len := fld w2 39 0; let at_ := fld w2 47 44
  let ok := decide (1 ≤ at_) && decide (at_ ≤ 6) && len != 0 && len % 64 == 0
  { name := nthW ws 0, src := BitVec.ofNat 64 (fld (nthW ws 1) 56 6 * 64), len := len, at_ := at_,
    step := (nthW ws 3).toNat, waiting := ok, refused := !ok }

/-- The entries of a list, up to an all-zero one. -/
def dumpEntries (ws : List Word) : List TensorDump :=
  let es := (upto 16).map fun i => (ws.drop (4 * i)).take 4
  (es.takeWhile fun e => e.any (· != 0)).map dumpEntry

/-- Every entry that has not fired is discarded as CANCELLED (R482). -/
def dumpDiscard (s : State) : State :=
  let es := (upto s.obs.entries.length).zip s.obs.entries
  let s := forEach es s fun s (i, e) => if e.waiting then dumpOutcome s i 3 else s
  modOb s fun o => { o with entries := o.entries.map fun e => { e with waiting := false } }

/-- OBS_DUMP_CMD ARM (R480). -/
def dumpArmCmd (rq : Acc) (list : List Word) (s : State) : State :=
  secure rq s <|
    if secState s == .provision || secState s == .locked || s.obs.run.isSome then raiseK s fcCmdIllegal rq 0x0B0038
    else
      let es := dumpEntries list
      let s := modOb (dumpDiscard s) fun o => { o with entries := es, nextDst := 0, fired := [] }
      forEach ((upto es.length).zip es) s fun s (i, e) => if e.refused then dumpOutcome s i 1 else s

/-- OBS_DUMP_CMD CANCEL (R482). -/
def dumpCancelCmd (rq : Acc) (s : State) : State := secure rq s (dumpDiscard s)

/-- A code of OBS_DUMP_CMD that R484 does not define. -/
def dumpBadCmd (rq : Acc) (s : State) : State := secure rq s (raiseK s fcCmdIllegal rq 0x0B0038)

/-- The largest part of a husk (R445). -/
def huskMax : Nat := 2 ^ 35

/-- The area a part of `len` bytes takes (R481). -/
def huskSpace (len : Nat) : Nat := ceilDiv (1648 + len) 4096 * 4096

/-- The area a tensor takes. -/
def dumpSpace (len : Nat) : Nat := (len / huskMax) * huskSpace huskMax + (if len % huskMax = 0 then 0 else huskSpace (len % huskMax))

/-- The entry a dump runs. [DEDUCED, log entry 136] -/
def runEntry (s : State) (r : DumpRun) : TensorDump := (s.obs.entries[r.entry]?).getD {}

/-- The length of the current part. -/
def partLen (s : State) (r : DumpRun) : Nat := min huskMax ((runEntry s r).len - r.offset)

/-- The descriptor of a husk on channel 6: OWNER is the security unit. -/
def huskCtl (len : Nat) : Word := pack [(48, 8, 4), (0, 40, len)]

/-- Read the source of the current part (R481). -/
def huskRead (s : State) (r : DumpRun) : State :=
  let src := BitVec.ofNat 64 ((runEntry s r).src.toNat + r.offset)
  dmaPost 6 src (pack [(60, 4, 2)]) (huskCtl (partLen s r)) .husk [] (modOb s fun o => { o with run := some r })

/-- The customisation number of "KR4-HUSK". -/
def custHusk : Nat := 6

/-- The bytes of a husk part, filled to 4 KiB (R445, R481). -/
def huskBytes (s : State) (r : DumpRun) (draw : Nat) : List Byte :=
  let e := runEntry s r
  let hdr := [pack [(0, 8, 1), (8, 8, instNo s), (16, 16, chipNo s), (32, 16, r.part)], BitVec.ofNat 64 s.step.eng.job,
    BitVec.ofNat 64 e.step, e.name, r.serial, BitVec.ofNat 64 r.offset, BitVec.ofNat 64 r.bytes.length, 0]
  let ek := leNat ((wordsBytes s.loader.security).drop 2656)
  let shared := Config.kem ek (Config.draw draw)
  let key := Config.kmac 256 shared custHusk (hdr.map (·.toNat))
  let fill (n : Nat) (l : List Byte) : List Byte := (l ++ List.replicate n 0).take n
  let ct := Config.kemCipher ek draw
  let sealed_ := Config.sealBytes key 0 (wordsBytes hdr) r.bytes
  fill (huskSpace r.bytes.length) (wordsBytes hdr ++ ct ++ fill (r.bytes.length + 16) sealed_)

/-- The current part has been read: it is sealed and written (R445). -/
def huskWrite (s : State) (r : DumpRun) : State :=
  let (n, s) := drawNext s
  let dst := BitVec.ofNat 64 (s.obs.dumpDst.toNat + r.dst)
  let bytes := huskBytes s r n
  let s := modOb s fun o => { o with run := some { r with writing := true } }
  dmaPost 6 (pack [(60, 4, 2)]) dst (huskCtl bytes.length) .husk bytes s

/-- The next fired entry runs, unless one does (R481). -/
def dumpNext (s : State) : State :=
  if s.obs.run.isSome then s
  else match s.obs.fired with
    | [] => s
    | (i, serial) :: rest =>
      let s := modOb s fun o => { o with fired := rest }
      let e := (s.obs.entries[i]?).getD {}
      if secState s == .provision || secState s == .locked || s.obs.nextDst + dumpSpace e.len > s.obs.dumpSize.toNat * 2 ^ 20 then dumpOutcome s i 1
      else huskRead s { entry := i, dst := s.obs.nextDst, serial := serial }

/-- Start the fired entries, as many as are refused at once. -/
def dumpGo (s : State) : State := forEach (upto 16) s fun s _ => dumpNext s

/-- Entry i fires: its security check (R481). -/
def dumpFireOne (s : State) (i : Nat) : State :=
  let e := (s.obs.entries[i]?).getD {}
  let s := modOb s fun o => { o with entries := setNth o.entries i { e with waiting := false } }
  let queue (s : State) (serial : Word) : State := modOb s fun o => { o with fired := o.fired ++ [(i, serial)] }
  if secBlank s then dumpOutcome s i 1
  else match secState s with
    | .open_ => queue s 0
    | .sealed_ =>
      match permitFor s e.name (BitVec.ofNat 64 s.step.eng.job) e.step with
      | some p => queue (usePermit s p) (sget {} s.sec.permits p).serial
      | none => raiseI (dumpOutcome s i 1) fcDenied 4
    | _ => dumpOutcome s i 1

/-- A marker of a step, or a commit boundary, fires the entries that wait for it (R481). -/
def dumpFire (s : State) (at_ step : Nat) : State :=
  if isDecode s && at_ != 1 then s
  else
    let due := (upto s.obs.entries.length).filter fun i =>
      let e := (s.obs.entries[i]?).getD {}
      e.waiting && e.at_ == at_ && e.step == step
    dumpGo (forEach due s dumpFireOne)

/-- Bytes that the read of a part brings. -/
def huskData (s : State) (bytes : List Byte) : State :=
  match s.obs.run with
  | some r => if r.writing then s else modOb s fun o => { o with run := some { r with bytes := r.bytes ++ bytes } }
  | none => s

/-- A descriptor of a husk has ended (R322, R323, R482). -/
def huskEnded (s : State) (d : DmaDesc) : State :=
  match s.obs.run with
  | none => s
  | some r =>
    if d.state != 3 then dumpGo (dumpOutcome (modOb s fun o => { o with run := none }) r.entry 2)
    else if r.writing then modOb s fun o => { o with run := some { r with written := true } }
    else huskWrite s { r with bytes := r.bytes.take (partLen s r) }

/-- HUSK_DONE: a part is written with its tag; the next part or the outcome follows (R445, R481). -/
def huskDone (s : State) : State :=
  match s.obs.run with
  | none => s
  | some r =>
    if !r.written then s
    else
      let off := r.offset + r.bytes.length
      let dst := r.dst + huskSpace r.bytes.length
      let s := modOb s fun o => { o with nextDst := dst }
      if off < (runEntry s r).len then
        huskRead s { entry := r.entry, part := r.part + 1, offset := off, dst := dst, serial := r.serial }
      else dumpGo (dumpOutcome (modOb s fun o => { o with run := none }) r.entry 0)

/-- The view of counter i of a set (R473). -/
def cntView (counts : SMap Nat) (tag i : Nat) : Word := pack [(48, 16, tag), (0, 48, sget 0 counts i)]

/-- The OBSERVE block (R484), by window offset. -/
def viewObs (s : State) (off : Nat) : Option Word :=
  let o := s.obs
  if off == 0x0B0000 || off == 0x0B0038 || off == 0x0B0048 then some 0
  else if off == 0x0B0008 then some (pack [(63, 1, b2n o.cntBusy), (32, 16, o.cntTag), (0, 16, o.missed)])
  else if off == 0x0B0010 then some o.ringSel
  else if off == 0x0B0018 then
    some (pack [(63, 1, b2n o.ringFailed), (32, 16, o.ringGen), (16, 12, o.ringTile), (0, 6, o.ringIndex)])
  else if off == 0x0B0020 then some o.dumpList
  else if off == 0x0B0028 then some o.dumpDst
  else if off == 0x0B0030 then some o.dumpSize
  else if off == 0x0B0040 then some (setFld (heldView o.result) 31 24 (missed8 o.result))
  else if off == 0x0B0050 then
    let e := match o.run with | some r => r.entry | none => 0
    some (pack [(63, 1, b2n o.run.isSome), (56, 4, e), (16, 5, o.entries.length),
      (0, 5, (o.entries.filter fun e => e.waiting).length)])
  else if 0x0B0100 ≤ off && off < 0x0B0180 && off % 8 == 0 then some (cntView o.counts o.tag ((off - 0x0B0100) / 8))
  else if 0x0B0200 ≤ off && off < 0x0B0300 && off % 8 == 0 then some (nthW o.ringData ((off - 0x0B0200) / 8))
  else none

end Sys2Proof.Machine
end

