-- ==== Sys2Proof/Machine/Time.lean ====
section
/-! DEFINITION. Time-keeping, the rate windows and the risers (R13–R32, R396, R488). -/
namespace Sys2Proof.Machine

/-- Rewrite time-keeping. -/
def modTime (s : State) (f : TimeKeep → TimeKeep) : State := { s with time := f s.time }

/-- A sample is discarded; the first of a run raises TIME_RANGE (R488). The advances before it and after it are not
successive samples (R23). -/
def timeDiscard (v : Nat) (s : State) : State :=
  let first := !s.time.discarding
  let s := modTime s fun t => { t with discarding := true, good := 0 }
  if first then raisePort s (fcode 9 1 1) 12 0 v else s

/-- A sample is accepted (R23). -/
def timeAccept (v : Nat) (s : State) : State :=
  modTime s fun t => { t with time := v, osc := 0, discarding := false }

/-- The oscillator count since the last accepted sample, where block time runs on it (R23). -/
def oscTo (osc : Nat) (s : State) : State :=
  modTime s fun t =>
    { t with osc := osc, elapsed := if t.state == .lost then t.elapsed + 4 * (osc - t.osc) else t.elapsed }

/-- A sample equal to the last accepted value (R23, R488): no advance and no discard, so it ends a run of either. In TRACKING it
is a good sample, and the estimate on the oscillator ends with it. [DEDUCED, log entry 164] -/
def timeEqual (s : State) : State := modTime s fun t => { t with good := 0, discarding := false }

/-- A sample that is not discarded in TIME_LOST (R23): an advance becomes the last accepted value, and the second of two
successive ones ends TIME_LOST. The record holds the last good TIME and the stamp at its end. [DEDUCED, log entry 164] [DESIGN CHOICE, log entry 168] -/
def timeLostSample (v : Nat) (s : State) : State :=
  if v = s.time.heard then timeEqual s
  else if s.time.good = 0 then modTime s fun t => { t with heard := v, good := 1, discarding := false }
  else
    let lost := s.time.lostFrom
    let s := modTime (timeAccept v s) fun t => { t with state := .tracking, good := 0 }
    record s 9 5 [BitVec.ofNat 64 lost, stamp s]

/-- TIME_SAMPLE (R23, R396, R488): `osc` is the oscillator's count at f0 since the value that TIME holds was accepted.
Before any sample that value is 0. [DESIGN CHOICE, log entry 155] -/
def timeSampleEff (w : Word) (osc : Nat) (s : State) : State :=
  let v := w.toNat
  let t := s.time.time
  match s.time.state with
  | .lost =>
    let s := oscTo osc s
    if bitOf w 63 || decide (v < s.time.heard) then timeDiscard v s else timeLostSample v s
  | .tracking =>
    if bitOf w 63 || decide (v < t) || decide (v > t + 1000000) then timeDiscard v (oscTo osc s)
    else if v = t then modTime (timeEqual s) fun k => { k with osc := 0 }
    else modTime (timeAccept v s) fun k => { k with elapsed := k.elapsed + 5 * (v - t) }
  | _ =>
    let s := modTime s fun k => { k with state := .approx }
    if bitOf w 63 || decide (v < t) then timeDiscard v s
    else if v = t then timeEqual s
    else
      let s := modTime (timeAccept v s) fun k => { k with elapsed := k.elapsed + 5 * (v - t), good := k.good + 1 }
      if s.time.good ≥ 2 then modTime s fun k => { k with state := .tracking, good := 0 } else s

/-- TIME does not advance for 10 µs (R23). The capture names group 12 and the last accepted value. [DESIGN CHOICE, log entry 168] -/
def timeLostEff (osc : Nat) (s : State) : State :=
  if s.time.state == .tracking then
    let s := modTime s fun t =>
      { t with state := .lost, lostSeen := true, lostFrom := t.time, heard := t.time, good := 0, osc := osc, elapsed := t.elapsed + 4 * osc }
    raisePort (cnt s 14) (fcode 9 2 0) 12 0 s.time.time
  else if s.time.state == .lost then oscTo osc s
  else s

/-- A rate below the guaranteed one. -/
def rateSlow (r : Nat) : Bool := decide (r < 1500)

/-- RATE_WINDOW_END (R18, R32): rates in M tokens/s, and the slowest cluster. -/
def rateWindow (spine slowest cluster : Nat) (s : State) : State :=
  let w := pack [(32, 8, part s (s.build.clusterFirst cluster)), (16, 16, slowest), (0, 16, spine)]
  let slow := rateSlow spine || rateSlow slowest
  let was := s.time.slow
  let s := modTime s fun t => { t with rate := w, slow := slow }
  if slow && !was then raiseI s (fcode 9 1 2) 5 w.toNat else s

/-- The positions of a column. -/
def colPositions (s : State) (c : Nat) : List Nat := s.build.positions.filter fun n => s.build.col n == c

/-- RISER_DOWN. -/
def fcRiserDown : Nat := fcode 5 2 10

/-- A riser goes down (R14). -/
def riserDownEff (c : Nat) (s : State) : State :=
  if !(s.time.risers.contains c) then s
  else
    let s := modTime s fun t => { t with risers := t.risers.filter (· != c) }
    let s := raiseI s fcRiserDown 5 c
    post s (.loseCheckers (colPositions s c))

/-- Risers pass training (R14). -/
def risersTrained (cs : List Nat) (s : State) : State :=
  forEach cs s fun s c =>
    if s.time.risers.contains c || decide (c ≥ s.build.cols) then s
    else
      let s := modTime s fun t => { t with risers := insertNat t.risers c }
      forEach (colPositions s c) s fun s n => post s (.regainChecker n)

/-- SQ_ALIVE of a core (R31): it has retired an instruction within the last 1 ms of block time. -/
def sqAlive (s : State) (n : Nat) : Bool :=
  match (core s n).lastRetire with
  | some t => decide (ticks s - t ≤ 1000000)
  | none => false

/-- GLOBAL_STATUS (R31). -/
def globalStatus (s : State) : Word :=
  pack [(4, 4, packN ((upto 4).map fun n => (n, 1, b2n (sqAlive s n)))), (3, 1, b2n s.fault.safe), (2, 1, b2n (approx s)),
    (1, 1, b2n s.time.lostSeen), (0, 1, b2n s.time.slow)]

/-- The GLOBAL registers of R31. [DEDUCED, log entry 19] -/
def viewTime (s : State) (off : Nat) : Option Word :=
  match off with
  | 0x1000 => some (globalStatus s)
  | 0x1008 => some (BitVec.ofNat 64 (now s))
  | 0x1010 => some s.time.rate
  | 0x1018 => some (pack (s.time.risers.map fun c => (c, 1, 1)))
  | _ => none

end Sys2Proof.Machine
end

