-- ==== Sys2Proof/Machine/Mirror.lean ====
section
/-! DEFINITION. The partner link, mirrors, state copies and pulls (R176–R202). One chunk of a copy is under way at a
time. -/
namespace Sys2Proof.Machine

/-- The link is PAIRED. -/
def isPaired (s : State) : Bool := s.mirror.link == .paired

/-- Own slot, PARTNER_CHIP, PARTNER_RANK (R200). -/
def ownSlot (s : State) : Nat := fld s.mirror.peer 0 0
/-- PARTNER_CHIP. -/
def partnerChip (s : State) : Nat := fld s.mirror.peer 63 48
/-- PARTNER_RANK. -/
def partnerRank (s : State) : Nat := fld s.mirror.peer 47 32

/-- The job a HELLO names (R178). -/
def pairJobOf (s : State) : Nat := if isArmed s then s.step.eng.job else s.mirror.pairJob

/-- RANK of STEP_CONFIG. -/
def ownRank (s : State) : Nat := fld s.step.eng.config 47 32

/-- The first 64 bits of the digest of the bit-stream. -/
def bsDigest64 (s : State) : Word := digestWord ((s.loader.active.map (·.digest)).getD 0) 0

/-- A message header word (R177): major, minor, type, length. [DESIGN CHOICE, log entry 76] -/
def melHeader (type len : Nat) : Word := pack [(0, 8, 2), (8, 8, 1), (16, 8, type), (24, 24, len)]

/-- The SHA3-384 digest of bytes, as a message carries it. -/
def sha384Words (bs : List Byte) : List Word := (upto 6).map (digestWord (Config.sha3_384 bs))

/-- Send a protected message, its header and PAIR_SEQ authenticated with it: nothing is sent while no key is held (R177). [DESIGN CHOICE, log entry 76] -/
def melSend (s : State) (type : Nat) (payload : List Word) : State :=
  match s.mirror.txKey with
  | none => s
  | some k =>
    let seq := s.mirror.txSeq
    let aad := [melHeader type (8 * payload.length), BitVec.ofNat 64 seq]
    net (modMir s fun m => { m with txSeq := seq + 1 }) (partnerChip s) type
      (aad ++ bytesWords (Config.sealBytes k seq (wordsBytes aad) (wordsBytes payload)))

/-- A capture of access type NET_RECV (R259). -/
def raiseNetRecv (s : State) (code chip type : Nat) : State :=
  raise s { code := code, access := 6, master := chip, addr := type * 2 ^ 56 }

/-- MEL_BAD_MSG. -/
def melBad (s : State) (type : Nat) : State := raiseNetRecv s (fcode 4 1 0) (partnerChip s) type

/-- A protected message arrives: it is accepted when its tag verifies and its PAIR_SEQ is new (R182); a message on a
MISWIRED or INCOMPATIBLE link is not traffic (R183). -/
def melRecv (type pairSeq : Nat) (tagOk : Bool) (f : State → State) (s : State) : State :=
  if s.mirror.link == .miswired || s.mirror.link == .incompatible then s
  else
    let s := netGot s
    let fresh := match s.mirror.rxSeq with
      | none => true
      | some q => decide (pairSeq > q)
    if tagOk && s.mirror.rxKey.isSome && fresh then f (modMir s fun m => { m with rxSeq := some pairSeq }) else melBad s type

/-! ### Checks after a commit (R187, R188, R193, R195) -/

/-- A committed step is checked (R147). -/
def markChecked (s : State) (step : Nat) : State :=
  modJnl s fun j => { j with slots := j.slots.map fun (i, x) =>
    (i, if x.used && x.step == step then { x with checked := true } else x) }

/-- A check is concluded: reason 0 passes (R195, R202). -/
def checkEnds (s : State) (reason : Nat) (inconclusive : Bool) : State :=
  let step := s.mirror.check.step
  let w := pack [(60, 3, if reason = 0 then 0 else 1), (56, 4, reason), (55, 1, b2n inconclusive), (0, 32, step)]
  let s := record s 6 2 [w, BitVec.ofNat 64 step]
  let again := reason != 0 && s.mirror.check.lastFail == some step
  let s := modMir s fun m =>
    { m with
      check := { m.check with open_ := false, lastFail := if reason = 0 then none else some step },
      checkReg := heldPostAll m.checkReg w 0 (stamp s),
      passed := if reason = 0 then satAdd 32 m.passed 1 else m.passed,
      failed := if reason = 0 then m.failed else satAdd 16 m.failed 1 }
  let s := if again then raiseI s (fcode 4 2 8) 2 else s
  if reason = 0 then markChecked s step else post s (.require 5 false none 12)

/-- A check that is open fails. [DEDUCED, log entry 82] -/
def checkFails (s : State) (reason : Nat) : State := if s.mirror.check.open_ then checkEnds s reason false else s

/-- The open check is judged with what has arrived (R187, R193). [DEDUCED, log entry 82] -/
def checkJudge (s : State) : State :=
  let m := s.mirror
  let c := m.check
  if !c.open_ then s
  else if c.notCommitted == some c.step then checkEnds s 4 false
  else if mirMode s == 1 then
    match c.part with
    | none => s
    | some p =>
      if p.step != c.step then s
      else if p.incomplete || c.own.incomplete then checkEnds (raiseI s (fcode 4 1 6) 2) 0 true
      else if p.sig == c.own.sig && p.count == c.own.count then checkEnds s 0 false
      else checkEnds (raiseI s (fcode 4 2 7) 2) 1 false
  else if (m.out.abandoned && m.out.step == c.step) || (m.inb.abandoned && m.inb.step == c.step) then checkEnds s 5 false
  else if (m.out.digestBad && m.out.step == c.step) || (m.inb.digestBad && m.inb.step == c.step) then checkEnds s 6 false
  else if m.out.done && m.out.step == c.step && m.inb.done && m.inb.step == c.step && m.heldValid && m.heldStep == c.step then
    checkEnds s 0 false
  else s

/-! ### Copies: shard lists, chunks, segments (R190–R192) -/

/-- A chunk of a copy. -/
def chunkMax : Nat := 65536

/-- The entries of a shard list (R190). -/
def shardsOf (ws : List Word) : List Shard :=
  let es := (upto 256).map fun i => (ws.drop (4 * i)).take 4
  (es.takeWhile fun e => e.any (· != 0)).map fun e => ⟨(nthW e 0).toNat, (nthW e 1).toNat, (nthW e 2).toNat⟩

/-- The chunks of contiguous pieces: (address, length) in order. -/
def piecesChunks (ps : List (Nat × Nat)) : List (Nat × Nat) :=
  ps.flatMap fun (a, l) => (upto (ceilDiv l chunkMax)).map fun i => (a + i * chunkMax, min chunkMax (l - i * chunkMax))

/-- The pieces of own state in an epoch. -/
def shardPieces (l : List Shard) (epoch : Nat) : List (Nat × Nat) := l.map fun e => (if epoch = 0 then e.e0 else e.e1, e.len)

/-- The parts of pieces that bytes [off, off + n) of their concatenation fall in: (address, offset in the bytes,
length). -/
def segments : List (Nat × Nat) → Nat → Nat → List (Nat × Nat × Nat)
  | [], _, _ => []
  | (a, l) :: r, off, n =>
    if off ≥ l then segments r (off - l) n
    else
      let k := min n (l - off)
      (a + off, 0, k) :: (segments r 0 (n - k)).map fun x => (x.1, x.2.1 + k, x.2.2)

/-- The epoch whose state a copy or a serve reads (R191, R196). -/
def sourceEpoch (s : State) : Nat := if isUndo s then 0 else s.step.eng.epochSel

/-- The receive slots and the notice area (R192). -/
def rxSlotBytes (s : State) : Nat := fld s.mirror.rxSize 31 0 * 2 ^ 20
/-- The address of a receive slot. -/
def rxSlotAddr (s : State) (slot : Nat) : Nat := s.mirror.rxBase.toNat + slot * rxSlotBytes s
/-- The address of the notice area. [DESIGN CHOICE, log entry 77] -/
def noticeArea (s : State) : Nat := rxSlotAddr s 2

/-- A transfer of the mirror engine: OWNER 2; TAG 1 for a shard list. -/
def mirCtl (len tag : Nat) : Word := pack [(56, 8, tag), (48, 8, 2), (0, 40, len)]

/-- Write bytes of the block to a job address on channel 4. -/
def mirWrite (s : State) (addr : Nat) (work : DmaWork) (bytes : List Byte) : State :=
  if bytes.isEmpty then s
  else dmaPost 4 (pack [(60, 4, 2)]) (BitVec.ofNat 64 addr) (mirCtl (ceilDiv bytes.length 64 * 64) 0) work bytes s

/-- Read a job address into the block on channel 3. -/
def mirRead (s : State) (addr len tag : Nat) (work : DmaWork) : State :=
  dmaPost 3 (BitVec.ofNat 64 addr) (pack [(60, 4, 2)]) (mirCtl len tag) work [] s

/-- Bytes go to the receive area under the mirror storage key: the address and what is written (R192), the ciphertext in the
place of the bytes (the manual gives the tag no place); none are written while no key is held (R441). [DESIGN CHOICE, log entry 84] -/
def storeWrite (s : State) (addr nonce : Nat) (work : DmaWork) (bytes : List Byte) : State :=
  match s.sec.mst with
  | some k => mirWrite s addr work ((Config.sealBytes k nonce [] bytes).take bytes.length)
  | none => s

/-- Bytes read from a receive slot are decrypted (R192, R196). [DESIGN CHOICE, log entry 84] -/
def storeOpen (s : State) (nonce : Nat) (bytes : List Byte) : List Byte :=
  Config.openBytes (s.sec.mst.getD 0) nonce bytes

/-- The nonce of a chunk under the storage key. -/
def chunkNonce (step chunk : Nat) : Nat := step * 2 ^ 32 + chunk

/-- The chunks of the outbound copy. -/
def outChunks (s : State) : List (Nat × Nat) := piecesChunks (shardPieces s.mirror.shards (sourceEpoch s))

/-- Where pieces that follow one another from an address lie. -/
def runsFrom : Nat → List Nat → List (Nat × Nat)
  | _, [] => []
  | a, l :: ls => (a, l) :: runsFrom (a + l) ls

/-- The chunks a serve reads: own state, or under COPY the held copy in the chunks in which it was received and sealed (R192, R196). -/
def serveChunks (s : State) : List (Nat × Nat) :=
  if mirMode s == 2 then runsFrom (rxSlotAddr s s.mirror.heldSlot) s.mirror.heldLens else outChunks s

/-- Read the next chunk of the outbound copy; nothing is read while the update is open (R191). -/
def copyReadNext (s : State) : State :=
  if !s.mirror.out.running || s.step.eng.updOpen then s
  else match (outChunks s)[s.mirror.out.chunk]? with
    | some (a, l) => mirRead s a l 0 .mirrorOut
    | none =>
      if s.mirror.out.endSent then s
      else
        let o := s.mirror.out
        melSend (modMir s fun m => { m with out := { m.out with endSent := true } }) 0x0B
          ([BitVec.ofNat 64 o.step, BitVec.ofNat 64 o.chunk] ++ sha384Words o.bytes)

/-- The update has closed: an outbound copy that stood still for it goes on (R191). -/
def copyReadOn (s : State) : State :=
  let ch := chan s 3
  let under := (ch.busy && ch.cur.work == .mirrorOut) || (ch.queue ++ ch.waiting).any fun d => d.work == .mirrorOut
  if !under && s.mirror.out.bytes.length == s.mirror.out.acked then copyReadNext s else dmaGo 3 s

/-- The bytes of the chunk under way. -/
def chunkBytes (o : CopySide) : List Byte := o.bytes.drop o.acked

/-- Send the chunk under way (R191). -/
def copySendChunk (s : State) : State :=
  let o := s.mirror.out
  melSend s 0x09 ([BitVec.ofNat 64 o.step, BitVec.ofNat 64 o.chunk] ++ bytesWords (chunkBytes o))

/-- The outbound copy of a step starts with the shard list (R190, R191). -/
def copyStart (s : State) (step : Nat) : State :=
  mirRead (modMir s fun m => { m with out := { running := true, step := step } }) s.mirror.shardList.toNat 8192 1 .mirrorOut

/-- What is under way of the outbound copy, of the inbound one, of a serve, of a pull ends as ABANDONED (R323). -/
def dropOut (s : State) : State := dropWork 3 (fun d => d.work == .mirrorOut) s
/-- The writes of an inbound copy. -/
def dropIn (s : State) : State := dropWork 4 (fun d => d.work == .mirrorIn) s
/-- The reads of a serve. -/
def dropServe (s : State) : State := dropWork 3 (fun d => d.work == .serve) s
/-- The writes of a pull. -/
def dropPull (s : State) : State := dropWork 4 (fun d => d.work == .pullWrite) s

/-- The outbound copy is abandoned (R191). -/
def copyAbandon (s : State) : State :=
  if !s.mirror.out.running then s
  else
    let s := dropOut (modMir s fun m => { m with out := { m.out with running := false, abandoned := true } })
    checkJudge (raiseI s (fcode 4 2 9) 2)

/-- The inbound copy is abandoned, with a fault where its rule names one (R192, R193). -/
def inbAbandon (s : State) (code : Option Nat) : State :=
  let s := dropIn (modMir s fun m => { m with inb := { m.inb with running := false, abandoned := true } })
  match code with
  | some c => checkJudge (raiseI s c 2)
  | none => s

/-- The chunk of the outbound copy failed: it is sent again, or at the third failure the copy is abandoned (R191). -/
def copyRetry (s : State) : State :=
  if !s.mirror.out.running then s
  else
    let s := modMir s fun m => { m with out := { m.out with tries := m.out.tries + 1 } }
    if s.mirror.out.tries ≥ 3 then copyAbandon s else copySendChunk s

/-- COPY_ACK of the chunk under way. -/
def copyAcked (s : State) : State :=
  copyReadNext (modMir s fun m => { m with out := { m.out with acked := m.out.bytes.length, chunk := m.out.chunk + 1, tries := 0 } })

/-! ### Serving a pull, and pulling (R196, R197) -/

/-- PULL_REFUSE (R196). -/
def serveRefuse (s : State) (cause : Nat) : State :=
  melSend (dropServe (modMir s fun m => { m with serve := { m.serve with running := false } })) 0x0E [2, BitVec.ofNat 64 cause]

/-- Where a notice lies in the notice area. -/
def noticeAt (s : State) (step mb : Nat) : Nat := noticeArea s + (step % 2) * 2 ^ 21 + (mb % 8192) * 256
/-- The nonce of a notice under the storage key. -/
def noticeNonce (step mb : Nat) : Nat := step * 2 ^ 16 + mb

/-- Read the next notice to serve, or end the pull with those read (R196). -/
def serveNotice (s : State) (left : List (Nat × Nat)) : State :=
  let v := s.mirror.serve
  match left with
  | n :: _ => mirRead (modMir s fun m => { m with serveNotes := some left }) (noticeAt s n.1 n.2) 256 2 .serve
  | [] =>
    melSend (modMir s fun m => { m with serve := { m.serve with running := false, done := true }, serveNotes := none }) 0x0E
      ([1, BitVec.ofNat 64 v.step, BitVec.ofNat 64 v.chunk] ++ sha384Words v.bytes ++
        s.mirror.serveGot.flatMap fun n => BitVec.ofNat 64 n.mb :: n.words)

/-- Read the next chunk to serve, or go on to the notices (R196). [DEDUCED, log entry 87] -/
def serveNext (s : State) : State :=
  if !s.mirror.serve.running then s
  else match (serveChunks s)[s.mirror.serve.chunk]? with
    | some (a, l) => mirRead s a l 0 .serve
    | none =>
      serveNotice (modMir s fun m => { m with serveGot := [] })
        (s.mirror.notices.filter fun n => n.1 == s.mirror.serve.step && s.sec.mst.isSome)

/-- A notice to serve has been read from the notice area: it is decrypted (R185). -/
def serveNoticeRead (s : State) : State :=
  let v := s.mirror.serve
  match s.mirror.serveNotes with
  | some ((st, mb) :: rest) =>
    let bs := (storeOpen s (noticeNonce st mb) (v.bytes.drop v.acked)).take 256
    serveNotice (modMir s fun m =>
      { m with serve := { m.serve with bytes := v.bytes.take v.acked }, serveGot := m.serveGot ++ [⟨st, mb, bytesWords bs⟩] }) rest
  | _ => s

/-- Send the chunk a serve has read. [DEDUCED, log entry 87] -/
def serveSendChunk (s : State) : State :=
  let v := s.mirror.serve
  melSend s 0x0E ([0, BitVec.ofNat 64 v.step, BitVec.ofNat 64 v.chunk] ++ bytesWords (chunkBytes v))

/-- The pull fails (R196, R197). -/
def pullFails (s : State) (cause : Nat) : State :=
  if !s.mirror.pull.running then s
  else raiseI (dropPull (modMir s fun m => { m with pull := { m.pull with running := false }, pullFailed := true, cause := cause }))
    (fcode 4 2 12) 2

/-- COPY_ACK or COPY_NACK for a chunk. [DEDUCED, log entry 83] -/
def sendAck (s : State) (step chunk : Nat) (ok : Bool) : State :=
  melSend s 0x0A [if ok then 0 else 1, BitVec.ofNat 64 step, BitVec.ofNat 64 chunk]

/-- The engine's reads and writes on channels 3 and 4 bring bytes. -/
def mirData (s : State) (work : DmaWork) (bytes : List Byte) : State :=
  match work with
  | .mirrorOut => modMir s fun m => { m with out := { m.out with bytes := m.out.bytes ++ bytes } }
  | .serve => modMir s fun m => { m with serve := { m.serve with bytes := m.serve.bytes ++ bytes } }
  | _ => s

/-- A descriptor of the mirror engine has ended (R190–R196, R323). [DEDUCED, log entry 83] -/
def mirDmaDone (s : State) (d : DmaDesc) : State :=
  let list := dTag d.ctl == 1
  match d.work with
  | .mirrorOut =>
    if !s.mirror.out.running then s
    else if d.state != 3 then copyAbandon s
    else if list then
      copyReadNext (modMir s fun m => { m with shards := shardsOf (bytesWords m.out.bytes), out := { m.out with bytes := [] } })
    else copySendChunk s
  | .serve =>
    if !s.mirror.serve.running then s
    else if d.state != 3 then serveRefuse s 13
    else if list then
      let s := modMir s fun m =>
        { m with shards := shardsOf (bytesWords m.serve.bytes), serve := { m.serve with bytes := [] } }
      if s.mirror.shards.map (·.len) == s.mirror.serveLens then serveNext s else serveRefuse s 14
    else if dTag d.ctl == 2 then serveNoticeRead s
    else if mirMode s == 2 then
      if s.sec.mst.isNone then serveRefuse s 13
      else
        let v := s.mirror.serve
        let plain := (storeOpen s (chunkNonce s.mirror.heldStep v.chunk) (chunkBytes v)).take (chunkBytes v).length
        serveSendChunk (modMir s fun m => { m with serve := { m.serve with bytes := v.bytes.take v.acked ++ plain } })
    else serveSendChunk s
  | .mirrorIn =>
    if !s.mirror.inb.running then s
    else if d.state != 3 then inbAbandon s (some (fcode 4 2 9))
    else
      let i := s.mirror.inb
      sendAck (modMir s fun m => { m with inb := { m.inb with left := 0 } }) i.step (i.chunk - 1) true
  | .pullWrite =>
    if d.state != 3 then pullFails s 13
    else if !s.mirror.pull.running then s
    else
      let s := modMir s fun m => { m with pull := { m.pull with left := m.pull.left - 1 } }
      let p := s.mirror.pull
      if p.left = 0 then sendAck s p.step (p.chunk - 1) true else s
  | .notice =>
    let in_ := s.mirror.noticesIn
    modMir s fun m =>
      { m with noticesIn := in_.drop 1, notices := if d.state == 3 then (m.notices.filter fun n => !(in_.take 1).contains n) ++ in_.take 1 else m.notices }
  | _ => s

/-- The link leaves PAIRED: keys zeroised, copies and serving abandoned with what they have under way, an open check fails as LOST
(R182, R187, R323); what the partner holds is no longer known. -/
def leavePaired (s : State) : State :=
  let s := checkFails s 2
  let s := pullFails s 0
  dropServe <| dropIn <| dropOut <| modMir s fun m =>
    { m with
      secret := none, txKey := none, rxKey := none, finSent := false, finGot := false, txSeq := 0, rxSeq := none,
      out := if m.out.running then { m.out with running := false, abandoned := true } else m.out,
      inb := if m.inb.running then { m.inb with running := false, abandoned := true } else m.inb,
      serve := { m.serve with running := false }, peerHolds := none }

/-! ### Link (R178–R183) -/

/-- MIRROR_CMD_ILLEGAL (R201). -/
def mirIllegal (rq : Acc) (s : State) : State := raiseK s (fcode 4 1 14) rq 0x060010

/-- PAIR (R182, R201, R244). -/
def pairCmd (rq : Acc) (arg : Nat) (s : State) : State :=
  if s.mirror.link == .down && mirMode s != 0 && secState s != .provision && secState s != .locked then
    modMir s fun m => { m with link := .hello, pairJob := arg, tries := 0, cause := 0, peerHolds := none }
  else mirIllegal rq s

/-- REPAIR (R182, R201). -/
def repairCmd (rq : Acc) (s : State) : State :=
  if s.mirror.link == .miswired || s.mirror.link == .incompatible then
    modMir s fun m => { m with link := .hello, cause := 0, tries := 0 }
  else mirIllegal rq s

/-- UNPAIR (R182). -/
def unpairCmd (s : State) : State :=
  modMir (leavePaired s) fun m => { m with link := .down }

/-- The identity fields of a HELLO (R178). [DESIGN CHOICE, log entry 76] -/
def helloIdent (h : Hello) : List Word :=
  [pack [(0, 16, h.chip), (16, 8, h.inst), (24, 1, h.slot), (25, 2, h.mode), (32, 16, h.rank), (48, 8, h.major), (56, 8, h.minor)],
   pack [(0, 32, h.job), (32, 32, h.domain)], h.digest64, pack [(0, 16, h.compat), (16, 24, h.ipVersion)],
   BitVec.ofNat 64 h.nonce, BitVec.ofNat 64 (h.nonce / 2 ^ 64)]

/-- The encapsulation key that the held certificate names (R442). -/
def ownEk (s : State) : List Byte := (s.sec.cert.drop 2608).take 1568

/-- The HELLO of this instance with a nonce: the signature covers the identity and the encapsulation key (R178). -/
def ownHelloOf (s : State) (nonce : Nat) : Hello :=
  let h : Hello :=
    { chip := chipNo s, inst := instNo s, job := pairJobOf s, rank := ownRank s, slot := ownSlot s, mode := mirMode s,
      domain := polDomain s, digest64 := bsDigest64 s, compat := polCompat s, major := 2, minor := 1, ipVersion := 0x040200,
      nonce := nonce, ek := leNat (ownEk s), cert := s.sec.cert }
  { h with sig := Config.sign (s.sec.att.getD 0) (wordsBytes (helloIdent h) ++ ownEk s) }

/-- The payload of a HELLO (R177). -/
def helloPayload (h : Hello) : List Word := helloIdent h ++ bytesWords (leBytes 1568 h.ek ++ h.cert ++ h.sig)

/-- HELLO_TIMER: a HELLO is sent in state HELLO while a certificate is held (R177, R442). [DEDUCED, log entry 78] -/
def helloSend (s : State) : State :=
  if s.mirror.link == .hello && s.sec.certOk then
    let (n, s) := drawNext s
    let h := ownHelloOf s (Config.draw n % 2 ^ 128)
    net (modMir s fun m => { m with ownHello := h }) (partnerChip s) 1
      ([melHeader 1 (48 + 1568 + h.cert.length + h.sig.length), 0] ++ helloPayload h)
  else s

/-- The checks of R179 in order: none when all pass, else (INCOMPATIBLE?, CAUSE). `nbrId` is NBR_ID's value for the link, none
where its valid bit is 0 (R400). -/
def helloCheck (s : State) (h : Hello) (nbrId : Option Nat) : Option (Bool × Nat) :=
  let link := fld s.mirror.peer 7 4
  let expect := fld (regWord s 1 (8 + link / 4)) (16 * (link % 4) + 15) (16 * (link % 4))
  let expected := bitOf (regWord s 1 7) link
  if h.major != 2 then some (true, 10)
  else if h.ipVersion / 2 ^ 16 != 4 then some (true, 11)
  else if !h.sigOk then some (false, 8)
  else if h.job != pairJobOf s then some (false, 1)
  else if h.domain != polDomain s then some (false, 2)
  else if h.chip != partnerChip s || h.inst != instNo s then some (false, 3)
  else if h.rank != partnerRank s then some (false, 4)
  else if h.slot == ownSlot s then some (false, 5)
  else if h.mode != mirMode s then some (false, 6)
  else if bitOf s.mirror.peer 8 &&
      (nbrId == some 0xFFFF || nbrId != some (partnerChip s) || !expected || nbrId != some expect) then some (false, 7)
  else if h.digest64 != bsDigest64 s && h.compat != polCompat s then some (true, 12)
  else none

/-- The direction keys from the shared secret (R181). -/
def setPairKeys (s : State) (secret : Nat) : State :=
  let own := ownSlot s
  let n0 := if own = 0 then s.mirror.ownHello.nonce else s.mirror.peerHello.nonce
  let n1 := if own = 0 then s.mirror.peerHello.nonce else s.mirror.ownHello.nonce
  let key (slot : Nat) : Nat := Config.kmac 256 secret custMel [slot, n0, n1]
  modMir s fun m => { m with secret := some secret, txKey := some (key own), rxKey := some (key (1 - own)), txSeq := 0, rxSeq := none }

/-- The pairing transcript: the HELLO of slot 0, that of slot 1, the KEY (R181). [DESIGN CHOICE, log entry 76] -/
def transcript (s : State) : List Nat :=
  let hello (h : Hello) : List Nat := (helloPayload h).map (·.toNat)
  let own := s.mirror.ownHello
  let peer := s.mirror.peerHello
  (if ownSlot s = 0 then hello own ++ hello peer else hello peer ++ hello own) ++ [s.mirror.keyCt]

/-- FINISH is sent: KMAC256 of the transcript under the shared secret (R177, R181). -/
def sendFinish (s : State) : State :=
  let mac := Config.kmac 256 (s.mirror.secret.getD 0) custMel (transcript s)
  melSend (modMir s fun m => { m with finSent := true }) 3 ((upto 4).map (digestWord mac))

/-- KEYING is entered; slot 0 sends KEY (R181, R182). [DEDUCED, log entry 79] -/
def enterKeying (s : State) (h : Hello) : State :=
  let s := modMir s fun m =>
    { m with
      link := .keying, negMinor := min 1 h.minor, tries := m.tries + 1, finSent := false, finGot := false, secret := none,
      txKey := none, rxKey := none, rxSeq := none }
  if ownSlot s = 0 then
    let (n, s) := drawNext s
    let ct := Config.kemCipher h.ek n
    let s := modMir (setPairKeys s (Config.kem h.ek (Config.draw n))) fun m => { m with keyCt := leNat ct }
    sendFinish (melSend s 2 (bytesWords ct))
  else s

/-- The identity of a HELLO is recorded (R178, R183). [DESIGN CHOICE, log entry 76] -/
def identRecord (s : State) (h : Hello) : State := record s 6 2 (helloIdent h)

/-- HELLO arrives (R179, R182, R183). [DEDUCED, log entry 79] -/
def helloGot (h : Hello) (nbrId : Option Nat) (s : State) : State :=
  let l := s.mirror.link
  let s := modMir (netGot s) fun m => { m with lastHello := h }
  let old := s.mirror.peerHello.nonce
  let seen (s : State) : State := modMir s fun m => { m with peerHello := h }
  if l == .hello || l == .lost then
    match helloCheck s h nbrId with
    | none => enterKeying (seen s) h
    | some (incompat, cause) =>
      let s := modMir (seen s) fun m => { m with link := if incompat then .incompatible else .miswired, cause := cause }
      identRecord (raiseNetRecv s (if incompat then fcode 4 2 4 else fcode 4 2 3) h.chip 1) h
  else if l == .paired then
    if h.sigOk && h.chip == partnerChip s && h.nonce != old && (helloCheck s h nbrId).isNone then
      enterKeying (seen (modMir (leavePaired s) fun m => { m with tries := 0 })) h
    else melBad s 1
  else s

/-- KEYING completes when both FINISH messages are checked (R181). -/
def keyingDone (s : State) : State :=
  if s.mirror.link == .keying && s.mirror.finSent && s.mirror.finGot then
    post (modMir s fun m => { m with link := .paired, tries := 0, cause := 0 }) .armGo
  else s

/-- KEY arrives at slot 1 (R181). [DEDUCED, log entry 80] -/
def keyGot (ct pairSeq : Nat) (tagOk : Bool) (s : State) : State :=
  if s.mirror.link != .keying || ownSlot s = 0 then melBad (cnt s 6) 2
  else
    let s := netGot s
    if !tagOk || s.mirror.rxKey.isSome then melBad s 2
    else
      let s := setPairKeys s (Config.kem (s.sec.kem.getD 0) ct)
      keyingDone (sendFinish (modMir s fun m => { m with rxSeq := some pairSeq, keyCt := ct }))

/-- FINISH arrives (R181). -/
def finishGot (pairSeq : Nat) (tagOk transcriptOk : Bool) : State → State :=
  melRecv 3 pairSeq (tagOk && transcriptOk) fun s => keyingDone (modMir s fun m => { m with finGot := true })

/-- No acceptable HELLO for 10 s (R182). -/
def pairTimeout (s : State) : State :=
  if s.mirror.link == .hello then raiseI (modMir s fun m => { m with link := .down }) (fcode 4 2 1) 2 else s

/-- KEYING does not complete within 5 ms (R182). -/
def keyingTimeoutEff (s : State) : State :=
  if s.mirror.link != .keying then s
  else if s.mirror.tries < 3 then modMir s fun m => { m with link := .hello, secret := none, txKey := none, rxKey := none }
  else
    identRecord (raiseI (modMir s fun m => { m with link := .miswired, cause := 9, secret := none, txKey := none, rxKey := none })
      (fcode 4 2 3) 2) s.mirror.peerHello

/-- No accepted message for 5 ms while PAIRED (R182). [DEDUCED, log entry 78] -/
def linkLost (s : State) : State :=
  if isPaired s then raiseI (modMir (leavePaired s) fun m => { m with link := .lost }) (fcode 4 1 2) 2 else s

/-- BEAT_TIMER (R177). -/
def beatSend (s : State) : State :=
  if isPaired s then melSend s 4 [BitVec.ofNat 64 (phaseCode s.step.eng.phase), BitVec.ofNat 64 s.step.eng.epochStep] else s

/-- BEAT arrives. -/
def beatGot (pairSeq : Nat) (tagOk : Bool) : State → State := melRecv 4 pairSeq tagOk id

/-- A NOTICE of the partner arrives (R185): those of its current and previous step are kept, in the receive
area under the storage key, once they are written there. [DEDUCED, log entry 85] -/
def noticeGot (step mb : Nat) (ws : List Word) (pairSeq : Nat) (tagOk : Bool) : State → State :=
  melRecv 5 pairSeq tagOk fun s =>
    let s := modMir s fun m => { m with notices := m.notices.filter fun n => decide (n.1 + 1 ≥ step) && n != (step, mb) }
    let s := if s.sec.mst.isSome then modMir s fun m => { m with noticesIn := m.noticesIn ++ [(step, mb)] } else s
    storeWrite s (noticeAt s step mb) (noticeNonce step mb) .notice (wordsBytes ws)

/-- A notice of an own MICRO_BATCH record goes to the partner (R185). -/
def noticeSend (s : State) (step mb : Nat) (ws : List Word) : State :=
  if mirMode s != 0 && isPaired s then melSend s 5 ([BitVec.ofNat 64 step, BitVec.ofNat 64 mb] ++ ws) else s

/-- A run of a whole step, or of one from EXCH, starts: what an earlier run of the step exchanged does not count for it. -/
def mirRunStarts (s : State) : State :=
  modMir s fun m =>
    { m with
      check := { m.check with part := none, notCommitted := none }, auditShut := false }

/-- EPOCH goes back by a step: the copies and the check of the step it leaves count no more, and none of it is streamed on (R147,
R191). [DEDUCED, log entry 85] -/
def mirRolledBack (s : State) : State :=
  let ended (c : CopySide) : CopySide := { c with running := false, done := false, abandoned := false, digestBad := false }
  dropIn <| dropOut <| modMir s fun m =>
    { m with out := ended m.out, inb := ended m.inb, check := { m.check with open_ := false, part := none, notCommitted := none } }

/-- Own commit of a step: COMMITTED is sent, the check opens, under COPY the state follows (R187, R191, R193). Without a link the
check is judged by what the partner has sent before, and else fails as LOST. -/
def mirCommit (s : State) (com : Committed) : State :=
  if mirMode s == 0 then markChecked s com.step
  else
    let s := modMir s fun m => { m with check := { m.check with open_ := true, step := com.step, own := com }, checkStep := com.step }
    if !(isPaired s) then checkFails (checkJudge s) 2
    else
      let s := melSend s 6 [BitVec.ofNat 64 com.step, com.sig, BitVec.ofNat 64 com.count, BitVec.ofNat 64 (b2n com.incomplete)]
      checkJudge (if mirMode s == 2 then copyStart s com.step else s)

/-- NOT_COMMITTED is sent (R177, R195). -/
def notCommittedSend (s : State) (step dec : Nat) : State :=
  if mirMode s != 0 && isPaired s then melSend s 7 [BitVec.ofNat 64 step, BitVec.ofNat 64 dec] else s

/-- After SKIP the last committed state goes again only if the receiver does not hold it (R191). -/
def copyAfterSkip (s : State) : State :=
  if mirMode s == 2 && isPaired s && s.mirror.peerHolds != some s.step.eng.epochStep && !s.mirror.out.running then copyStart s s.step.eng.epochStep
  else s

/-- COMMITTED arrives (R187). [DEDUCED, log entry 81] -/
def committedGot (c : Committed) (pairSeq : Nat) (tagOk : Bool) : State → State :=
  melRecv 6 pairSeq tagOk fun s => checkJudge (modMir s fun m => { m with check := { m.check with part := some c } })

/-- NOT_COMMITTED arrives (R187, R193). [DEDUCED, log entry 81] -/
def notCommittedGot (step pairSeq : Nat) (tagOk : Bool) : State → State :=
  melRecv 7 pairSeq tagOk fun s => checkJudge (modMir s fun m => { m with check := { m.check with notCommitted := some step } })

/-- Whether the pair re-executes at AUDIT (R189). -/
def auditPair (s : State) : Bool := mirMode s == 1 && isPaired s && s.mirror.negMinor ≥ 1

/-- Two signatures of one identity differ: SIG_PARTNER_DIVERGE (R189). [DEDUCED, log entry 70] -/
def auditCompare (s : State) (own peer : Word) : State :=
  if own == peer then s
  else post (raiseI s (fcode 1 2 6) 2) (.require 3 false none 6)

/-- An own complete C signature of an UPD operation at AUDIT (R189). -/
def auditOwn (s : State) (id : OpId) (sig : Word) : State :=
  if !(auditPair s) then s
  else
    let s := melSend s 8 [pack [(32, 32, id.tag), (0, 32, id.ctx)], BitVec.ofNat 64 id.mb, sig]
    match s.mirror.auditPeer.find? fun p => p.1 == id with
    | some p => auditCompare (modMir s fun m => { m with auditPeer := m.auditPeer.filter fun p => p.1 != id }) sig p.2
    | none => modMir s fun m => { m with auditOwn := m.auditOwn ++ [(id, sig)] }

/-- AUDIT_SIG arrives (R189): one that comes after the step verdict is not compared. [DEDUCED, log entry 70] -/
def auditGot (id : OpId) (sig : Word) (pairSeq : Nat) (tagOk : Bool) : State → State :=
  melRecv 8 pairSeq tagOk fun s =>
    if s.mirror.auditShut then s
    else match s.mirror.auditOwn.find? fun p => p.1 == id with
    | some p => auditCompare (modMir s fun m => { m with auditOwn := m.auditOwn.filter fun p => p.1 != id }) p.2 sig
    | none => modMir s fun m => { m with auditPeer := m.auditPeer ++ [(id, sig)] }

/-- The step verdict forms: identities without the partner's signature are not compared (R189). -/
def auditClose (s : State) : State :=
  modMir s fun m =>
    { m with uncompared := satAdd 16 m.uncompared m.auditOwn.length, auditOwn := [], auditPeer := [], auditShut := true }

/-- A received message of `n` bytes of payload: with header, PAIR_SEQ, step, chunk number and tag one of more than 524 beats is
discarded, and its header is the payload of the range fault (R177, R391, R407). [DESIGN CHOICE, log entry 188] -/
def rxFramed (type n : Nat) (f : State → State) (s : State) : State :=
  if ceilDiv (n + 48) 128 > 524 then raisePort s fcPortRange 8 0 (2 + 2 ^ 8 + type * 2 ^ 16 + (n + 16) * 2 ^ 24) else f s

/-- COPY_CHUNK arrives (R192): it is acknowledged once it is written (R323). [DEDUCED, log entry 83] [DEDUCED, log entry 85] -/
def chunkGot (step chunk : Nat) (bytes : List Byte) (pairSeq : Nat) (tagOk : Bool) : State → State :=
  rxFramed 9 bytes.length <| melRecv 9 pairSeq tagOk fun s =>
    if mirMode s != 2 then s
    else
      let b := s.mirror.inb
      let s := if b.step == step && (b.running || (chunk != 0 && (b.abandoned || b.digestBad || b.done))) then s
        else modMir (dropIn s) fun m =>
          { m with inb := { running := true, step := step, slot := if m.heldValid then 1 - m.heldSlot else 0 } }
      let i := s.mirror.inb
      if !i.running then s
      else if chunk > i.chunk || s.sec.mst.isNone then sendAck s step chunk false
      else if chunk < i.chunk then (if i.left = 0 then sendAck s step chunk true else s)
      else if i.bytes.length + bytes.length > rxSlotBytes s then
        inbAbandon s (some (fcode 4 2 10))
      else
        let at_ := rxSlotAddr s i.slot + i.bytes.length
        let s := modMir s fun m =>
          { m with inb := { m.inb with bytes := m.inb.bytes ++ bytes, lens := m.inb.lens ++ [bytes.length], chunk := m.inb.chunk + 1, left := 1 } }
        storeWrite s at_ (chunkNonce step chunk) .mirrorIn bytes

/-- COPY_ACK arrives, for the outbound copy or a serve (R191, R196). -/
def ackGot (step chunk pairSeq : Nat) (tagOk : Bool) : State → State :=
  melRecv 0x0A pairSeq tagOk fun s =>
    let m := s.mirror
    if m.out.running && m.out.step == step && m.out.chunk == chunk && m.out.bytes.length > m.out.acked then copyAcked s
    else if m.serve.running && m.serve.step == step && m.serve.chunk == chunk then
      serveNext (modMir s fun m =>
        { m with serve := { m.serve with acked := m.serve.bytes.length, chunk := m.serve.chunk + 1, tries := 0 } })
    else s

/-- A chunk of the copy or of the serve failed (R191). -/
def chunkFailed (s : State) : State :=
  if s.mirror.out.running then copyRetry s
  else if s.mirror.serve.running then
    let s := modMir s fun m => { m with serve := { m.serve with tries := m.serve.tries + 1 } }
    if s.mirror.serve.tries ≥ 3 then dropServe (modMir s fun m => { m with serve := { m.serve with running := false, abandoned := true } })
    else serveSendChunk s
  else s

/-- COPY_NACK arrives (R191). -/
def nackGot (step chunk pairSeq : Nat) (tagOk : Bool) : State → State :=
  melRecv 0x0A pairSeq tagOk fun s =>
    if (s.mirror.out.step == step && s.mirror.out.chunk == chunk) || (s.mirror.serve.step == step && s.mirror.serve.chunk == chunk)
    then chunkFailed s else s

/-- COPY_END arrives (R192). -/
def endGot (step chunks digest pairSeq : Nat) (tagOk : Bool) : State → State :=
  melRecv 0x0B pairSeq tagOk fun s =>
    let i := s.mirror.inb
    if !(i.running && i.step == step) then s
    else if digest == Config.sha3_384 i.bytes && chunks == i.chunk then
      let s := modMir s fun m =>
        { m with
          inb := { m.inb with running := false, done := true }, heldValid := true, heldStep := step, heldSlot := i.slot,
          heldLens := i.lens }
      checkJudge (melSend s 0x0C (BitVec.ofNat 64 step :: sha384Words i.bytes))
    else
      checkJudge (raiseI (modMir s fun m => { m with inb := { m.inb with running := false, digestBad := true } })
        (fcode 4 2 9) 2)

/-- COPY_DONE arrives (R192, R193). -/
def doneGot (step digest pairSeq : Nat) (tagOk : Bool) : State → State :=
  melRecv 0x0C pairSeq tagOk fun s =>
    let o := s.mirror.out
    if !(o.running && o.endSent && o.step == step) then s
    else
      let ok := digest == Config.sha3_384 o.bytes
      checkJudge (modMir s fun m =>
        { m with out := { m.out with running := false, done := ok, digestBad := !ok }, peerHolds := if ok then some step else m.peerHolds })

/-- No first inbound chunk, or no COMMITTED, within MIRROR_CHECK_TIMEOUT (R187, R193). -/
def checkTimeout (s : State) : State :=
  let m := s.mirror
  if mirMode s == 2 then
    if m.inb.step == m.check.step && (m.inb.running || m.inb.done) then s else checkFails s 3
  else checkFails s 3

/-- More than 20 ms without an accepted chunk while an inbound copy is open (R193). -/
def gapTimeout (s : State) : State :=
  if s.mirror.inb.running then checkFails (inbAbandon s none) 3 else s

/-- MIRROR_COPY_LATE: the UPD marker comes while a copy is still running (R193). -/
def copyLate (s : State) : State :=
  if mirMode s == 2 && (s.mirror.out.running || s.mirror.inb.running) then raiseI s (fcode 4 1 11) 2 else s

/-- PULL (R196, R201); `shards` is the sprout's list. [DEDUCED, log entry 86] -/
def pullCmd (rq : Acc) (arg : Nat) (shards : List Shard) (s : State) : State :=
  if isPaired s && !(isArmed s) && !s.mirror.pull.running then
    let s := modMir s fun m =>
      { m with
        pull := { running := true, step := arg }, shards := shards, pullDone := false, pullFailed := false, cause := 0,
        pullTotal := (shards.map (·.len)).sum, pulled := [] }
    melSend s 0x0D (BitVec.ofNat 64 arg :: shards.map fun e => BitVec.ofNat 64 e.len)
  else mirIllegal rq s

/-- ABORT_PULL (R201). -/
def abortPull (rq : Acc) (s : State) : State :=
  if s.mirror.pull.running then dropPull (modMir s fun m => { m with pull := { m.pull with running := false } }) else mirIllegal rq s

/-- A code of MIRROR_CMD that R200 does not define. -/
def mirBadCmd (rq : Acc) (s : State) : State := (mirIllegal rq s)

/-- PULL_REQ arrives (R196). A decision is applied where it arrives, so that no ROLLBACK waits to be. [DEDUCED, log entry 86] -/
def pullReqGot (step : Nat) (lens : List Nat) (pairSeq : Nat) (tagOk : Bool) : State → State :=
  melRecv 0x0D pairSeq tagOk fun s =>
    let e := s.step.eng
    let served := if mirMode s == 2 then (if s.mirror.heldValid then some s.mirror.heldStep else none) else some e.epochStep
    if (e.phase == .hold || e.phase == .idle) && !e.restoring && e.epochValid && served.map (fun n => (n + 1) % 2 ^ 32) == some (step % 2 ^ 32) then
      mirRead (modMir s fun m => { m with serve := { running := true, step := step }, serveLens := lens })
        s.mirror.shardList.toNat 8192 1 .serve
    else serveRefuse s 13

/-- PULL_CHUNK arrives (R196): it is written to the epoch-0 addresses of the sprout's list. -/
def pullChunkGot (step chunk : Nat) (bytes : List Byte) (pairSeq : Nat) (tagOk : Bool) : State → State :=
  rxFramed 0x0E bytes.length <| melRecv 0x0E pairSeq tagOk fun s =>
    let p := s.mirror.pull
    if !(p.running && p.step == step) then s
    else if chunk > p.chunk then sendAck s step chunk false
    else if chunk < p.chunk then (if p.left = 0 then sendAck s step chunk true else s)
    else
      let segs := (segments (shardPieces s.mirror.shards 0) p.bytes.length bytes.length).filter fun x => x.2.2 != 0
      let s := modMir s fun m =>
        { m with pull := { m.pull with bytes := m.pull.bytes ++ bytes, chunk := m.pull.chunk + 1, left := segs.length } }
      forEach segs (if segs.isEmpty then sendAck s step chunk true else s) fun s (a, o, n) => mirWrite s a .pullWrite ((bytes.drop o).take n)

/-- PULL_END arrives (R197). -/
def pullEndGot (step chunks digest : Nat) (notices : List Notice) (pairSeq : Nat) (tagOk : Bool) : State → State :=
  melRecv 0x0E pairSeq tagOk fun s =>
    let p := s.mirror.pull
    if !(p.running && p.step == step) then s
    else if digest == Config.sha3_384 p.bytes && chunks == p.chunk then
      modMir s fun m => { m with pull := { m.pull with running := false }, pullDone := true, pulled := notices }
    else pullFails s 15

/-- PULL_REFUSE arrives (R196). -/
def pullRefused (cause pairSeq : Nat) (tagOk : Bool) : State → State :=
  melRecv 0x0E pairSeq tagOk fun s => pullFails s cause

/-- What a chip-level reset leaves in the receive area: what it holds now, or what an earlier reset left and no RECOVER has opened
(R202). -/
def rxLeft (s : State) : Option RxKept :=
  let m := s.mirror
  if m.heldValid || !m.notices.isEmpty then
    some { base := m.rxBase, size := m.rxSize, valid := m.heldValid, step := m.heldStep, slot := m.heldSlot, lens := m.heldLens, notices := m.notices }
  else m.kept

/-- RECOVER has succeeded: the receive area can be read again where its place is the same and the storage key has survived (R202). [DEDUCED, log entry 183] -/
def rxRecovered (s : State) : State :=
  match s.mirror.kept with
  | none => s
  | some k =>
    if s.sec.mst.isSome && k.base == s.mirror.rxBase && k.size == s.mirror.rxSize then
      modMir s fun m =>
        { m with kept := none, heldValid := k.valid, heldStep := k.step, heldSlot := k.slot, heldLens := k.lens, notices := k.notices }
    else s

/-- MIRROR_CHECK_ACK (R202). -/
def mirCheckAck (v : Word) (s : State) : State :=
  modMir s fun m => { m with checkReg := heldAck m.checkReg v }

/-- A value of MIRROR_MODE as it is stored (R200). -/
def mirModeStore (v : Word) : Word :=
  let b := fld v 15 8
  pack [(8, 8, if b = 0 ∨ (10 ≤ b ∧ b ≤ 100) then b else 90), (0, 2, if fld v 1 0 = 3 then 0 else fld v 1 0)]

/-- MIRROR_STATUS (R200). -/
def mirrorStatus (s : State) : Word :=
  let m := s.mirror
  pack [(60, 4, linkCode m.link), (56, 4, m.cause), (52, 4, if isPaired s then m.negMinor else 0), (51, 1, b2n m.out.running),
    (50, 1, b2n m.inb.running), (49, 1, b2n m.serve.running), (48, 1, b2n m.pull.running), (47, 1, b2n m.pullDone),
    (46, 1, b2n m.pullFailed), (45, 1, b2n m.check.open_), (0, 32, m.checkStep)]

/-- The MIRROR block (R200), by window offset. -/
def viewMirror (s : State) (off : Nat) : Option Word :=
  let m := s.mirror
  let h := m.lastHello
  let mib (n : Nat) : Nat := n / 2 ^ 20
  match off with
  | 0x060000 => some m.modeReg
  | 0x060008 => some m.peer
  | 0x060010 => some 0
  | 0x060018 => some (mirrorStatus s)
  | 0x060020 => some (pack [(48, 16, h.chip), (32, 16, h.rank), (16, 16, h.compat), (1, 8, h.inst), (0, 1, h.slot)])
  | 0x060028 => some h.digest64
  | 0x060030 => some (pack [(40, 8, h.major), (32, 8, h.minor), (0, 24, h.ipVersion)])
  | 0x060038 => some m.shardList
  | 0x060040 => some m.rxBase
  | 0x060048 => some m.rxSize
  | 0x060050 => some (heldView m.checkReg)
  | 0x060058 => some 0
  | 0x060060 => some (pack [(32, 32, mib m.out.acked), (0, 32, mib m.inb.bytes.length)])
  | 0x060068 => some (pack [(63, 1, b2n m.heldValid), (0, 32, m.heldStep)])
  | 0x060070 => some (pack [(32, 32, mib m.pull.bytes.length), (0, 32, mib m.pullTotal)])
  | 0x060078 => some (pack [(32, 32, m.passed), (16, 16, m.failed), (0, 16, m.uncompared)])
  | _ => none

end Sys2Proof.Machine
end

