-- ==== Sys2Proof/Machine/Quarantine.lean ====
section
/-! DEFINITION. Positions, structural tests and self-tests, quarantine, spares, adoption and reconciliation
(R203–R233). -/
namespace Sys2Proof.Machine

/-- The mapping of a logical number. -/
def remapOf (s : State) (l : Nat) : Remap := sget {} s.qrs.remap l

/-- Rewrite the unit. -/
def modQrs (s : State) (f : Qrs → Qrs) : State := { s with qrs := f s.qrs }

/-- Rewrite the mapping of a logical number. -/
def updRemap (s : State) (l : Nat) (f : Remap → Remap) : State :=
  modQrs s fun q => { q with remap := supd {} q.remap l f }

/-- A capture of access type TAP about an operation (R259). -/
def raiseTap (s : State) (code n : Nat) (d : Desc) : State :=
  raise s
    { code := code, access := 7, master := n, addr := opIdent d, part := partOf s n, ctx := some d.ctx, tile := some n }

/-- A capture of the unit about a position (R491). -/
def raisePos (s : State) (code n : Nat) : State := raiseI s code 0 n (partOf s n)

/-- The fence of a position (R206). -/
def fenced (s : State) (n : Nat) : Bool := (pos s n).host != .inService || (pos s n).testing.isSome

/-- A spare position that has not left service. -/
def spareNow (h : HostState) : Bool := h == .spareFree || h == .spareReserved

/-- An event fills QRS_EVENT and is posted as a TILE record (R230, R231). -/
def qrsEvent (s : State) (kind logical from_ reason : Nat) (spare : Option Nat) (flag : Nat := 0) : State :=
  let w := pack [(60, 3, kind), (48, 12, logical), (31, 1, b2n spare.isSome), (16, 12, from_), (12, 4, reason),
    (0, 12, spare.getD 0)]
  let was := s.qrs.event.valid
  let s := modQrs s fun q => { q with event := heldPostAll q.event w 0 (stamp s) }
  let s := record s 7 0 [w, BitVec.ofNat 64 flag]
  if was then s else latch s 1 4

/-! ### Adoption (R222–R225, R248, R417) -/

/-- The checker of a position serves: in service, riser up, cluster powered, its tile group served. -/
def chkServes (s : State) (n : Nat) : Bool :=
  (pos s n).chk == .inService && riserUp s n && !(clusterOut s n) && groupServes s n

/-- The host position that checker `a` adopts. -/
def adoptedBy (s : State) (a : Nat) : Option Nat :=
  (s.tiles.find? fun p => p.2.pos.adopter == some a).map (·.1)

/-- The neighbours of a position, the first one first (R114, R343). -/
def neighbours (s : State) (n : Nat) : List Nat :=
  let w := if s.build.col n = 0 then [] else [n - 1]
  let e := if s.build.col n + 1 = s.build.cols then [] else [n + 1]
  if firstWest s n then w ++ e else e ++ w

/-- A checker may adopt (R222). -/
def eligible (s : State) (a : Nat) : Bool := chkServes s a && (adoptedBy s a).isNone

/-- An adoption begins. -/
def beginAdopt (s : State) (n a : Nat) (quiet : Bool) : State :=
  let s := post s (.flush a)
  let s := modPos s n fun p => { p with adopter := some a, orphan := false, orphanLoad := false }
  let s := ring s a 8 true (1 + n * 2 ^ 16)
  if quiet then s else qrsEvent s 3 (logicalNum s n) n 0 (some a)

/-- An adoption ends (R224); reconciliation posts no QRS_EVENT (R227). -/
def endAdoptBy (s : State) (n : Nat) (quiet : Bool) : State :=
  match (pos s n).adopter with
  | none => s
  | some a =>
    let s := modPos (post s (.flush a)) n fun p => { p with adopter := none }
    let s := ring s a 8 true (n * 2 ^ 16)
    if quiet then s else qrsEvent s 4 (logicalNum s n) n 0 (some a)

/-- An adoption ends (R224). -/
def endAdopt (s : State) (n : Nat) : State := endAdoptBy s n false

/-- The adopter the block chooses for a host position (R222). -/
def chooseAdopter (s : State) (n : Nat) (pref : Option Nat) : Option Nat :=
  (pref.toList ++ neighbours s n).find? (eligible s)

/-! ### Quarantine and spares (R216–R221, R226) -/

/-- The spare that R218 takes for a partition. -/
def chooseSpare (s : State) (p : Nat) : Option Nat :=
  let ps := (partPositions s p).filter fun n => (pos s n).host == .spareFree && (pos s n).chk == .inService
  match ps.find? fun n => (pos s n).testing.isNone with
  | some n => some n
  | none => ps.head?

/-- A spare, or a VACANT mark, is reserved for a logical number of partition p (R218). -/
def reserveSpare (s : State) (l p : Nat) : State :=
  match chooseSpare s p with
  | some x =>
    updRemap (modPos s x fun q => { q with host := .spareReserved }) l fun r =>
      { r with pending := true, toVacant := false, pendPhys := x }
  | none => updRemap s l fun r => { r with pending := true, toVacant := true, pendPhys := 0 }

/-- PARTITION_DEGRADED (R226, R491). -/
def degrade (s : State) (p l : Nat) : State :=
  let s := modQrs s fun q => { q with degraded := q.degraded ||| 2 ^ p }
  raiseI s (fcode 5 2 6) 0 (p + l * 2 ^ 16) (some p)

/-- What a running structural test of a position leaves when it is stopped. -/
def stopTest (s : State) (n : Nat) : State :=
  match (pos s n).testing with
  | none => s
  | some by_ =>
    let s := modPos s n fun p =>
      { p with testing := none, structRes := 3, lastTime := now s / 2 ^ 20 % 2 ^ 32, wir := if p.host == .inService then 1 else 2 }
    post s (.testEnd n by_ 3)

/-- A host position without its own checker is adopted, or orphaned (R222, R223, R248, R417). `quar` quarantines it. -/
def adoptOrOrphan (quar : State → Nat → State) (s : State) (n : Nat) (pref : Option Nat) (quiet load : Bool) : State :=
  match chooseAdopter s n pref with
  | some a => beginAdopt s n a quiet
  | none =>
    if load || clusterOut s n || !(groupServes s n) then modPos s n fun p => { p with orphan := true, orphanLoad := true }
    else
      let s := raisePos s (fcode 5 2 5) n
      let s := if quiet then s else qrsEvent s 6 (logicalNum s n) n 0 none
      if polOrphanUnscreened s then modPos s n fun p => { p with orphan := true, orphanLoad := false } else quar s n

/-- The pending change of a logical number takes effect (R219, R226). -/
def activateOne (quar : State → Nat → State) (s : State) (l : Nat) : State :=
  let r := remapOf s l
  if !r.pending then s
  else if r.toVacant then
    let p := part s r.phys
    let s := updRemap s l fun r => { r with state := 2, pending := false, toVacant := false, phys := 0 }
    qrsEvent (degrade s p l) 2 l r.phys 0 none
  else
    let x := r.pendPhys
    let s := stopTest s x
    let s := modPos s x fun p => { p with host := .inService, logical := some l, wir := 1 }
    let s := updRemap s l fun _ => { state := 1, phys := x }
    let s := qrsEvent (post (post s (.flush r.phys)) (.flush x)) 1 l r.phys 0 (some x)
    if chkServes s x then s else adoptOrOrphan quar s x none false false

/-- A position is on the quarantine list, or will be once eMRAM takes writes (R228). -/
def listed (s : State) (n : Nat) : Bool := s.gran.qlist.contains n || s.qrs.listDue.contains n

/-- A position goes to the quarantine list in eMRAM, an index write (R228, R306). -/
def listWrite (s : State) (n : Nat) : State :=
  indexWrite (modGran s fun g => { g with qlist := g.qlist ++ [n], genIndex := g.genIndex + 1 })

/-- The same, held back while eMRAM writes are inhibited (R306, R412). -/
def listPut (s : State) (n : Nat) : State :=
  if s.supply.inhibit then { s with qrs := { s.qrs with listDue := s.qrs.listDue ++ [n] } } else listWrite s n

/-- The entries held back are written. -/
def listFlush (s : State) : State :=
  forEach s.qrs.listDue { s with qrs := { s.qrs with listDue := [] } } listWrite

/-- A position is quarantined (R217, R220). `act` is what follows at once with ARMED = 0. -/
def quarantineWith (act : State → Nat → State) (s : State) (n reason : Nat) : State :=
  let p := pos s n
  if !(p.host == .inService || spareNow p.host) then s
  else
    let s := endAdopt s n
    let full := decide (s.gran.qlist.length + s.qrs.listDue.length ≥ 256)
    let s := if full || listed s n then s else listPut s n
    let s := modPos s n fun p =>
      { p with host := .quarantined, qReason := reason, orphan := false, orphanLoad := false, wir := 2 }
    match p.host with
    | .inService =>
      let l := p.logical.getD 0
      let s := if (remapOf s l).pending then s else reserveSpare s l (part s n)
      let r := remapOf s l
      let s := qrsEvent s 0 l n reason (if r.toVacant then none else some r.pendPhys) (b2n full)
      if isArmed s then s else act s l
    | .spareReserved =>
      match s.qrs.remap.find? fun x => x.2.pending && !x.2.toVacant && x.2.pendPhys == n with
      | some (l, _) =>
        let s := reserveSpare s l (part s n)
        let r := remapOf s l
        let s := qrsEvent s 0 l n reason (if r.toVacant then none else some r.pendPhys) (b2n full)
        if isArmed s then s else act s l
      | none => s
    | _ => qrsEvent s 0 0 n reason none (b2n full)

/-- Quarantine, with fuel for a chain in which each spare taken is orphaned in turn. -/
def quarFuel : Nat → State → Nat → Nat → State
  | 0, s, n, reason => quarantineWith (fun s _ => s) s n reason
  | f + 1, s, n, reason => quarantineWith (activateOne fun s x => quarFuel f s x 4) s n reason

/-- A position is quarantined with a reason (R217). -/
def quarantine (s : State) (n reason : Nat) : State := quarFuel s.build.spares s n reason

/-- A host position in service that no checker screens (R222). -/
def unserved (s : State) (n : Nat) : Bool :=
  let p := pos s n
  p.host == .inService && p.adopter.isNone && !p.orphan && !(chkServes s n)

/-- Checkers are lost at the same time: by failing, by their riser, their supply, or their tile group (R14, R222, R224, R417).
What is open on them closes, but where a tile group lets its beats drop (R341). The host positions that they served look for a
checker in ascending physical order; of those that find none the lower logical number goes first (R218). `pref` names a position
and the neighbour that screened its concluding round (R118). -/
def loseCheckers (s : State) (ns : List Nat) (pref : Option (Nat × Nat)) : State :=
  let s := forEach ns s fun s n =>
    let s := if clusterOut s n then
        modObs (modPos s n fun p => { p with vddcLost := true }) n fun o => { o with frozen := true }
      else s
    if groupServes s n then post s (.closeLost n) else s
  let load := ns.any fun n => !(groupServes s n)
  let adopted := ns.filterMap (adoptedBy s)
  let s := forEach adopted s endAdopt
  let hosts := s.build.positions.filter fun n => (ns.contains n || adopted.contains n) && unserved s n
  let mine (n : Nat) : Option Nat := (pref.filter fun x => x.1 == n).map (·.2)
  let s := forEach hosts s fun s n => match chooseAdopter s n (mine n) with
    | some a => beginAdopt s n a false
    | none => s
  forEach (byLogical s (hosts.filter (unserved s))) s fun s n =>
    if unserved s n then adoptOrOrphan (fun s n => quarantine s n 4) s n (mine n) false load else s

/-- Every orphan that a checker can now take is adopted, or served again by its own (R223, R248, R341). -/
def adoptOrphans (s : State) : State :=
  forEach ((s.tiles.filter fun p => p.2.pos.orphan).map (·.1)) s fun s n =>
    if chkServes s n then modPos s n fun p => { p with orphan := false, orphanLoad := false }
    else match chooseAdopter s n none with
      | some a => beginAdopt s n a false
      | none => s

/-- The checker of a position is back in service (R224, R225, R248, R417). -/
def regainChecker (s : State) (n : Nat) : State :=
  if !(chkServes s n) then s
  else
    let lost := (pos s n).vddcLost
    let s := modPos s n fun p => { p with vddcLost := false, orphan := false, orphanLoad := false }
    let s := if lost then
        modObs (post (post s (.flush n)) (.chkClear n)) n fun o => { o with frozen := false }
      else s
    adoptOrphans (endAdopt s n)

/-- The activation point (R216, R219, R225, R226). [DEDUCED, log entry 89] -/
def activation (s : State) : State :=
  let s := forEach ((s.qrs.remap.filter fun r => r.2.pending).map (·.1)) s
    (activateOne fun s x => quarantine s x 4)
  forEach ((s.tiles.filter fun t => t.2.pos.chkReturn).map (·.1)) s fun s n =>
    regainChecker (modPos s n fun p => { p with chkReturn := false, chk := .inService }) n

/-- A VACANT number of a partition takes a spare when a reload of TOPOLOGY finds one, after disarm (R226). -/
def vacantRetry (s : State) (p : Nat) : State :=
  if isArmed s then s
  else
    let ls := (s.qrs.remap.filter fun r => r.2.state == 2).map (·.1)
    let mine (s : State) (l : Nat) : Bool := (partPositions s p).any fun n => !(isSpare s n) && logicalOf s n == l
    let s := forEach ls s fun s l =>
      if mine s l then match chooseSpare s p with
        | some _ => activateOne (fun s x => quarantine s x 4) (reserveSpare s l p) l
        | none => s
      else s
    if (ls.any fun l => mine s l && (remapOf s l).state == 2) || !(nbit s.qrs.degraded p) then s
    else modQrs s fun q => { q with degraded := q.degraded - 2 ^ p }

/-! ### Tests (R207–R211, R214, R215) -/

/-- A test of a bring-up command ends (R464): 1 PASS, 3 ABORTED, others failed. -/
def bringTest (s : State) (n code : Nat) : State :=
  let b := s.bring
  if !b.busy || !(b.todo.contains n) then s
  else
    let todo := b.todo.filter (· != n)
    let b := { b with
      todo := todo, busy := !(todo.isEmpty), result := if todo.isEmpty then 1 else b.result,
      passed := if code == 1 then b.passed + 1 else b.passed,
      failed := if code == 1 || code == 3 then b.failed else b.failed + 1,
      aborted := if code == 3 then b.aborted + 1 else b.aborted }
    { s with bring := b }

/-- The running QRS command ends with a result (R230). -/
def qrsEnds (s : State) (n code : Nat) : State :=
  if s.qrs.busy && s.qrs.tile == n then modQrs s fun q => { q with busy := false, result := code } else s

/-- Who started a test is told of its end. -/
def testEnded (s : State) (n : Nat) (by_ : TestBy) (code : Nat) : State :=
  match by_ with
  | .cmd => qrsEnds s n code
  | .bringup => bringTest s n code
  | .arb => post s (.testEnd n .arb code)
  | .auto => s

/-- A structural test may start on a position (R210). -/
def structAllowed (s : State) (n : Nat) : Bool :=
  let p := pos s n
  decide (n < s.build.tiles) && regActive s 1 && regActive s (16 + part s n) && p.testing.isNone &&
    (match p.host with
     | .unreconciled | .quarantined | .bad | .spareFree => true
     | .inService => !(isArmed s) || s.step.eng.phase == .idle || s.step.eng.phase == .hold
     | .spareReserved => false)

/-- The control word of a pattern read. -/
def patCtl (len : Nat) : Word := pack [(0, 40, len)]

/-- Tests take the pattern read that runs, or start one (R208, R209). -/
def readPattern (s : State) (n : Nat) : State :=
  if s.qrs.pattern.reading then
    modQrs s fun q => { q with pattern := { q.pattern with users := q.pattern.users ++ [n] } }
  else
    let s := modQrs s fun q => { q with pattern := { q.pattern with reading := true, header := true, bytes := [], users := [n] } }
    dmaPost 7 s.qrs.patternBase (pack [(60, 4, 2)]) (patCtl 64) .pattern [] s

/-- A structural test starts (R209). -/
def structStart (s : State) (n : Nat) (by_ : TestBy) : State :=
  readPattern (modPos s n fun p => { p with testing := some by_, wir := 3 }) n

/-- A structural test ends: 1 PASS, 2 FAIL, 3 ABORTED, 4 TIMEOUT (R209, R211). -/
def structEnds (s : State) (n code : Nat) : State :=
  match (pos s n).testing with
  | none => s
  | some by_ =>
    let s := modPos s n fun p =>
      { p with testing := none, structRes := code, lastTime := now s / 2 ^ 20 % 2 ^ 32, wir := if p.host == .inService then 1 else 2 }
    let s := modQrs s fun q => { q with pattern := { q.pattern with users := q.pattern.users.filter (· != n) } }
    let s := ring s n 11 false code
    let s := if code == 2 then raisePos s (fcode 5 2 1) n else if code == 4 then raisePos s (fcode 5 1 2) n else s
    let s := if code == 2 || code == 4 then quarantine s n 1 else s
    testEnded s n by_ code

/-- Every test that waits for the pattern read is aborted (R208). -/
def abortUsers (s : State) : State :=
  let us := s.qrs.pattern.users
  let s := modQrs s fun q => { q with pattern := { q.pattern with reading := false, header := false, bytes := [], users := [] } }
  forEach us s fun s n => structEnds s n 3

/-- A header that a pattern set has: its MAGIC, and PAR_WIDTH the parallel width of TILE_TEST, 32 (R208, R405). [DESIGN CHOICE, log entry 189] -/
def patternOk (p : Pattern) (bs : List Byte) : Bool :=
  nthW (bytesWords bs) 0 == BitVec.ofNat 64 0x4B52545354310001 && p.parWidth == 32

/-- The bytes of a pattern set by its header: the header and PATTERN_COUNT patterns of SHIFT_LEN shifts. -/
def patternSize (p : Pattern) : Nat := 64 + ceilDiv (p.count * p.shiftLen * p.parWidth) 8

/-- The fields of the header (R208). -/
def patternHeader (p : Pattern) (bs : List Byte) : Pattern :=
  let w (i : Nat) := nthW (bytesWords bs) i
  { p with
    count := fld (w 1) 31 0, shiftLen := fld (w 1) 63 32, opcode := fld (w 2) 15 0, wirLen := fld (w 2) 23 16,
    parWidth := fld (w 2) 31 24, expected := pack [(0, 32, fld (w 2) 63 32), (32, 32, fld (w 3) 31 0)] }

/-- Bytes of the pattern set arrive. -/
def patternData (s : State) (bs : List Byte) : State :=
  modQrs s fun q => { q with pattern := { q.pattern with bytes := q.pattern.bytes ++ bs } }

/-- The whole set has been read: its digest is compared, and its EXPECTED_SIG judges the tests that waited for it (R208, R209). -/
def patternCheck (s : State) : State :=
  let p := s.qrs.pattern
  if Config.sha3_384 (p.bytes.take (patternSize p)) == digestAt (region s 1).content 8 then
    let s := forEach p.users s fun s n => modPos s n fun q => { q with expected := p.expected }
    modQrs s fun q => { q with pattern := { q.pattern with valid := true, reading := false, bytes := [], users := [] } }
  else abortUsers (raiseI s (fcode 5 2 0) 0)

/-- A descriptor of the pattern read has ended (R208, R323). What a header that is none leads to the spec does not say: the
tests that use the read end ABORTED. [DESIGN CHOICE, log entry 189] -/
def patternDone (s : State) (d : DmaDesc) : State :=
  let p := s.qrs.pattern
  if !p.reading then s
  else if d.state != 3 then abortUsers s
  else if p.header then
    let p := patternHeader { p with header := false } p.bytes
    let s := modQrs s fun q => { q with pattern := p }
    if !(patternOk p p.bytes) then abortUsers s else
    let rest := ceilDiv (patternSize p - 64) 64 * 64
    if rest = 0 then patternCheck s
    else dmaPost 7 (s.qrs.patternBase + 64) (pack [(60, 4, 2)]) (patCtl rest) .pattern [] s
  else patternCheck s

/-- Response words paired into 64-bit words, the first of a pair low; an odd one is filled with 0 (R209). -/
def pairWords : List (BitVec 32) → List Word
  | a :: b :: l => pack [(0, 32, a.toNat), (32, 32, b.toNat)] :: pairWords l
  | [a] => [pack [(0, 32, a.toNat)]]
  | [] => []

/-- The signature of the response words of all patterns (R107, R209). -/
def structSig (l : List (BitVec 32)) : Word := foldSigs (BitVec.allOnes 64) (pairWords l)

/-- STRUCT_TEST_DONE (R209): the response words of a position whose patterns have been read. -/
def structDone (n : Nat) (responses : List (BitVec 32)) (s : State) : State :=
  if (pos s n).testing.isSome && !(s.qrs.pattern.users.contains n) then
    structEnds s n (if structSig responses == (pos s n).expected then 1 else 2)
  else s

/-- A STEP marker that arrives aborts the structural tests of positions in service (R210). -/
def markerAborts (s : State) : State :=
  forEach ((s.tiles.filter fun t => t.2.pos.testing.isSome && t.2.pos.host == .inService).map (·.1)) s
    fun s n => structEnds s n 3

/-- A checker holds neither an open operation nor a captured pip (R215). -/
def chkIdle (s : State) (n : Nat) : Bool :=
  let c := (tile s n).chk
  !(c.ops.any opOpen) && c.pips.isEmpty && c.runq.isEmpty

/-- A segment of a self-test starts when the checker is idle; the first one flushes its store (R215). -/
def segmentTry (s : State) (n : Nat) : State :=
  let p := pos s n
  if p.selfTest.isNone || p.segment || !(chkIdle s n) then s
  else
    let s := if p.segFlushed then s else post s (.flush n)
    modPos s n fun p => { p with segment := true, segFlushed := true }

/-- A self-test may start on a checker (R210). -/
def selfAllowed (s : State) (n : Nat) : Bool :=
  decide (n < s.build.tiles) && regActive s 1 && regActive s (16 + part s n) && (pos s n).selfTest.isNone

/-- A self-test starts (R215). -/
def selfStart (s : State) (n : Nat) (by_ : TestBy) : State :=
  segmentTry (modPos s n fun p => { p with selfTest := some by_, segment := false, segFlushed := false }) n

/-- A checker fails (R215, R222). -/
def checkerFails (s : State) (n : Nat) (pref : Option (Nat × Nat)) : State :=
  let s := modPos s n fun p => { p with chk := .failed, chkReturn := false }
  let s := qrsEvent s 5 (logicalNum s n) n 0 none
  let s := if spareNow (pos s n).host then quarantine s n 4 else s
  loseCheckers s [n] pref

/-- A self-test ends: 1 PASS, 2 FAIL, 3 ABORTED, 6 INCOMPLETE (R214, R215, R225). Whoever started it, an arbitration that waits
for one of the checker hears of it (R117). [DEDUCED, log entry 146] -/
def selfEnds (s : State) (n code unit : Nat) : State :=
  match (pos s n).selfTest with
  | none => s
  | some by_ =>
    let back := (pos s n).returning && code == 1
    let s := modPos s n fun p =>
      { p with
        selfTest := none, segment := false, segFlushed := false, returning := false, selfRes := code,
        selfUnit := if code == 2 then unit else 0, lastTime := now s / 2 ^ 20 % 2 ^ 32,
        chkReturn := p.chkReturn || back }
    let s := ring s n 11 false code
    let s := if code == 2 then checkerFails (raisePos s (fcode 5 2 4) n) n none
      else if code == 6 then raisePos s (fcode 5 1 3) n
      else if back && !(isArmed s) then activation s else s
    testEnded (if by_ == .arb then s else post s (.testEnd n .arb code)) n by_ code

/-- The first unit that fails in a self-test: each segment runs clean and then injected, and a run is 0 for a pass or the unit
that fails (R214). -/
def firstFail : List Nat → List Nat → Option Nat
  | c :: cs, [] => if c != 0 then some c else firstFail cs []
  | c :: cs, i :: is => if c != 0 then some c else if i != 0 then some i else firstFail cs is
  | [], _ => none

/-- SELFTEST_DONE (R214): what the clean and the injected runs of a self-test's segments have found. A self-test has 64
segments and passes when both runs of each do; it ends in one, so not while its checker has other work (R215), and not without
its riser. -/
def selfDone (n : Nat) (clean injected : List Nat) (s : State) : State :=
  if !(riserUp s n) || !(pos s n).segment then s
  else match firstFail clean injected with
    | some unit => selfEnds s n 2 unit
    | none => if clean.length = 64 && injected.length = 64 then selfEnds s n 1 0 else s

/-- The automatic tests of a spare start: of a free one's host tile, and of its checker (R210, R215). -/
def spareTests (s : State) (n : Nat) : State :=
  let s := modPos s n fun p => { p with autoWait := false }
  let s := if (pos s n).host == .spareFree && structAllowed s n then structStart s n .auto else s
  if spareNow (pos s n).host && selfAllowed s n then selfStart s n .auto else s

/-- Whether the region of a position's tile group is ACTIVE (R210). -/
def testsOpen (s : State) (n : Nat) : Bool := regActive s 1 && regActive s (16 + part s n)

/-- SPARE_TEST_INTERVAL (R210, R215): while the region of its tile group is not ACTIVE, the tests wait. -/
def spareInterval (n : Nat) (s : State) : State :=
  if fld s.qrs.testCfg 63 32 == 0 || !(spareNow (pos s n).host) then s
  else
    let s := latch s 1 3
    if testsOpen s n then spareTests s n else modPos s n fun p => { p with autoWait := true }

/-- The automatic tests that waited start once their region is ACTIVE (R210). -/
def spareSettle (s : State) : State :=
  forEach ((s.tiles.filter fun t => t.2.pos.autoWait && testsOpen s t.1).map (·.1)) s spareTests

/-! ### Commands (R230) -/

/-- A refusal of a QRS command. [DEDUCED, log entry 90] -/
def qrsIllegal (rq : Acc) (tag tile : Nat) (s : State) : State :=
  let s := raiseK s (fcode 5 1 9) rq 0x090008
  if s.qrs.busy then s else modQrs s fun q => { q with result := 5, tag := tag % 2 ^ 16, tile := tile % 2 ^ 16 }

/-- A command runs, or has run at once. -/
def qrsTakes (s : State) (cmd tag tile : Nat) (busy : Bool) (result : Nat) : State :=
  modQrs s fun q => { q with busy := busy, busyCmd := cmd, result := result, tag := tag % 2 ^ 16, tile := tile % 2 ^ 16 }

/-- QRS_CMD FENCE (R217, R230). -/
def qrsFence (rq : Acc) (l tag : Nat) (s : State) : State :=
  if s.qrs.busy || (remapOf s l).state != 1 then qrsIllegal rq tag l s
  else quarantine (qrsTakes s 1 tag l false 1) (remapOf s l).phys 3

/-- QRS_CMD STRUCT (R210, R230). -/
def qrsStruct (rq : Acc) (n tag : Nat) (s : State) : State :=
  if s.qrs.busy || s.bring.busy || !(structAllowed s n) then qrsIllegal rq tag n s
  else structStart (qrsTakes s 2 tag n true 0) n .cmd

/-- QRS_CMD SELFTEST (R215, R230). -/
def qrsSelftest (rq : Acc) (n tag : Nat) (s : State) : State :=
  if s.qrs.busy || s.bring.busy || !(selfAllowed s n) then qrsIllegal rq tag n s
  else selfStart (qrsTakes s 3 tag n true 0) n .cmd

/-- A bit of the fuse map: the host half, or the checker half, of a position (R399). -/
def fuseBad (s : State) (n : Nat) (chk : Bool) : Bool :=
  s.bring.fuseOk && bitOf (nthW s.shell.fuseWords (n / 32)) (2 * (n % 32) + b2n chk)

/-- OVR_HOST or OVR_CHK of a position (R343). -/
def overrideOf (s : State) (n : Nat) (chk : Bool) : Nat :=
  let w := (tgRecord s n).1
  if chk then fld w 9 8 else fld w 5 4

/-- QRS_CMD RETURN_CHECKER (R225, R230). -/
def qrsReturn (rq : Acc) (n tag : Nat) (s : State) : State :=
  if s.qrs.busy || s.bring.busy || !(selfAllowed s n) || (pos s n).chk != .failed ||
      (fuseBad s n true && overrideOf s n true != 1) then qrsIllegal rq tag n s
  else
    let s := modPos (qrsTakes s 4 tag n true 0) n fun p => { p with returning := true }
    selfStart s n .cmd

/-- QRS_CMD CANCEL (R230). -/
def qrsCancel (rq : Acc) (tile tag : Nat) (s : State) : State :=
  if !s.qrs.busy then qrsIllegal rq tag tile s
  else if s.qrs.busyCmd == 2 then structEnds s s.qrs.tile 3
  else selfEnds (modPos s s.qrs.tile fun p => { p with returning := false }) s.qrs.tile 3 0

/-- A reserved code of QRS_CMD. -/
def qrsBadCmd (rq : Acc) (tag tile : Nat) (s : State) : State := (qrsIllegal rq tag tile s)

/-! ### Reconciliation (R227) -/

/-- How one half is judged: bad, OVERRIDE, a field defect, a disagreement. -/
def judgeHalf (fuse testBad : Bool) (ovr : Nat) : Bool × Bool × Bool × Bool :=
  if ovr == 2 then (true, false, false, false)
  else if !fuse then (testBad, false, testBad, false)
  else if testBad then (true, false, false, false)
  else (ovr != 1, ovr == 1, false, true)

/-- One half is judged, with its captures; whether it is bad, and the state. -/
def reconHalf (s : State) (n : Nat) (chk : Bool) : Bool × State :=
  let p := pos s n
  let testBad := if chk then p.selfRes != 1 else p.structRes != 1 || listed s n
  let (bad, ov, fd, dis) := judgeHalf (fuseBad s n chk) testBad (overrideOf s n chk)
  let a := n + 2 ^ 16 * b2n chk
  let s := if fd then raiseI s (fcode 5 1 7) 0 a (partOf s n) else s
  let s := if dis then raiseI s (fcode 5 0 8) 0 a (partOf s n) else s
  (bad, modPos s n fun p => { p with override := p.override || ov, fieldDefect := p.fieldDefect || fd })

/-- One position is judged and placed (R227). -/
def reconPos (s : State) (n : Nat) : State :=
  let s := modPos (endAdoptBy s n true) n fun p =>
    { p with orphan := false, orphanLoad := false, override := false, fieldDefect := false,
             chkReturn := false, logical := none }
  let (hb, s) := reconHalf s n false
  let (cb, s) := reconHalf s n true
  let spare := isSpare s n
  let bad := hb || (spare && cb)
  let s := modPos s n fun p =>
    { p with
      chk := if cb then .failed else .inService, host := if bad then .bad else if spare then .spareFree else .inService,
      logical := if bad || spare then none else some (logicalOf s n), wir := if bad then 2 else if spare then p.wir else 1 }
  if bad || spare then s else updRemap s (logicalOf s n) fun _ => { state := 1, phys := n }

/-- A position that reconciliation leaves orphaned is BAD (R227). -/
def reconBad (s : State) (n : Nat) : State :=
  let l := logicalNum s n
  let s := modPos s n fun p => { p with host := .bad, logical := none, wir := 2 }
  updRemap s l fun _ => {}

/-- A logical number of partition p without a position takes a spare or is VACANT, with fuel for spares that are left orphaned
(R218, R222, R227). -/
def reconTake : Nat → State → Nat → Nat → State
  | 0, s, p, l => degrade (updRemap s l fun _ => { state := 2 }) p l
  | f + 1, s, p, l => match chooseSpare s p with
    | some x =>
      let s := modPos (stopTest s x) x fun q => { q with host := .inService, logical := some l, wir := 1 }
      let s := updRemap s l fun _ => { state := 1, phys := x }
      let s := if chkServes s x then s else adoptOrOrphan reconBad s x none true false
      if (remapOf s l).state == 1 then s else reconTake f s p l
    | none => degrade (updRemap s l fun _ => { state := 2 }) p l

/-- A logical number without a position takes a spare or is VACANT (R218, R227). -/
def reconFill (s : State) (l : Nat) : State :=
  if (remapOf s l).state == 1 then s
  else match s.build.positions.find? fun n => !(isSpare s n) && logicalOf s n == l with
    | none => s
    | some n => reconTake (s.build.spares + 1) s (part s n) l

/-- RECON_STATUS (R231). -/
def reconCounts (s : State) : Word :=
  let halves := s.build.positions.flatMap fun n => [(n, false), (n, true)]
  let tb (x : Nat × Bool) : Bool :=
    if x.2 then (pos s x.1).selfRes != 1 else (pos s x.1).structRes != 1 || listed s x.1
  let k (f : Nat × Bool → Bool) : Nat := min (halves.filter f).length 0xFFFF
  pack [(48, 16, k fun x => fuseBad s x.1 x.2), (32, 16, k tb), (16, 16, k fun x => !(fuseBad s x.1 x.2) && tb x),
    (0, 16, k fun x => fuseBad s x.1 x.2 && !(tb x))]

/-- Reconciliation (R227). -/
def reconcile (s : State) : State :=
  let w := reconCounts s
  let s := modQrs s fun q => { q with remap := [], degraded := 0 }
  let s := forEach s.build.positions s reconPos
  let s := forEach s.build.positions s fun s n =>
    if (pos s n).host == .inService && !(chkServes s n) then adoptOrOrphan reconBad s n none true false else s
  let s := forEach (upto s.build.logical) s reconFill
  modQrs s fun q => { q with reconDone := true, reconStatus := w }

/-- QRS_CMD RECONCILE (R227, R230, R339, R399, R464). -/
def qrsReconcile (rq : Acc) (tile tag : Nat) (s : State) : State :=
  if s.qrs.busy || s.bring.busy || isArmed s || !s.bring.fuseOk || !(regActive s 1) then qrsIllegal rq tag tile s
  else reconcile (qrsTakes s 5 tag tile false 1)

/-- QRS_EVENT_ACK (R231). -/
def qrsAck (v : Word) (s : State) : State :=
  (modQrs s fun q => { q with event := heldAck q.event v })

/-! ### Known answers (R212, R213) -/

/-- The entry of the known-answer table for an operation: its A, B and C signatures. -/
def katEntry (s : State) (d : Desc) : Option (Word × Word × Word) :=
  let ws := (region s 1).content
  let w0 := nthW ws 0
  if !(topoUsable s) || d.ctx != fld w0 31 0 then none
  else ((upto (fld w0 39 32)).find? fun k => fld (nthW ws (44 + 4 * k)) 31 0 == d.tag).map fun k =>
    (nthW ws (45 + 4 * k), nthW ws (46 + 4 * k), nthW ws (47 + 4 * k))

/-- A known-answer operation closes without signatures to compare (R213). -/
def uncompared (s : State) : State := modQrs s fun q => { q with katUncompared := satAdd 16 q.katUncompared 1 }

/-- An operation that no checker screens closes (R213). [DEDUCED, log entry 70] -/
def katUnseen (s : State) (d : Desc) : State := if (katEntry s d).isSome then uncompared s else s

/-- KAT_COMPARE (R213): a closed operation of host position n. [DEDUCED, log entry 70] -/
def katCompare (s : State) (n : Nat) (o : Op) : State :=
  match katEntry s o.desc with
  | none => s
  | some (a, b, c) =>
    if !((o.contract.map cSig).getD false) || o.lostA || o.lostB || o.lostC || o.sigInc then uncompared s
    else if o.sigA != a || o.sigB != b then uncompared (raiseTap s (fcode 0 1 9) n o.desc)
    else if o.sigC == c then modQrs s fun q => { q with katPassed := satAdd 32 q.katPassed 1 }
    else
      let s := raiseTap s (fcode 0 2 8) n o.desc
      let s := modQrs s fun q => { q with katFailed := satAdd 16 q.katFailed 1 }
      let s := modPos s n fun p => { p with katFails := satAdd 16 p.katFails 1 }
      quarantine (if o.suspect then s else post s (.require 4 false none 6)) n 2

/-! ### Registers (R229–R233) -/

/-- The code of a host state. -/
def hostCode : HostState → Nat
  | .unreconciled => 0 | .inService => 1 | .spareFree => 2 | .spareReserved => 3 | .quarantined => 4 | .bad => 5

/-- TILE_STATE (R232). -/
def tileState (s : State) (n : Nat) : Word :=
  let p := pos s n
  let chk := match p.chk with
    | .inService => 1
    | .untested => if p.selfTest.isSome then 2 else 0
    | .failed => if p.selfTest.isSome then 2 else 3
  pack [(60, 4, hostCode p.host), (58, 2, chk), (57, 1, b2n (fenced s n)), (56, 1, b2n p.testing.isSome),
    (55, 1, b2n p.adopter.isSome), (54, 1, b2n (fuseBad s n false)), (53, 1, b2n (fuseBad s n true)),
    (52, 1, b2n p.fieldDefect), (51, 1, b2n p.override), (50, 1, b2n p.selfTest.isSome), (36, 12, p.adopter.getD 0),
    (28, 8, part s n), (24, 4, p.qReason), (12, 12, p.logical.getD 0), (0, 1, b2n p.logical.isSome)]

/-- TILE_TEST (R232). -/
def tileTest (s : State) (n : Nat) : Word :=
  let p := pos s n
  pack [(60, 4, p.structRes), (56, 4, p.selfRes), (52, 4, p.selfUnit), (32, 16, p.katFails), (0, 32, p.lastTime)]

/-- SPARE_P[p] (R231). -/
def spareP (s : State) (p : Nat) : Word :=
  let ps := partPositions s p
  let sp := ps.filter (isSpare s)
  let ls := (ps.filter fun n => !(isSpare s n)).map (logicalOf s)
  pack [(48, 16, sp.length), (32, 16, (sp.filter fun n => (pos s n).host == .spareFree && (pos s n).chk == .inService).length),
    (16, 16, if s.qrs.reconDone then ls.length else 0), (0, 16, (ls.filter fun l => (remapOf s l).state == 2).length)]

/-- REMAP[l] (R229). -/
def remapView (s : State) (l : Nat) : Word :=
  let r := remapOf s l
  pack [(62, 2, r.state), (61, 1, b2n r.pending), (60, 1, b2n r.toVacant), (16, 12, r.pendPhys), (0, 12, r.phys)]

/-- QRS_STATUS (R229). -/
def qrsStatus (s : State) : Word :=
  let q := s.qrs
  let pend := (q.remap.filter fun r => r.2.pending).length
  pack [(48, 16, (s.tiles.filter fun t => t.2.pos.host == .quarantined || t.2.pos.host == .bad).length),
    (32, 16, (q.remap.filter fun r => r.2.state == 2).length), (16, 16, (s.tiles.filter fun t => t.2.pos.adopter.isSome).length),
    (8, 8, min pend 255), (0, 1, b2n q.reconDone)]

/-- The QUARANTINE, SPARES and TEST block (R229), by window offset. -/
def viewQrs (s : State) (off : Nat) : Option Word :=
  let q := s.qrs
  if off == 0x090000 then some (qrsStatus s)
  else if off == 0x090008 || off == 0x090028 then some 0
  else if off == 0x090010 then some (pack [(63, 1, b2n q.busy), (60, 3, q.result), (32, 16, q.tag), (0, 16, q.tile)])
  else if off == 0x090018 then some (pack [(0, 16, q.degraded)])
  else if off == 0x090020 then some (heldView q.event)
  else if off == 0x090030 then some q.testCfg
  else if off == 0x090038 then some q.patternBase
  else if off == 0x090040 then some q.reconStatus
  else if off == 0x090048 then some (pack [(32, 32, q.katPassed), (16, 16, q.katFailed), (0, 16, q.katUncompared)])
  else if 0x091000 ≤ off && off < 0x091080 && off % 8 == 0 then some (spareP s ((off - 0x091000) / 8))
  else if 0x092000 ≤ off && off < 0x09A000 && off % 8 == 0 then some (remapView s ((off - 0x092000) / 8))
  else none

end Sys2Proof.Machine
end

