-- ==== Sys2Proof/Machine/Bringup.lean ====
section
/-! DEFINITION. Bring-up commands and the fuse map (R399, R462–R466, R469). -/
namespace Sys2Proof.Machine

/-- Rewrite the bring-up unit. -/
def modBr (s : State) (f : Bringup → Bringup) : State := { s with bring := f s.bring }

/-- A refusal of a bring-up command gives RESULT REFUSED (R464); beside a command that runs, CMD and the counts stay its own. [DEDUCED, log entry 90] -/
def bringRefuse (rq : Acc) (cmd : Nat) (s : State) : State :=
  modBr (raiseK s fcCmdIllegal rq 0x001300) fun b => { b with cmd := if b.busy then b.cmd else cmd % 8, result := 2 }

/-- The frame of a bring-up command (R464). -/
def bringCmd (rq : Acc) (cmd : Nat) (ok : Bool) (f : State → State) (s : State) : State :=
  secure rq s <|
    if isArmed s || s.qrs.reconDone || s.bring.busy || s.qrs.busy || !ok then bringRefuse rq cmd s
    else f (modBr s fun b => { b with busy := true, cmd := cmd, result := 0, passed := 0, failed := 0, aborted := 0, todo := [] })

/-- A bring-up command ends. -/
def bringEnds (s : State) (r : Nat) : State := modBr s fun b => { b with busy := false, result := r, todo := [] }

/-- RISER_TRAIN (R464). -/
def riserTrain (rq : Acc) : State → State := bringCmd rq 1 true id

/-- The fuse map is read (R399). -/
def fuseStart (s : State) : State := { s with shell := { s.shell with fuseReading := true, fuseBuf := [] } }

/-- FUSE_READ (R464). -/
def fuseReadCmd (rq : Acc) : State → State := bringCmd rq 2 true fuseStart

/-- Tests start on positions; the others count as aborted (R464). `mark` writes the result of one that does not start. -/
def bringTests (s : State) (ps : List Nat) (ok : State → Nat → Bool) (mark : Pos → Pos) (go : State → Nat → State) : State :=
  let go1 := ps.filter (ok s)
  let no := ps.filter fun n => !(ok s n)
  let s := modBr s fun b => { b with todo := go1, aborted := no.length }
  let s := forEach no s fun s n => modPos s n mark
  if go1.isEmpty then bringEnds s 1 else forEach go1 s go

/-- SELFTEST_ALL (R464). -/
def selftestAllCmd (rq : Acc) : State → State := bringCmd rq 3 true fun s =>
  bringTests s s.build.positions selfAllowed (fun p => { p with selfRes := 3 }) fun s n => selfStart s n .bringup

/-- STRUCT_ALL (R464): a partition, or 0xF for all. -/
def structAllCmd (rq : Acc) (p : Nat) (s : State) : State :=
  bringCmd rq 4 (p == 15 || decide (p < s.build.partitions)) (fun s =>
    bringTests s (if p == 15 then s.build.positions else partPositions s p) structAllowed
      (fun p => { p with structRes := 3 }) fun s n => structStart s n .bringup) s

/-- A reserved code of BRINGUP_CMD. -/
def bringBadCmd (rq : Acc) (cmd : Nat) (s : State) : State := secure rq s (bringRefuse rq cmd s)

/-- BRINGUP_DONE (R14, R464): the risers that have passed training; or 1 ms has passed without a fuse map. [DEDUCED, log entry 91] -/
def bringDone (trained : List Nat) (s : State) : State :=
  if !s.bring.busy then s
  else if s.bring.cmd == 1 then
    let down := (upto s.build.cols).filter fun c => !(s.time.risers.contains c)
    let up := down.filter fun c => trained.contains c
    let s := forEach (down.filter fun c => !(trained.contains c)) s fun s c => raiseI s fcRiserDown 5 c
    bringEnds (modBr (risersTrained up s) fun b => { b with passed := up.length, failed := down.length - up.length }) 1
  else if s.bring.cmd == 2 then bringEnds s 3
  else s

/-- Whether a word of the map marks a position that does not exist. -/
def fuseWordBad (s : State) (w : Nat) (v : Word) : Bool :=
  (upto 32).any fun b => decide (32 * w + b ≥ s.build.tiles) && fld v (2 * b + 1) (2 * b) != 0

/-- FUSE_MAP_TRANSFER (R399). -/
def fuseTransfer (v : Word) (s : State) : State :=
  if !s.shell.fuseReading then s
  else if fuseWordBad s s.shell.fuseBuf.length v then
    raisePort { s with shell := { s.shell with fuseReading := false, fuseBuf := [] } } fcPortRange 14 1 v.toNat
  else
    let buf := s.shell.fuseBuf ++ [v]
    if buf.length < 128 then { s with shell := { s.shell with fuseBuf := buf } }
    else
      let s := { s with shell := { s.shell with fuseReading := false, fuseBuf := [], fuseWords := buf } }
      let s := modBr s fun b => { b with fuseOk := true }
      if s.bring.busy && s.bring.cmd == 2 then bringEnds s 1 else s

/-- FUSE_TIMEOUT (R399). -/
def fuseLate (s : State) : State :=
  if s.shell.fuseReading then
    raisePort { s with shell := { s.shell with fuseReading := false, fuseBuf := [] } } fcPortTimeout 14 1 0
  else s

/-- BRINGUP_CMD and BRINGUP_STATUS (R469). -/
def viewBring (s : State) (off : Nat) : Option Word :=
  let b := s.bring
  if off == 0x001300 then some 0
  else if off == 0x001308 then
    some (pack [(63, 1, b2n b.busy), (60, 3, b.cmd), (57, 3, b.result), (56, 1, b2n b.fuseOk), (32, 16, b.passed),
      (16, 16, b.failed), (0, 16, b.aborted)])
  else none

end Sys2Proof.Machine
end

