-- ==== Sys2Proof/Machine/Mode.lean ====
section
/-! DEFINITION. The mode arbiter: requested levels, the power commands and the mode registers (R234–R255). -/
namespace Sys2Proof.Machine

/-- One field of a MODE_LEVEL_REQ write (R242, R251): class and written value. -/
def levelField (rq : Acc) (s : State) (c x : Nat) : State :=
  let off := 0x001108
  let put (s : State) (v : Nat) : State :=
    { s with mode := { s.mode with levelReq := setFld s.mode.levelReq (3 * c + 2) (3 * c) v } }
  if x ≥ 6 then put (modeRefused (raiseK s (fcode 6 1 1) rq off) 0 1 8 c x) 0
  else if x == 4 && isDecode s && levelReq s c != 4 then
    put (modeRefused (raiseK s (fcode 6 0 0) rq off) 0 0 1 c 4) 4
  else put s x

/-- A write of MODE_LEVEL_REQ (R243, R251, R252). -/
def levelReqWrite (rq : Acc) (v : Word) (s : State) : State :=
  secure rq s <|
    if s.fault.safe then frozen s rq 0x001108 0 0
    else forEach (upto 16) s fun s c => levelField rq s c (fld v (3 * c + 2) (3 * c))

/-- The demotions of R242 when a write of STEP_CONFIG changes JOB_MODE to DECODE: one for each field holding AUDIT. -/
def demoteAll (rq : Acc) (s : State) : State :=
  forEach (upto 16) s fun s c =>
    if levelReq s c == 4 then modeRefused (raiseK s (fcode 6 0 0) rq 0x050008) 0 0 1 c 4 else s

/-- The value of the power axis a MODE_CMD asks for, for MODE_REFUSED.REQUESTED. -/
def powerWanted (cmd : Nat) : Nat := if cmd == 1 then 2 else 0

/-- A write of MODE_CMD (R250, R251): 1 QUIESCE, 2 RESUME, others refused. -/
def modeCmd (rq : Acc) (cmd : Nat) (s : State) : State :=
  let off := 0x001120
  if s.fault.safe then frozen s rq off 4 (powerWanted cmd)
  else if recovery s ≥ 3 then modeRefused (raiseK s (fcode 6 1 3) rq off) 4 1 4 0 (powerWanted cmd)
  else if cmd == 1 && (s.mode.power == .run || s.mode.power == .throttle) then
    { setPower s .quiesce with mode := { (setPower s .quiesce).mode with quiesceByStop := false } }
  else if cmd == 2 && s.mode.power == .quiesce && s.stop.state == 0 then powerByLaw s
  else modeRefused (raiseK s (fcode 6 1 2) rq off) 4 1 2 0 (powerWanted cmd)

/-- The code of a power state in MODE_STATUS.POWER. -/
def powerCode : Power → Nat
  | .run => 0 | .throttle => 1 | .quiesce => 2 | .dark => 3

/-- The code of a region state (R345). -/
def regCode : RegState → Nat
  | .active => 0 | .draining => 1 | .loading => 2 | .verifying => 3 | .fenced => 4

/-- MODE_STATUS (R254). -/
def modeStatus (s : State) : Word :=
  let e := s.step.eng
  pack [(63, 1, b2n s.fault.safe), (62, 1, b2n e.armed), (60, 2, e.axMode), (59, 1, b2n e.axUndo),
    (57, 2, mirMode s), (52, 4, phaseCode e.phase), (51, 1, b2n e.replay), (46, 2, secCode (secState s)),
    (44, 2, powerCode s.mode.power), (42, 2, roleCode s.cas.role), (36, 4, recovery s), (0, 32, s.mode.gen)]

/-- SECTION[0] and [9] follow the active table (R347), the others their region. -/
def sectionCode (s : State) (k : Nat) : Nat :=
  if k == 0 || k == 9 then (if s.loader.active.isSome then 0 else 4) else regCode (region s k).state

/-- MODE_REGIONS (R254). -/
def modeRegions (s : State) : Word :=
  let groups := upto s.build.partitions
  let notAct := packN (groups.map fun p => (p, 1, b2n (!(regActive s (16 + p)))))
  let fenced := packN (groups.map fun p => (p, 1, b2n ((region s (16 + p)).state == .fenced)))
  pack ([(48, 16, if s.loader.topoLoaded then notAct else 0), (32, 16, if s.loader.topoLoaded then fenced else 0)] ++
    (upto 10).map fun k => (3 * k, 3, sectionCode s k))

/-- The mode registers (R254). -/
def viewMode (s : State) (off : Nat) : Option Word :=
  match off with
  | 0x1100 => some (modeStatus s)
  | 0x1108 => some s.mode.levelReq
  | 0x1110 => some (levelEffWord s)
  | 0x1118 => some (modeRegions s)
  | 0x1120 => some 0
  | 0x1128 => some (setFld (heldView s.mode.refused) 31 24 (missed8 s.mode.refused))
  | 0x1130 => some 0
  | _ => none

end Sys2Proof.Machine
end

