-- ==== Sys2Proof/Machine/Screen.lean ====
section
/-! DEFINITION. A checker at work: coverage counts, the residue store, residue checks, pips, signatures, and the outcome
of an operation (R64–R83, R94–R113, R122, R123). -/
namespace Sys2Proof.Machine

/-! ### Counts -/

/-- A coverage count i of partition p takes k more (R123): 0 operations, 1 screened, 2 limit, 3 unscreened, 4 beats,
5 dropped, 6 eligible, 7 decided, 8 limit, 9 undecidable, 10 skipped, 11 signatures incomplete, 12 mismatches, 13
operations with an outcome. -/
def cov (s : State) (iv p i k : Nat) : State :=
  if k = 0 then s else modCovAt s iv fun c => { c with counts := supd 0 c.counts (16 * p + i) fun n => satAdd 48 n k }

/-- A cause takes k more (R123). -/
def covCause (s : State) (iv : Nat) (c : Cause) (k : Nat) : State :=
  if k = 0 then s else modCovAt s iv fun v => { v with causes := supd 0 v.causes (causeIdx c) fun n => satAdd 48 n k }

/-- An undecidable pip of a contract is counted (R55). -/
def undecided (s : State) (iv con : Nat) : State :=
  modCovAt s iv fun v => { v with undecidable := supd 0 v.undecidable con fun n => satAdd 48 n 1 }

/-- Elements of host position n go unscreened under a cause. -/
def unscreened (s : State) (iv n : Nat) (c : Cause) (k : Nat) : State := covCause (cov s iv (part s n) 3 k) iv c k

/-- The result elements of an operation. -/
def elemsOf (d : Desc) : Nat := if clsSum d.cls then d.n else d.m * d.n * d.batch

/-- Rewrite an operation of checker `x`. -/
def modOp (s : State) (x uid : Nat) (f : Op → Op) : State :=
  modChk s x fun c => { c with ops := c.ops.map fun o => if o.uid == uid then f o else o }

/-- An operation of checker `x`. -/
def opOf (s : State) (x uid : Nat) : Option Op := (tile s x).chk.ops.find? fun o => o.uid == uid

/-- The contract of an operation; legal operations have one. -/
def opCon (o : Op) : Contract := o.contract.getD {}

/-! ### The residue store (R72–R76, R340, R490) -/

/-- The entries that a count of quantities takes. -/
def formSize (exact : Bool) (k : Nat) : Nat := if exact then k else 3 * k

/-- The entries a key takes (R72). -/
def keySize (k : StoreKey) : Nat :=
  formSize k.exact (if k.carried then (if k.rowForm then k.dimM else k.dimN) else k.dimK)

/-- The working entries an operation takes (R72). -/
def workSize (d : Desc) (rowForm exact : Bool) : Nat :=
  let base := if clsSum d.cls then 2
    else if clsUsesStat d.cls then 2 * d.m
    else if rowForm then d.k + 2 * d.m else d.k + 2 * d.n
  formSize exact (base * (if d.cls == 4 then d.batch else 1))

/-- A key is bound to an open operation (R73, R74). -/
def keyBound (c : Checker) (id : Nat) : Bool :=
  c.ops.any fun o => !o.done && (o.key == some id || o.builds == some id)

/-- Entries held by open operations. -/
def workUsed (c : Checker) : Nat := c.ops.foldl (fun a o => a + o.work) 0

/-- An entry of the store by its number. -/
def keyEntry (c : Checker) (id : Nat) : Option StoreKey := c.store.find? fun k => k.id == id

/-- An entry has its space in the store: a key holds it, or an open operation (R73, R74). -/
def entryHeld (c : Checker) (k : StoreKey) : Bool := k.kept && (k.resident || keyBound c k.id)

/-- An entry whose place a held one has taken: the two are one. [DESIGN CHOICE, log entry 171] -/
def takenOver (c : Checker) (k : StoreKey) : Bool := (k.heir.bind (keyEntry c)).any (entryHeld c)

/-- Entries held by keys; an entry that found no space holds none (R73). -/
def keysUsed (c : Checker) : Nat :=
  c.store.foldl (fun a k => a + if entryHeld c k && !(takenOver c k) then keySize k else 0) 0

/-- The least recently used resident key not bound to an open operation. [DEDUCED, log entry 27] -/
def evictable (c : Checker) : Option StoreKey :=
  (c.store.filter fun k => k.resident && !(keyBound c k.id)).foldl
    (fun b k => match b with
      | none => some k
      | some x => if k.lastUse < x.lastUse then some k else b) none

/-- Drop the entries that nothing holds; a stale key goes once no open operation is bound to it (R340). [DEDUCED, log entry 30] -/
def storeTidy (c : Checker) : Checker :=
  { c with store := c.store.filter fun k => (k.resident && !k.stale) || keyBound c k.id }

/-- Evict keys until `n` entries are free, with fuel; whether they are. [DEDUCED, log entry 27] -/
def allocate : Nat → Checker → Nat → Bool × Checker
  | 0, c, n => (decide (workUsed c + keysUsed c + n ≤ 16384), c)
  | f + 1, c, n =>
    if workUsed c + keysUsed c + n ≤ 16384 then (true, c)
    else match evictable c with
      | none => (false, c)
      | some k => allocate f { c with store := c.store.filter fun x => x.id != k.id, storeFull := true } n

/-- Allocate `n` entries (R73). -/
def alloc (c : Checker) (n : Nat) : Bool × Checker := allocate 65 c n

/-- The resident entry of a key. [DEDUCED, log entry 25] -/
def resKey (c : Checker) (h : Nat) (d : Desc) (carried : Bool) : Option StoreKey :=
  c.store.find? fun k => k.resident && k.host == h && k.ctx == d.ctx && k.tag == d.tag && k.carried == carried

/-- Rewrite an entry. -/
def updKey (c : Checker) (id : Nat) (f : StoreKey → StoreKey) : Checker :=
  { c with store := c.store.map fun k => if k.id == id then f k else k }

/-- A key stops holding its entry, which stays in the store for the operations that name it. -/
def unkey (c : Checker) (h : Nat) (d : Desc) (carried : Bool) : Checker :=
  { c with store := c.store.map fun k =>
    if k.host == h && k.ctx == d.ctx && k.tag == d.tag && k.carried == carried then { k with resident := false } else k }

/-- A key stops holding its entry; operations already open keep theirs (R74, R490). -/
def dropKey (c : Checker) (h : Nat) (d : Desc) (carried : Bool) : Checker := storeTidy (unkey c h d carried)

/-- Room for one more key among the 64 resident ones (R73). [DEDUCED, log entry 34] -/
def keySlot (c : Checker) : Bool × Checker :=
  if (c.store.filter (·.resident)).length < 64 then (true, c)
  else match evictable c with
    | none => (false, c)
    | some k => (true, { c with store := c.store.filter fun x => x.id != k.id, storeFull := true })

/-- A new entry for the key of an operation, replacing what the key held; one that finds no room is not kept (R73, R74,
R490). `size` is what has to be free: the entry and the working entries of its operation, which is not open yet. It takes the
place of entry `was`, where it names one: of an append no more than the growth needs space, of an MM_ACC nothing. [DESIGN CHOICE, log entry 171] -/
def newKey (c : Checker) (k : StoreKey) (d : Desc) (size : Nat) (was : Option Nat) : Nat × Checker :=
  let old (c : Checker) (kept : Bool) (heir : Option Nat) : Checker := match was with
    | some i => updKey c i fun x => { x with kept := kept, heir := heir }
    | none => c
  let (ok1, c) := alloc (old (unkey c k.host d k.carried) false none) size
  let (ok2, c) := if ok1 then keySlot c else (false, c)
  let ok := ok1 && ok2
  let id := c.nextKey
  let c := old c true (if ok then some id else none)
  (id, { c with
    nextKey := id + 1, useClock := c.useClock + 1,
    store := c.store ++ [{ k with id := id, resident := ok, kept := ok, lastUse := c.useClock + 1 }] })

/-- The classes that build or update a stationary entry. -/
def clsBuildsStat (c : Nat) : Bool := c == 5 || c == 7 || c == 8
/-- The classes that build or update a carried entry. -/
def clsBuildsCarry (c : Nat) : Bool := c == 2 || c == 3

/-- The entries that hold elements of entry `id`: itself and those that extend it. -/
def entryHeirs (c : Checker) (id : Nat) : List Nat := (c.store.filter fun k => k.id == id || k.bases.contains id).map (·.id)

/-- An entry is not kept, nor are those that extend it: the open operations bound to one are unscreened with STAT_MISS, and a
carried one counts as missed (R74, R75, R490). -/
def entryFails (c : Checker) (id uid : Nat) : Checker :=
  let ids := entryHeirs c id
  { c with
    store := c.store.map fun k => if ids.contains k.id then { k with resident := false, tainted := k.tainted || k.carried } else k,
    ops := c.ops.map fun p =>
      if !p.closed && p.uid != uid && clsUsesStat p.desc.cls && p.key.any ids.contains then { p with cause := some .statMiss } else p }

/-- An operation that runs no residue check keeps no entry for its key (R490). -/
def dropBuilt (c : Checker) (h : Nat) (d : Desc) : Checker :=
  if clsBuildsStat d.cls then dropKey c h d false else if clsBuildsCarry d.cls then dropKey c h d true else c

/-! ### Opening an operation -/

/-- Whether a stationary entry fits an operation that names it (R74). -/
def statFits (k : StoreKey) (d : Desc) (exact : Bool) : Bool :=
  k.exact == exact &&
    match d.cls with
    | 6 => k.dimK == d.k && k.dimN == d.n
    | 7 => decide (k.dimK ≤ d.k) && k.dimN == d.n
    | _ => k.dimK == d.k && decide (k.dimN ≤ d.n)

/-- Whether a carried entry fits an MM_ACC that names it (R74). -/
def accFits (k : StoreKey) (d : Desc) (exact : Bool) : Bool := k.dimM == d.m && k.dimN == d.n && k.exact == exact

/-- The elements an entry still waits for, by index. -/
def dueFrom (lo hi n : Nat) : SMap Nat := if n = 0 then [] else ((upto hi).drop lo).map fun k => (k, n)

/-- The newest open operation that builds a carried entry for the key. -/
def carryPred (c : Checker) (host : Nat) (d : Desc) : Option Op :=
  (c.ops.filter fun o => o.host == host && clsBuildsCarry o.desc.cls && o.desc.ctx == d.ctx &&
    o.desc.tag == d.tag).getLast?

/-- The residue side of a new operation: store entries, bindings, and the cause that leaves it unscreened as a whole
(R70–R75). An MM_ACC that is WIDE_K still waits for its predecessor, whose failure comes first among the causes (R79). -/
def openResidue (c : Checker) (o : Op) : Checker × Op :=
  let d := o.desc
  let con := opCon o
  let exact := cClass con == 0
  let key : StoreKey := { host := o.host, ctx := d.ctx, tag := d.tag, exact := exact, con := cNo con, w0 := con.w0, dimK := d.k,
                          dimM := d.m, dimN := d.n }
  let row := match d.cls with
    | 5 | 6 | 7 | 8 => true
    | 3 => (match resKey c o.host d true with
        | some k => k.rowForm
        | none => d.firstB)
    | _ => d.firstB
  let o := { o with rowForm := row || clsSum d.cls, exact := exact, runsResidue := true }
  let miss (c : Checker) (o : Op) (x : Cause) : Checker × Op := (c, { o with cause := some x, runsResidue := false })
  let wide := !exact && wideK (boundPrec con) (boundK con d.k + if clsAcc d.cls then 1 else 0)
  let openNow := (c.ops.filter fun p => p.host == o.host && p.runsResidue && !p.done).length
  let need := workSize d row exact
  let (ok, c1) := if openNow ≥ 4 then (false, c) else alloc c need
  if !ok then miss (dropBuilt c1 o.host d) o .workset
  else
    let c := c1
    let o := { o with work := need }
    if clsUsesStat d.cls then
      match resKey c o.host d false with
      | none => miss c { o with work := 0 } .statMiss
      | some k =>
        if !(statFits k d exact) then miss (dropKey c o.host d false) { o with work := 0 } .statMiss
        else if wide then miss (if d.cls == 6 then c else dropKey c o.host d false) { o with work := 0 } .wideK
        else if d.cls == 6 then
          (updKey { c with useClock := c.useClock + 1 } k.id fun x => { x with lastUse := c.useClock + 1 }, { o with key := some k.id })
        else
          let due := if d.cls == 7 then dueFrom k.dimK d.k d.n else dueFrom 0 d.k (d.n - k.dimN)
          let building := c.ops.any fun p => !p.done && p.builds == some k.id
          let nk := { key with
            vals := k.vals, cnt := k.cnt.foldl (fun m (i, n) => supd 0 m i (· + n)) due, tainted := k.tainted,
            kmin := if d.cls == 7 then k.dimK else 0, jmin := if d.cls == 8 then k.dimN else 0,
            bases := if building then k.id :: k.bases else k.bases }
          let (id, c) := newKey c nk d (need + formSize exact d.k) (some k.id)
          (c, { o with key := some id, builds := some id })
    else if wide then
      match resKey c o.host d true with
      | some k =>
        if clsAcc d.cls && accFits k d exact then
          miss (dropBuilt c o.host d) { o with work := 0, key := some k.id, waitsOn := (carryPred c o.host d).map (·.uid) }
            (if k.tainted then .carryMiss else .wideK)
        else miss (dropBuilt c o.host d) { o with work := 0 } (if clsAcc d.cls then .carryMiss else .wideK)
      | none => miss (dropBuilt c o.host d) { o with work := 0 } (if clsAcc d.cls then .carryMiss else .wideK)
    else if d.cls == 5 then
      let (id, c) := newKey c { key with cnt := dueFrom 0 d.k d.n } d (need + formSize exact d.k) none
      (c, { o with key := some id, builds := some id })
    else if clsBuildsCarry d.cls then
      let pred := if clsAcc d.cls then carryPred c o.host d else none
      let prev := resKey c o.host d true
      let ckey := { key with carried := true, rowForm := row }
      let place := prev.filter fun k => clsAcc d.cls && accFits k d exact
      let (id, c) := newKey c ckey d (need + keySize ckey) (place.map (·.id))
      let o := { o with builds := some id }
      if !(clsAcc d.cls) then (c, o)
      else match prev with
        | none => (c, { o with cause := some .carryMiss })
        | some k =>
          if !(accFits k d exact) then (c, { o with cause := some .carryMiss })
          else (c, { o with key := some k.id, waitsOn := pred.map (·.uid) })
    else (c, o)

/-! ### Ingest -/

/-- Rewrite a check of an operation. -/
def updCheck (o : Op) (i : Nat) (f : Check → Check) : Op := { o with checks := supd {} o.checks i f }

/-- The check that a result element belongs to. -/
def checkOf (o : Op) (g r c : Nat) : Nat :=
  if clsSum o.desc.cls then 0 else if o.rowForm then g * o.desc.m + r else g * o.desc.n + c

/-- How many checks an operation has. -/
def checkCount (o : Op) : Nat :=
  if clsSum o.desc.cls then 1 else (if o.rowForm then o.desc.m else o.desc.n) * o.desc.batch

/-- The elements of one check. -/
def checkElems (o : Op) : Nat := if clsSum o.desc.cls then o.desc.n else if o.rowForm then o.desc.n else o.desc.m

/-- Whether the operation takes its reduced operand from a stationary entry. -/
def statForm (o : Op) : Bool := clsUsesStat o.desc.cls || o.desc.cls == 5

/-- The part a stream plays in the residue checks: 0 none, 1 reduced operand, 2 MAC side, 3 results, 4 SUM inputs, 5 the
stationary operand being built. -/
def streamPart (o : Op) (st : Stream) : Nat :=
  match st with
  | .c => 3
  | .a => if clsSum o.desc.cls then 4 else if o.rowForm then 2 else 1
  | .b => if statForm o then (if o.builds.isSome then 5 else 0) else if o.rowForm then 1 else 2

/-- The checks that an element of a MAC-side stream or of the results feeds. -/
def elemCheck (o : Op) (st : Stream) (e : Elem) : Nat :=
  match st with
  | .c => checkOf o e.g e.r e.c
  | _ => if o.rowForm then e.g * o.desc.m + e.r else e.g * o.desc.n + e.c

/-- The index k of an element of an operand. -/
def elemK (st : Stream) (e : Elem) : Nat := match st with | .a => e.c | _ => e.r

/-- The reduced quantity at k of member g: its value, whether it is complete, whether it is tainted. To the operation that
builds an entry, the elements that the host delivered and the checker dropped count as delivered (R69, R78). -/
def reducedAt (c : Checker) (o : Op) (g k : Nat) : Quant × Bool × Bool :=
  if statForm o then
    match o.key.bind (keyEntry c) with
    | some x => (sget {} x.vals k, decide (sget 0 x.cnt k ≤ sget 0 o.redCnt k), x.tainted)
    | none => ({}, false, false)
  else
    let i := g * o.desc.k + k
    (sget {} o.red i, sget 0 o.redCnt i == (if o.rowForm then o.desc.n else o.desc.m), o.redBad)

/-- An element at row k of column j is one that the operation building entry `x` adds to it. -/
def entryWants (x : StoreKey) (k j : Nat) : Bool := decide (x.kmin ≤ k) && decide (x.jmin ≤ j)

/-- An element at row k of column j enters entry `id` and those that extend it (R74). -/
def entryTakes (c : Checker) (id k j : Nat) (exact : Bool) (q : Option Quant) : Checker :=
  if ((keyEntry c id).map fun x => entryWants x k j && sget 0 x.cnt k != 0).getD false then
    (entryHeirs c id).foldl (fun c i => updKey c i fun x =>
      match q with
      | none => { x with tainted := true, cnt := supd 0 x.cnt k (· - 1) }
      | some v => { x with vals := supd {} x.vals k (quantAdd exact · v), cnt := supd 0 x.cnt k (· - 1) }) c
  else c

/-- One element enters the residue unit (R65–R69). An element that is not finite takes its check whenever it comes (R67). -/
def ingestElem (st : Stream) (co : Checker × Op) (e : Elem) : Checker × Op :=
  let (c, o) := co
  let fmt := streamFmt o.desc st
  let q := quantOf o.exact (decodeElem fmt e.bits e.scale)
  match streamPart o st with
  | 1 =>
    let i := e.g * o.desc.k + elemK st e
    match q with
    | none => (c, { o with redBad := true, redCnt := supd 0 o.redCnt i (· + 1) })
    | some v => (c, { o with red := supd {} o.red i (quantAdd o.exact · v), redCnt := supd 0 o.redCnt i (· + 1) })
  | 2 =>
    let i := elemCheck o st e
    let (w, done, bad) := reducedAt c o e.g (elemK st e)
    if !done then (c, { updCheck o i fun k => { k with order := true, nonfinite := k.nonfinite || q.isNone } with orderRaised := true })
    else match q with
      | none => (c, updCheck o i fun k => { k with nonfinite := true })
      | some v => (c, updCheck o i fun k =>
          { k with ref := quantAdd o.exact k.ref (quantMul o.exact w v), nonfinite := k.nonfinite || bad })
  | 3 =>
    let i := elemCheck o st e
    let wrong := o.exact && fmt == 0x31 && fx96q e.bits != o.desc.q
    let o := if wrong then updCheck o i fun k => { k with expBad := true } else o
    match q with
    | none => (c, updCheck o i fun k => { k with nonfinite := true })
    | some v => (c, updCheck o i fun k => { k with obs := quantAdd o.exact k.obs v })
  | 4 => match q with
    | none => (c, updCheck o 0 fun k => { k with nonfinite := true })
    | some v => (c, updCheck o 0 fun k => { k with ref := quantAdd o.exact k.ref v })
  | 5 => (entryTakes c (o.builds.getD 0) (elemK st e) e.c o.exact q, o)
  | _ => co

/-- An element of a MAC-side beat that its lanes skip: what is seen of it at the ingest stands, and its check has a deficit
(R67, R69, R78). -/
def skipElem (st : Stream) (co : Checker × Op) (e : Elem) : Checker × Op :=
  let (c, o) := ingestElem st co e
  (c, updCheck o (elemCheck o st e) fun k => { k with deficit := true })

/-- The elements of the reduced operand that the host has delivered and the checker has dropped (R69, R78). -/
def redDelivered (c : Checker) (o : Op) (st : Stream) (es : List Elem) : Op :=
  let mine (e : Elem) : Bool := !(statForm o) || ((o.builds.bind (keyEntry c)).map fun x => entryWants x (elemK st e) e.c).getD false
  let place (e : Elem) : Nat := if statForm o then elemK st e else e.g * o.desc.k + elemK st e
  (es.filter mine).foldl (fun o e => { o with redCnt := supd 0 o.redCnt (place e) (· + 1) }) o

/-- The checks that a lost beat feeds take a mark; a lost beat of the reduced operand marks every check (R78). `came` says that
the host delivered it. A beat of an append counts so whichever elements it holds. [DESIGN CHOICE, log entry 172] -/
def loseBeat (c : Checker) (came : Bool) (o : Op) (st : Stream) (es : List Elem) (f : Check → Check) : Op :=
  match streamPart o st with
  | 0 => o
  | 1 | 5 => { (if came then redDelivered c o st es else o) with redDrop := true }
  | 4 => updCheck o 0 f
  | _ => es.foldl (fun o e => updCheck o (elemCheck o st e) f) o

/-! ### Pips (R94–R106) -/

/-- The width of a row fragment. -/
def fragWidth (d : Desc) (j : Nat) : Nat := min 32 (d.n - 32 * j)

/-- The capture need of a pip in bytes (R101). [DEDUCED, log entry 23] [DEDUCED, log entry 24] -/
def pipNeed (d : Desc) : Nat :=
  let sc (f k : Nat) : Nat := if fmtMX f then ceilDiv k 32 else 0
  if clsDot d.cls then ceilDiv (d.k * (fmtBits d.fmtA + fmtBits d.fmtB)) 8 + sc d.fmtA d.k + sc d.fmtB d.k + 64
  else if clsSum d.cls then ceilDiv (d.k * fmtBits d.fmtA) 8 + (if fmtMX d.fmtA then d.k else 0) + 64
  else if clsRow d.cls then ceilDiv (d.n * fmtBits d.fmtA) 8 + sc d.fmtA d.n + 512
  else 64

/-- A pip that no capture SRAM can hold (R102). -/
def pipTooBig (d : Desc) : Bool :=
  if clsRow d.cls then decide (pipNeed d > 64 * 1024 + 512) else decide (pipNeed d > 48 * 1024)

/-- The cost of a pip in tokens (R103). -/
def pipCost (d : Desc) : Nat :=
  if clsRow d.cls then 3 * ceilDiv d.n 32 + 24
  else if clsElem d.cls then (if d.cls ≤ 0x12 then 1 else 24)
  else ceilDiv d.k 32 + 8

/-- The grains of an operation (R96). -/
def grains (d : Desc) : List Grain :=
  let js := if clsRow d.cls then ceilDiv d.n 32 else d.n
  (upto d.batch).flatMap fun g => (upto (if clsSum d.cls then 1 else d.m)).flatMap fun i => (upto js).map fun j => ⟨g, i, j⟩

/-- The selection key in force (R97): the two halves of a 128-bit value. -/
def pipKeys (s : State) : Option (Word × Word) :=
  s.sec.pip.map fun k =>
    let e := s.step.eng
    let v := Config.kmac 128 k 7 [e.job, e.number, e.replayNo, s.sec.pipGen]
    (BitVec.ofNat 64 v, BitVec.ofNat 64 (v / 2 ^ 64))

/-- The sampling reduction of a partition (R95). -/
def reduction (s : State) (p : Nat) : Nat := (sget {} s.thermal.parts p : PartTherm).red

/-- The effective density of an operation on checker `n`, by the reduction of that checker's partition (R94, R95, R427); none
where the selector draws nothing. -/
def pipDensity (s : State) (n : Nat) (con : Contract) (lv : Level) (d : Desc) : Option Nat :=
  if !(cPip con) || clsAcc d.cls || (clsRow d.cls && decide (d.n > 16384)) then none
  else match lv with
    | .sample => some (if cSample con == 0xFFFFF && reduction s (part s n) == 0 then 0xFFFFF
        else max (cFloor con) (cSample con * (256 - reduction s (part s n)) / 256))
    | .audit => some (cAudit con)
    | _ => none

/-- The grains the selector draws (R98). -/
def drawnGrains (s : State) (d : Desc) (dens : Nat) : List Grain :=
  match pipKeys s with
  | none => []
  | some (k0, k1) =>
    let op := BitVec.ofNat 64 (opIdent d)
    (grains d).filter fun g =>
      dens == 0xFFFFF || decide ((pipSelect k0 k1 op (BitVec.ofNat 64 (grainIdx g.g g.i g.j))).toNat % 2 ^ 20 < dens)

/-- The elements of a beat that a pip captures: (index in its list, encoding, scale). -/
def pipTakes (d : Desc) (p : Pip) (st : Stream) (es : List Elem) : List (Nat × Nat × Nat) :=
  let g := p.grain
  es.filterMap fun e =>
    if e.g != g.g then none
    else
      let put (ok : Bool) (i : Nat) : Option (Nat × Nat × Nat) := if ok then some (i, e.bits, e.scale) else none
      if clsDot d.cls then
        match st with
        | .a => put (e.r == g.i) e.c
        | .b => put (e.c == g.j) e.r
        | .c => put (e.r == g.i && e.c == g.j) 0
      else if clsSum d.cls then
        match st with
        | .a => put (e.c == g.j) e.r
        | .b => none
        | .c => put (e.c == g.j) 0
      else if clsRow d.cls then
        match st with
        | .a => put (e.r == g.i) e.c
        | .b => put (e.c / 32 == g.j) (e.r * d.n + e.c)
        | .c => put (e.r == g.i && e.c / 32 == g.j) e.c
      else
        match st with
        | .b => if d.cls == 0x12 then put (e.r / 2 == g.i && e.c == g.j) (e.r % 2) else put (e.r == g.i && e.c == g.j) 0
        | _ => put (e.r == g.i && e.c == g.j) 0

/-- The elements a complete capture has on each stream. -/
def pipFull (d : Desc) (p : Pip) : Nat × Nat × Nat :=
  let w := fragWidth d p.grain.j
  if clsDot d.cls then (d.k, d.k, 1)
  else if clsSum d.cls then (d.k, 0, 1)
  else if clsRow d.cls then (d.n, if d.cls == 0x21 then w else if d.cls == 0x22 then 2 * w else 0, w)
  else (1, if d.cls == 0x12 then 2 else if clsHasB d.cls then 1 else 0, 1)

/-- Whether a pip has captured all it needs. -/
def pipComplete (d : Desc) (p : Pip) : Bool := (p.capA.length, p.capB.length, p.capC.length) == pipFull d p

/-- The pips in capture. -/
def held (c : Checker) : List Pip := c.pips.filter fun p => p.st != .selected

/-- The capture need of a held pip. -/
def heldNeed (c : Checker) (p : Pip) : Nat :=
  match c.ops.find? fun o => o.uid == p.op with
  | some o => pipNeed o.desc
  | none => 0

/-- The capture SRAM in use, in bytes. -/
def capUsed (c : Checker) : Nat := (held c).foldl (fun a p => a + heldNeed c p) 0

/-- Space for one more pip of an operation (R102): 48 pips, one row fragment, 96 KiB. [DEDUCED, log entry 23] -/
def capRoom (c : Checker) (d : Desc) : Bool :=
  decide ((held c).length < 48) && decide (capUsed c + pipNeed d ≤ 98304) &&
    (!(clsRow d.cls) || (held c).all fun p => (c.ops.find? fun o => o.uid == p.op).all fun o => !(clsRow o.desc.cls))

/-- Whether two pips are the same one. -/
def samePip (p q : Pip) : Bool := p.op == q.op && p.grain == q.grain

/-- Rewrite a pip. -/
def modPip (s : State) (x : Nat) (p : Pip) (f : Pip → Pip) : State :=
  modChk s x fun c => { c with pips := c.pips.map fun q => if samePip q p then f q else q }

/-- The operation may be complete: its residue outcome is known and no pip of it remains (R106). -/
def maybeJudged (s : State) (x uid : Nat) : State :=
  match opOf s x uid with
  | none => s
  | some o =>
    if o.done && !((tile s x).chk.pips.any fun p => p.op == uid) then post s (.opJudged x uid) else s

/-- A pip is skipped with a cause (R102, R104): its space is freed, and its work where it was admitted. -/
def skipPip (s : State) (x : Nat) (o : Op) (p : Pip) (c : Cause) : State :=
  let s := covCause (cov s o.interval (part s o.host) 10 1) o.interval c 1
  let s := modChk (tcnt s x 11) x fun k =>
    { k with
      pips := k.pips.filter fun q => !(samePip q p), skipped := true,
      backlog := if p.st == .runnable then k.backlog - pipCost o.desc else k.backlog,
      runq := k.runq.filter fun q => !(q.1 == p.op && q.2.1 == p.grain) }
  if p.forced then modOp s x o.uid fun o => { o with forcedSkipped := true } else s

/-- A pip whose capture is complete becomes runnable, or is skipped with BACKLOG (R103, R104). -/
def pipRuns (s : State) (x : Nat) (o : Op) (p : Pip) : State :=
  let cost := pipCost o.desc
  if (tile s x).chk.backlog + cost > 1800 then skipPip s x o p .backlog
  else
    modChk (modPip s x p fun q => { q with st := .runnable }) x fun c =>
      { c with backlog := c.backlog + cost, runq := c.runq ++ [(p.op, p.grain, p.forced)] }

/-- One pip sees a beat (R101, R102). `lost`: the checker dropped it. -/
def pipBeat (x : Nat) (o : Op) (st : Stream) (es : List Elem) (lost : Bool) (s : State) (p : Pip) : State :=
  let t := pipTakes o.desc p st es
  if t.isEmpty || p.st == .runnable then s
  else if lost then skipPip s x o p .pipDrop
  else if p.st == .selected && !(capRoom (tile s x).chk o.desc) then skipPip s x o p .captureBusy
  else
    let q := match st with
      | .a => { p with st := .capturing, capA := p.capA ++ t }
      | .b => { p with st := .capturing, capB := p.capB ++ t }
      | .c => { p with st := .capturing, capC := p.capC ++ t }
    let s := modPip s x p fun _ => q
    if pipComplete o.desc q then pipRuns s x o q else s

/-- The pips of an operation see a beat. -/
def pipsBeat (s : State) (x : Nat) (o : Op) (st : Stream) (es : List Elem) (lost : Bool) : State :=
  forEach ((tile s x).chk.pips.filter fun p => p.op == o.uid) s (pipBeat x o st es lost)

/-- The selected pips of a new operation (R98, R100, R102). -/
def selectPips (s : State) (x : Nat) (o : Op) (dens : Option Nat) (forced : List Grain) : State :=
  let drawn := match dens with
    | some d => drawnGrains s o.desc d
    | none => []
  let forced := if clsAcc o.desc.cls then [] else forced
  let all := forced.map (fun g => (g, true)) ++ ((drawn.filter fun g => !(forced.contains g)).map fun g => (g, false))
  let s := tcnt s x 9 all.length
  forEach all s fun s (g, f) =>
    let p : Pip := { op := o.uid, grain := g, forced := f }
    if pipTooBig o.desc then skipPip s x o p .captureLimit
    else modChk s x fun c => { c with pips := c.pips ++ [p] }

/-- The captured value at an index. -/
def capAt (fmt : Nat) (l : List (Nat × Nat × Nat)) (i : Nat) : Fl :=
  match l.find? fun t => t.1 == i with
  | some (_, b, sc) => decodeElem fmt b sc
  | none => flZero

/-- The products of a DOT pip, or the contributions of a REDUCE pip, in ascending k (R103). [DEDUCED, log entry 159] -/
def pipProducts (d : Desc) (con : Contract) (p : Pip) : List Fl :=
  let daz := cClass con == 1 && cDaz con
  (upto d.k).map fun k =>
    let a := dazOperand daz d.fmtA (capAt d.fmtA p.capA k)
    if clsSum d.cls then a else flMul a (dazOperand daz d.fmtB (capAt d.fmtB p.capB k))

/-- The outcome of a DOT or REDUCE pip (R105). -/
def pipSumOut (d : Desc) (con : Contract) (p : Pip) : PipOut :=
  let ps := pipProducts d con p
  let h := capAt d.fmtC p.capC 0
  match cClass con with
  | 1 => if flSame (orderedResult con ps) h then .agree else .mismatch
  | k =>
    if !(ps.all flFinite) || windowExceeded ps then .undecidable
    else if k == 2 then pipBounded con d.k ps h
    else
      let q := match p.capC with
        | (_, b, _) :: _ => fx96q b
        | [] => 0
      if flEq (exactSum ps) h && (d.fmtC != 0x31 || q == d.q) then .agree else .mismatch

/-- The outcome of one element of a ULP pip (R52). -/
def pipElemOut (d : Desc) (con : Contract) (p : Pip) (j : Nat) : PipOut :=
  let row := clsRow d.cls
  let rowV := if row then (upto d.n).map (capAt d.fmtA p.capA) else []
  let x := capAt d.fmtA p.capA (if row then j else 0)
  let b := if clsHasB d.cls then capAt d.fmtB p.capB (if row then j else 0) else flZero
  let e := if d.cls == 0x12 then capAt d.fmtB p.capB 1 else if d.cls == 0x22 then capAt d.fmtB p.capB (d.n + j) else flZero
  let c := p.capC.find? fun t => t.1 == (if row then j else 0)
  match c with
  | some (_, bits, sc) => ulpOutcome con d.cls j rowV x b e d.eps sc (decodeElem d.fmtC bits sc)
  | none => .undecidable

/-- The outcome of a pip (R105). -/
def pipOutcomeOf (o : Op) (p : Pip) : PipOut :=
  let d := o.desc; let con := opCon o
  if clsElem d.cls then
    if clsRow d.cls then pipCombine ((upto (fragWidth d p.grain.j)).map fun i => pipElemOut d con p (32 * p.grain.j + i))
    else pipElemOut d con p 0
  else pipSumOut d con p

/-! ### Mismatches (R81, R90–R92, R106, R125, R126) -/

/-- The identity of an operation (R96). -/
def idOf (d : Desc) : OpId := ⟨d.ctx, d.tag, d.mb⟩

/-- An operation of a host tile that checker `x` has adopted; one that it screens as an arbitration's neighbour is none (R90). -/
def foreign (x : Nat) (o : Op) : Bool := x != o.host && !o.asNeighbour

/-- A capture about an operation with the checker's capture words (R91). -/
def raiseOp (s : State) (code : Nat) (o : Op) (w : List Word) : State :=
  let d := o.desc
  raise s
    { code := code, access := 7, master := o.host, addr := opIdent d, part := partOf s o.host, ctx := some d.ctx,
      tile := some o.host, words := w }

/-- A residue MISMATCH (R81). One that an arbitration's neighbour finds is no count of COV_MISMATCH. [DESIGN CHOICE, log entry 175] -/
def resMismatch (s : State) (x : Nat) (o : Op) (idx member : Nat) : State :=
  let s := raiseOp s (fcode 0 2 0) o [pack [(0, 32, idx), (32, 16, member)]]
  let w := pack [(62, 1, b2n (foreign x o)), (48, 8, o.desc.contract), (30, 2, b2n o.rowForm), (16, 14, idx),
    (0, 16, o.desc.tag)]
  let s := modChk s x fun c => { c with res := heldPost c.res w 0 (stamp s) }
  let s := if o.asNeighbour then s else cov s o.interval (part s o.host) 12 1
  let s := ring s x 3 (foreign x o) idx (idOf o.desc)
  post s (.arbOpen o.host x (idOf o.desc) [])

/-- A pip MISMATCH (R106). One that an arbitration's neighbour finds is no count of COV_MISMATCH. [DESIGN CHOICE, log entry 175] -/
def pipMismatch (s : State) (x : Nat) (o : Op) (p : Pip) : State :=
  let g := p.grain
  let col := if clsRow o.desc.cls then 32 * g.j else g.j
  let s := raiseOp s (fcode 0 2 1) o [pack [(0, 32, col), (32, 16, g.g)], pack [(0, 32, g.i)]]
  let w := pack [(62, 1, b2n (foreign x o)), (61, 1, b2n p.forced), (48, 8, o.desc.contract), (16, 16, g.g), (0, 16, o.desc.tag)]
  let w1 := pack [(40, 24, g.i), (16, 24, col)]
  let s := modChk s x fun c => { c with pip := heldPost c.pip w w1 (stamp s) }
  let s := if o.asNeighbour then s else cov s o.interval (part s o.host) 12 1
  let s := ring s x 3 (foreign x o) col (idOf o.desc)
  post s (.arbOpen o.host x (idOf o.desc) [g])

/-- PIP_OUTCOME (R103–R106): the reference unit of a checker finishes its oldest runnable pip. [DEDUCED, log entry 26] -/
def pipOutcome (x : Nat) (s : State) : State :=
  match (tile s x).chk.runq with
  | [] => s
  | (uid, g, _) :: _ =>
    match opOf s x uid, (tile s x).chk.pips.find? fun p => p.op == uid && p.grain == g with
    | some o, some p =>
      let out := pipOutcomeOf o p
      let s := modChk s x fun c =>
        { c with runq := c.runq.drop 1, backlog := c.backlog - pipCost o.desc, pips := c.pips.filter fun q => !(samePip q p) }
      let pt := part s o.host; let iv := o.interval
      let s := match out with
        | .agree => tcnt (cov (modOp s x uid fun o => { o with pipAgree := true }) iv pt 7 1) x 10
        | .mismatch => tcnt (cov (modOp s x uid fun o => { o with pipMismatch := true }) iv pt 7 1) x 10
        | .within => cov (modOp s x uid fun o => { o with pipWithin := true }) iv pt 8 1
        | .undecidable => undecided (tcnt (cov s iv pt 9 1) x 12) iv (cNo (opCon o))
      let s := if out == .mismatch then pipMismatch s x o p else s
      maybeJudged s x uid
    | _, _ => modChk s x fun c => { c with runq := c.runq.drop 1 }

/-! ### Beats at a checker -/

/-- A beat of an operation reaches its checker: taken, skipped by its lanes, or dropped (R20, R78, R107–R109). RES_STATUS.DEFICIT
is set by a skipped one. [DEDUCED, log entry 170] -/
def chkBeat (s : State) (x : Nat) (o : Op) (st : Stream) (i : Nat) (data : Beat) (scale : Word) (lost skipped : Bool) : State :=
  let es := beatElems o.desc st i data scale
  if lost then
    let s := modOp s x o.uid fun o =>
      let o := if o.runsResidue then loseBeat (tile s x).chk true o st es fun k => { k with dropped := true } else o
      match st with
      | .a => { o with lostA := true }
      | .b => { o with lostB := true }
      | .c => { o with lostC := true }
    let s := ring (tcnt s x 6) x 5 (foreign x o) (match st with | .a => 1 | .b => 2 | .c => 3) (idOf o.desc)
    pipsBeat s x o st es true
  else
    let s := modOp s x o.uid fun o =>
      match st with
      | .a => { o with sigA := foldBeat o.sigA data }
      | .b => { o with sigB := foldBeat o.sigB data }
      | .c => { o with sigC := foldBeat o.sigC data }
    let skip := skipped && streamPart o st == 2
    let s := match opOf s x o.uid with
      | none => s
      | some o =>
        if !o.runsResidue then s
        else
          let was := o.orderRaised
          let (c, o') := es.foldl (if skip then skipElem st else ingestElem st) ((tile s x).chk, o)
          let s := modOp (modChk s x fun _ => { c with deficit := c.deficit || skip }) x o.uid fun _ => o'
          if o'.orderRaised && !was then
            raiseOp (modChk s x fun c => { c with orderFault := true }) (fcode 0 1 2) o []
          else s
    pipsBeat s x o st es false

/-- The beats of a stream from number `i` on never came (R384). [DEDUCED, log entry 22] -/
def chkMissing (s : State) (x : Nat) (o : Op) (st : Stream) (i : Nat) : State :=
  forEach ((upto (streamBeats o.desc st)).drop i) s fun s k =>
    let es := beatElems o.desc st k 0 0
    let s := modOp s x o.uid fun o =>
      let o := if o.runsResidue then loseBeat (tile s x).chk false o st es fun c => { c with dropped := true } else o
      match st with
      | .a => { o with lostA := true }
      | .b => { o with lostB := true }
      | .c => { o with lostC := true }
    pipsBeat s x o st es true

/-! ### Verdicts (R45, R46, R75, R79–R81) -/

/-- The causes that come before every other (R79, R123). -/
def causeFirst (c : Cause) : Bool := c == .noResidue || c == .rowLimit || c == .incomplete

/-- The cause that leaves a check unscreened, if any: the first in the table of R79. -/
def checkCause (o : Op) (bad : Bool) (k : Check) : Option Cause :=
  let cut := if o.cutAll || k.cut then o.cut else none
  if (o.cause.filter causeFirst).isSome then o.cause
  else if cut.isSome then cut
  else if o.cause.isSome then o.cause
  else if k.nonfinite || o.redBad || bad then some .nonfinite
  else if k.order then some .order
  else if k.dropped || o.redDrop then some .drop
  else if k.deficit then some .deficit
  else none

/-- The observed quantity of a check with the carried sums subtracted, and the carried magnitude. -/
def carriedOut (o : Op) (prev : Option StoreKey) (i : Nat) (k : Check) : Quant × Fl :=
  match prev with
  | none => (k.obs, flZero)
  | some p =>
    let v := sget {} p.vals i
    if o.exact then ({ r := (k.obs.r + resP - v.r) % resP }, flZero)
    else ({ k.obs with lo := r32 3 (flAdd 3 k.obs.lo (flNeg v.hi)), hi := r32 2 (flAdd 2 k.obs.hi (flNeg v.lo)) }, v.mag)

/-- The verdict of a check that runs, none where its bound is infinite (R48, R66, R68, R75). -/
def checkVerdict (o : Op) (prev : Option StoreKey) (i : Nat) (k : Check) : Option OpOut :=
  let (obs, t) := carriedOut o prev i k
  if o.exact then some (if obs.r == k.ref.r && !k.expBad then .agree else .mismatch)
  else
    let con := opCon o
    let sum := if clsSum o.desc.cls then k.ref.mag else if prev.isSome then r32 2 (flAdd 2 k.ref.mag t) else k.ref.mag
    let b := boundOf con (boundK con o.desc.k + b2n (clsAcc o.desc.cls)) sum
    if !(flFinite sum) || !(flFinite b) then none
    else some (if boundFails obs.lo obs.hi k.ref.lo k.ref.hi b then .mismatch else .within)

/-- What the residue unit finds: the outcome, the first failing check, the counts (screened, limit), the unscreened elements by
cause, and whether an infinite bound has made the operation WIDE_K (R48). -/
structure ResOut where
  out : OpOut := .unscreened
  fail : Option Nat := none
  screened : Nat := 0
  limit : Nat := 0
  causes : List (Cause × Nat) := []
  wide : Bool := false
deriving DecidableEq, Repr

/-- The residue outcome of a closed operation (R79, R80). `bad` says that its stationary entry is tainted. -/
def residueOut (o : Op) (prev : Option StoreKey) (bad : Bool) : ResOut :=
  let e := checkElems o
  let chk (i : Nat) : Check := sget {} o.checks i
  let idx := upto (checkCount o)
  let wide := !o.exact && idx.any fun i => (checkCause o bad (chk i)).isNone && (checkVerdict o prev i (chk i)).isNone
  let o := if wide then { o with cause := some .wideK } else o
  idx.foldl (fun r i =>
    match checkCause o bad (chk i) with
    | some c => { r with causes := r.causes ++ [(c, e)] }
    | none => match checkVerdict o prev i (chk i) with
      | some .mismatch =>
        { r with out := .mismatch, fail := if r.fail.isNone then some i else r.fail, screened := r.screened + e }
      | some .agree => { r with out := if r.out == .mismatch then .mismatch else .agree, screened := r.screened + e }
      | _ => { r with out := if r.out == .mismatch then .mismatch else .within, limit := r.limit + e }) { wide := wide }

/-- An accumulation closed with a mismatch, or with a check unscreened for another reason than CARRY_MISS: its carried entry
is tainted (R75, R490). [DEDUCED, log entry 28] -/
def carryBad (o : Op) (r : ResOut) : Bool :=
  r.out == .mismatch || (r.causes.any fun p => p.1 != .carryMiss) ||
    (upto (checkCount o)).any fun i => (checkCause { o with cause := none } false (sget {} o.checks i)).isSome

/-- The carried or stationary entry an operation has built is kept or dropped (R48, R75, R490): a stationary one where all of
TAP_B has been ingested, a carried one where all of TAP_C has. -/
def keyCloses (s : State) (x : Nat) (o : Op) (r : ResOut) : State :=
  match o.builds with
  | none => s
  | some id =>
    let carried := clsBuildsCarry o.desc.cls
    let whole := match o.cause with
      | some .carryMiss | some .incomplete | none => true
      | _ => false
    let kept := whole && !r.wide && o.runsResidue && !(if carried then o.lostC else o.lostB)
    modChk s x fun c =>
      let c := updKey c id fun k =>
        { k with
          tainted := k.tainted || (carried && carryBad o r),
          vals := if carried then (upto (checkCount o)).foldl (fun m i => sset {} m i (sget {} o.checks i).obs) [] else k.vals }
      storeTidy (if kept then c else entryFails c id o.uid)

/-- A signature entry's place in SIG_LAST and the phase signature, that of the phase in which its descriptor completed (R111,
R127, R385). -/
def sigCloses (s : State) (x : Nat) (o : Op) : State :=
  if o.asNeighbour then s
  else
    let incC := o.lostC || o.sigInc
    let inc := o.lostA || o.lostB || incC
    let ln := logicalNum s o.host
    let mine := o.phase == s.step.eng.sigPhase && decide (s.step.eng.sigMark ≤ o.mark)
    let whole := mine && !incC
    let s := modChk s x fun c =>
      let sq := wrapAdd 16 c.sigSeq 1
      { c with
        sigSeq := sq, sigD := o.sigD, sigA := o.sigA, sigB := o.sigB, sigC := o.sigC,
        sigTag := pack [(63, 1, 1), (62, 1, b2n inc), (61, 1, b2n (foreign x o)), (32, 16, sq), (16, 16, o.desc.mb), (0, 16, o.desc.tag)],
        phaseSig := if whole then
            c.phaseSig ^^^ foldSigs o.sigC [BitVec.ofNat 64 o.desc.tag, BitVec.ofNat 64 (o.desc.ctx * 2 ^ 16 + ln)]
          else c.phaseSig,
        phaseOps := if whole then c.phaseOps + 1 else c.phaseOps, phaseInc := c.phaseInc || (mine && incC) }
    let s := if inc then tcnt (cov s o.interval (part s o.host) 11 1) x 13 else s
    katCompare s o.host o

/-- Every open operation that waits on the one just closed takes its verdict. -/
def wakeWaiters (s : State) (x uid : Nat) : State :=
  forEach ((tile s x).chk.ops.filter fun o => o.closed && !o.done && o.waitsOn == some uid) s fun s o =>
    post (modOp s x o.uid fun o => { o with waitsOn := none }) (.opClosed x o.uid)

end Sys2Proof.Machine
end

