-- ==== Sys2Proof/Machine/Watch.lean ====
section
/-! DEFINITION. The hang watch of a host tile and its suspect set (R275–R277), and what a suspect's replay is (R241, R287,
R289). -/
namespace Sys2Proof.Machine

/-- A host tile is busy while one of its operations is open (R275). -/
def tileBusy (s : State) (n : Nat) : Bool := !((tile s n).port.opn.isEmpty)

/-- A context joins a suspect set of up to sixteen; another one sets OVERFLOW (R277). -/
def addSuspect (w : Watch) (ctx : Nat) : Watch :=
  if w.suspects.any fun x => x.ctx == ctx then w
  else if w.suspects.length ≥ 16 then { w with overflow := true }
  else { w with suspects := w.suspects ++ [{ ctx := ctx }] }

/-- The watch restarts: on a busy tile with the contexts of its open operations, on another idle (R275, R277). -/
def watchRestart (s : State) (n : Nat) : State :=
  let t := tile s n
  let w : Watch := { t.watch with on := tileBusy s n, hung := false, suspects := [], overflow := false }
  modWatch s n fun _ => t.port.opn.foldl (fun w o => addSuspect w o.desc.ctx) w

/-- The watch of a tile returns to idle (R280). -/
def watchIdle (s : State) (n : Nat) : State :=
  modWatch s n fun w => { w with on := false, hung := false, hungSeq := none, suspects := [], overflow := false }

/-- A descriptor has completed on a tile (R275, R277): the tile becomes busy, or its context joins the set. A hung tile that
stays busy keeps its frozen set (R278). -/
def watchDesc (s : State) (n ctx : Nat) : State :=
  let t := tile s n
  if t.watch.on then modWatch s n fun w => addSuspect w ctx
  else if t.watch.hung && decide (1 < t.port.opn.length) then s
  else watchRestart s n

/-- The suspect that replays now on tile `n`, if one does (R286). -/
def replaying (s : State) (n : Nat) : Option Suspect :=
  if s.search.state == 2 && s.search.hung.tile == n then s.search.hung.suspects[s.search.current]? else none

/-- Work of a context on a tile is a suspect's replay (R287). -/
def suspectWork (s : State) (n ctx : Nat) : Bool := (replaying s n).any fun x => x.ctx == ctx

/-- Rewrite the search. -/
def modSearch (s : State) (f : Search → Search) : State := { s with search := f s.search }

/-- The current suspect gets a result (R287). -/
def suspectResult (s : State) (r : Nat) : State :=
  modSearch s fun q =>
    let put (l : List Suspect) : List Suspect := match l[q.current]? with
      | some x => l.set q.current { x with result := r }
      | none => l
    { q with hung := { q.hung with suspects := put q.hung.suspects } }

/-- A descriptor of another context completes on the tile while a suspect runs: the suspect is ABANDONED (R287). -/
def searchDesc (s : State) (n ctx : Nat) : State :=
  if (replaying s n).any fun x => x.ctx != ctx then
    modSearch (suspectResult s 4) fun q => { q with state := 1, mismatch := false }
  else s

/-- A MISMATCH on a suspect's operation (R287). -/
def searchMismatch (s : State) (o : Op) : State :=
  if o.suspect && suspectWork s o.host o.desc.ctx then modSearch s fun q => { q with mismatch := true } else s

end Sys2Proof.Machine
end

