-- ==== Sys2Proof/Machine/Tap.lean ====
section
/-! DEFINITION. The tap shell: descriptors, beats and the closing of operations, the flushes of a checker's store, and the
reset of a host tile (R20, R61, R70–R83, R238, R380–R387). -/
namespace Sys2Proof.Machine

/-! ### Descriptors (R381, R382, R384) -/

/-- A finite positive binary32 encoding. -/
def posF32 (b : Nat) : Bool := decide (0 < b) && decide (b < 0x7F800000)

/-- The word that a rejected descriptor names, none where it is sound (R382). [DEDUCED, log entry 68] -/
def descOffends (ws : List Word) : Option Nat :=
  let d := descOf ws
  let w (i : Nat) := nthW ws i
  let eps := d.cls == 0x21 || d.cls == 0x22
  let bad1 := fld (w 1) 11 0 != 0 || !(clsDefined d.cls) || (fmtMX d.fmtA && d.aM) || (fmtMX d.fmtB && d.bN)
  let noEntry (st : Stream) : Bool := streamUsed d st && fmtPerBeat (streamFmt d st) == 0
  let bad2 := fld (w 2) 39 32 != 0 || (d.q != 0 && d.fmtC != 0x31) || (!(clsHasB d.cls) && d.fmtB != 0) ||
    [Stream.a, .b, .c].any noEntry
  let bad3 := if clsSum d.cls then d.m != 1 || d.n == 0 else d.m == 0 || d.n == 0
  let kBad := if clsDot d.cls then d.k == 0 else if clsSum d.cls then decide (d.k < 2) else d.k != 0
  let bad4 := kBad || fld (w 4) 15 0 != 0 || (if d.cls == 4 then d.batch == 0 else d.batch != 1)
  let bad5 := fld (w 5) 31 0 != 0 || (if eps then !(posF32 d.eps) else d.eps != 0)
  firstBad [(!bad1, 1), (!bad2, 2), (!bad3, 3), (!bad4, 4), (!bad5, 5)]

/-- The largest term magnitude of an INT32 sum (R40). -/
def termMag (f : Nat) : Nat := if f == 0x20 then 128 else if f == 0x21 then 8 else 1

/-- K above the limit of R40. -/
def beyondK (d : Desc) : Bool :=
  d.fmtC == 0x22 && decide (d.k * (termMag d.fmtA * termMag d.fmtB) > 2 ^ 31 - 1)

/-- The fault of a descriptor against its contract (R61), if any. -/
def contractFault (con : Contract) (d : Desc) : Option Nat :=
  if cFmtA con != d.fmtA || cFmtB con != d.fmtB || cFmtC con != d.fmtC || cKind con != clsKind d.cls then
    some (fcode 0 2 5)
  else if beyondK d then some (fcode 0 2 6)
  else none

/-- Work that a completing descriptor belongs to is replay work (R238). -/
def replayNow (s : State) : Bool := isArmed s && s.step.eng.replay

/-- AUDIT is forced on a descriptor of a tile (R241): in a run that a decision orders so, and in a suspect's replay. -/
def forcedNow (s : State) (n : Nat) (d : Desc) : Bool := s.step.eng.runForced || suspectWork s n d.ctx

/-- The checker that screens a host position, or the cause that leaves the position unscreened (R222, R223, R248). -/
def screener (s : State) (n : Nat) : Nat ⊕ Cause :=
  match (pos s n).adopter with
  | some a => .inl a
  | none =>
    if chkServes s n then .inl n
    else .inr (if (pos s n).orphanLoad || !(groupServes s n) || clusterOut s n then .loading else .drop)

/-- The checker whose counters and ring take the events of a host position (R473). -/
def counterOf (s : State) (n : Nat) : Nat := (pos s n).adopter.getD n

/-- What becomes of a descriptor: the tile is fenced or its class withdrawn; unscreened under a cause, with a fault; or
screened by a checker under a contract at a level (R61, R206, R238–R240). -/
inductive Fate where
  | route
  | unscreened (c : Cause) (fault : Option Nat)
  | screen (x : Nat) (con : Contract) (lv : Level)
deriving DecidableEq, Repr

/-- The fate of a descriptor on host position `n`. -/
def fateOf (s : State) (n : Nat) (d : Desc) : Fate :=
  let lv := classLevel s d.contract (replayNow s) (forcedNow s n d)
  if fenced s n || lv == .quarantine then .route
  else if !(regActive s 2) then .unscreened .loading none
  else if d.contract = 0 then .unscreened .declared none
  else match contractOf s d.contract with
    | none => .unscreened .contract (some (fcode 0 2 4))
    | some con =>
      match contractFault con d with
      | some f => .unscreened .contract (some f)
      | none =>
        if lv == .off then
          .unscreened (if polReset s && levelReq s (classOf s d.contract) == 0 then .loading else .declared) none
        else match screener s n with
          | .inr c => .unscreened c none
          | .inl x => .screen x con lv

/-- The opening of a token group that work of group `g` belongs to now, made where there is none (R167). -/
def genFor (s : State) (g : Nat) : Nat × State :=
  match (s.step.gate.gens.filter fun x => x.group == g).getLast? with
  | some x => (x.id, s)
  | none =>
    let id := s.step.gate.nextGen
    (id, modGate s fun t => { t with nextGen := id + 1, gens := t.gens ++ [{ id := id, group := g }] })

/-- Rewrite an opening of a group. -/
def modGen (s : State) (id : Nat) (f : GateGen → GateGen) : State :=
  modGate s fun t => { t with gens := t.gens.map fun x => if x.id == id then f x else x }

/-- In DECODE a descriptor joins its group's opening; one that completes after a token of it was presented is late
(R168). Answers the opening, 0 outside an armed DECODE job. -/
def joinGroup (s : State) (n : Nat) (d : Desc) : Nat × State :=
  if isArmed s && isDecode s then
    let (id, s) := genFor s d.mb
    let late := s.step.gate.gens.any fun x => x.id == id && x.presented
    (id, if late then post (raiseTap s (fcode 3 2 11) n d) (.badGen id) else s)
  else (0, s)

/-- The operation that checker `x` opens (R70–R75, R98–R102, R108). -/
def openOn (s : State) (n x num : Nat) (ws : List Word) (con : Contract) (lv : Level) (gen : Nat) (nbr round : Bool)
    (forced : List Grain) : State :=
  let d := descOf ws
  let c := (tile s x).chk
  let o : Op :=
    { uid := c.nextUid, host := n, num := num, desc := d, contract := some con, level := lv, replay := replayNow s,
      phase := phaseCode s.step.eng.phase, asNeighbour := nbr, round := round,
      suspect := suspectWork s n d.ctx, run := s.step.eng.runId,
      mark := s.step.eng.marks, interval := s.step.cov.no, gen := gen,
      sigD := foldSigs (BitVec.allOnes 64) ws, sigA := BitVec.allOnes 64, sigB := BitVec.allOnes 64,
      sigC := BitVec.allOnes 64 }
  let longRow := clsRow d.cls && decide (d.n > 16384)
  let (c, o) :=
    if longRow then (dropBuilt c n d, { o with cause := some .rowLimit })
    else if !(cRes con) || cKind con == 2 then (dropBuilt c n d, { o with cause := some .noResidue })
    else openResidue c o
  let s := modChk s x fun _ => { c with ops := c.ops ++ [o], nextUid := o.uid + 1 }
  let dens := pipDensity s x con lv d
  let s := if nbr || dens.isNone then s else cov s o.interval (part s n) 6 (elemsOf d)
  selectPips s x o dens (if longRow then [] else forced)

/-- The arbitration of host position `n` screens the present work as its round (R117): the run is a replay run after the
one that raised it. -/
def roundNow (s : State) (n : Nat) : Bool :=
  let a := (tile s n).arb
  (a.state == .waitReplay || a.state == .waitSolo || a.state == .round2) && replayNow s && s.step.eng.runId != a.skipRun

/-- The results of an earlier run are no part of the round that the present run is (R117). -/
def roundOpens (s : State) (n : Nat) : State :=
  modArb s n fun a =>
    if a.rounds.head? == some s.step.eng.runId then a
    else
      { a with
        rounds := s.step.eng.runId :: a.rounds,
        items := (a.items.filter (·.inSet)).map fun i => { i with x := none, y := none } }

/-- In DECODE a raise that would reach AUDIT is capped; one record of it is posted for each replay run (R242). -/
def demoteRecord (s : State) (n : Nat) (d : Desc) : State :=
  let c := classOf s d.contract
  let lv := if levelReq s c = 0 then levelDefault s c else levelReq s c
  let raised := lv != 0 && lv != 5 && (forcedNow s n d || decide (lv ≥ 3))
  if isDecode s && replayNow s && raised && s.step.eng.demoted != s.step.eng.runId && secState s != .locked &&
      regActive s 2 && (contractOf s d.contract).isSome && !(fenced s n) then
    modEng (raiseTap s (fcode 6 0 0) n d) fun e => { e with demoted := e.runId }
  else s

/-- Word 5 has completed a descriptor (R70, R382, R384). -/
def descComplete (s : State) (n : Nat) (ws : List Word) : State :=
  let p := (tile s n).port
  let num := p.num
  let d := descOf ws
  let s := modPort s n fun p => { p with num := (num + 1) % 16, words := [] }
  let bad := if p.opn.length ≥ 8 || p.opn.any (fun o => o.num == num) then some ((descOffends ws).getD 0) else descOffends ws
  match bad with
  | some k => raisePort s fcPortRange 0 n (nthW ws k).toNat (partOf s n)
  | none =>
    let z := counterOf s n
    let s := ring (tcnt s z 0) z 1 (z != n) (num + d.contract * 2 ^ 8) (idOf d)
    let iv := s.step.cov.no
    let s := cov s iv (part s n) 0 1
    let s := if replayNow s then modCov s fun c => { c with replay := true } else s
    let s := modPos s z fun q => { q with segment := false }
    let (gen, s) := joinGroup (demoteRecord s n d) n d
    let o : PortOp :=
      { num := num, desc := d, bOpen := streamUsed d .b, gen := gen, run := s.step.eng.runId, mark := s.step.eng.marks,
        phase := phaseCode s.step.eng.phase, interval := iv, suspect := suspectWork s n d.ctx }
    let s := modPort s n fun p => { p with opn := p.opn ++ [o] }
    let s := match screener s n with
      | .inl _ => watchDesc s n d.ctx
      | .inr _ => s
    let s := searchDesc s n d.ctx
    let noResidue (s : State) : State := match screener s n with
      | .inl x => modChk s x fun c => dropBuilt c n d
      | .inr _ => s
    match fateOf s n d with
    | .route =>
      let s := unscreened (raiseTap (noResidue s) (fcode 0 2 7) n d) iv n .drop (elemsOf d)
      if isDecode s then post s (.badGroup d.mb)
      else if o.suspect then s
      else post s (.require 4 false none 13)
    | .unscreened c f =>
      let s := match f with
        | some code => raiseTap s code n d
        | none => s
      unscreened (noResidue s) iv n c (elemsOf d)
    | .screen x con lv =>
      let s := modPort s n fun p => { p with opn := p.opn.map fun o => if o.num == num then { o with checker := some x } else o }
      let round := roundNow s n
      let s := if round then roundOpens s n else s
      let a := (tile s n).arb
      let forced := if round then ((a.items.find? fun i => i.id == idOf d).map (·.forced)).getD [] else []
      let s := openOn s n x num ws con lv gen false round forced
      if round && a.nbrValid && a.state != .waitSolo then openOn s n a.nbr num ws con lv gen true true forced else s

/-- TAP_DESC_WORD (R381, R387): words presented while tile_rst_req is high are dropped. -/
def tapDescWord (n : Nat) (word : Word) (last : Bool) (s : State) : State :=
  let p := (tile s n).port
  if p.rstReq then s
  else
    let i := p.words.length
    if last != (i == 5) then raisePort (modPort s n fun p => { p with words := [] }) fcPortRange 0 n word.toNat (partOf s n)
    else if i == 5 then descComplete s n (p.words ++ [word])
    else modPort s n fun p => { p with words := p.words ++ [word] }

/-! ### Beats (R20, R383, R384) -/

/-- The beats an operation has had on a stream, and whether the stream is open. -/
def portStream (o : PortOp) : Stream → Nat × Bool
  | .a => (o.aCnt, o.aOpen)
  | .b => (o.bCnt, o.bOpen)
  | .c => (o.cCnt, o.cOpen)

/-- The same after one more beat. -/
def portTakes (o : PortOp) (st : Stream) (open_ : Bool) : PortOp :=
  match st with
  | .a => { o with aCnt := o.aCnt + 1, aOpen := open_ }
  | .b => { o with bCnt := o.bCnt + 1, bOpen := open_ }
  | .c => { o with cCnt := o.cCnt + 1, cOpen := open_ }

/-- The place of a stream among the counters and among the sub-ports of a tile. [DESIGN CHOICE, log entry 71] -/
def streamNo : Stream → Nat
  | .a => 0
  | .b => 1
  | .c => 2

/-- The checkers that hold an operation of host tile `n`, with it. -/
def holders (s : State) (n num : Nat) : List (Nat × Op) :=
  (s.tiles.flatMap fun (x, t) => (t.chk.ops.filter fun o => o.host == n && o.num == num && !o.closed).map fun o => (x, o))

/-- A beat of host position `n` counts as dropped in a coverage interval (R20, R384). [DEDUCED, log entry 29] -/
def beatDropped (s : State) (iv n : Nat) : State := cov s iv (part s n) 5 1

/-- An operation that no checker has opened closes on the shell (R213). -/
def portUnseen (s : State) (o : PortOp) : State := if o.checker.isSome then s else katUnseen s o.desc

/-- The operation closes on the shell: it is judged by every checker that holds it (R81, R384). [DEDUCED, log entry 22] -/
def portCloses (s : State) (n num : Nat) : State :=
  let s := forEach ((tile s n).port.opn.filter fun o => o.num == num) s portUnseen
  let s := modPort s n fun p => { p with opn := p.opn.filter fun o => o.num != num }
  let hs := holders s n num
  let s := forEach hs s fun s (x, o) => post (modOp s x o.uid fun o => { o with closed := true }) (.opClosed x o.uid)
  post s .tokens

/-- TAP_BEAT (R384): a beat of stream `st` of host tile `n` for descriptor number `q`; the checkers that dropped it, and
those whose lanes skipped it (R78). It counts in the interval of its descriptor, one of no descriptor in the open one (R122), and
as dropped where the checker that has opened the operation does not take it. A checker that does not serve takes no beat (R14,
R20, R248, R341); a beat that no powered checker receives is not counted (R417). [DEDUCED, log entry 29] [DESIGN CHOICE, log entry 71] -/
def tapBeat (n : Nat) (st : Stream) (q : Nat) (data : Beat) (scale : Word) (last : Bool) (droppedAt skippedAt : List Nat)
    (s : State) : State :=
  let drops (x : Nat) : Bool := droppedAt.contains x || s.stop.frozenTiles.contains x || !(chkServes s x)
  let p := (tile s n).port
  let z := counterOf s n
  let received (f : State → State) (s : State) : State := if clusterOut s z then s else f s
  let dropped (iv : Nat) : State → State := received fun s => beatDropped s iv n
  let s := received (fun s => tcnt s z (3 + streamNo st)) s
  if p.rstReq then received (fun s => tcnt (beatDropped (cov s s.step.cov.no (part s n) 4 1) s.step.cov.no n) z 6) s
  else
    let refuse (iv : Nat) (s : State) : State :=
      dropped iv (raisePort s fcPortRange (1 + streamNo st) n data.toNat (partOf s n))
    match p.opn.find? fun o => o.num == q with
    | none => refuse s.step.cov.no s
    | some o =>
      let (i, isOpen) := portStream o st
      let due := streamBeats o.desc st
      if !(streamUsed o.desc st) || !isOpen || due ≤ i then refuse o.interval s
      else
        let ends := last || i + 1 == due
        let s := received (fun s => cov s o.interval (part s n) 4 1) s
        let s := if drops (o.checker.getD z) then dropped o.interval s else s
        let s := if last != (i + 1 == due) then raisePort s fcPortRange (1 + streamNo st) n data.toNat (partOf s n) else s
        let o' := portTakes o st (!ends)
        let s := modPort s n fun p => { p with opn := p.opn.map fun x => if x.num == q then o' else x }
        let s := forEach (holders s n q) s fun s (x, op) =>
          let s := chkBeat s x op st i data scale (drops x) (skippedAt.contains x)
          if ends && i + 1 < due then
            match opOf s x op.uid with
            | some op => chkMissing s x op st (i + 1)
            | none => s
          else s
        if o'.aOpen || o'.bOpen || o'.cOpen then s else portCloses s n q

/-! ### The close of an operation (R75, R79–R81, R106) -/

/-- The code of an outcome in a CLOSE event. -/
def outCode : OpOut → Nat
  | .agree => 0
  | .within => 1
  | .mismatch => 2
  | .unscreened => 3

/-- The counts of a closed operation's checks go to its coverage interval and its checker's counters (R79, R123). -/
def countClose (s : State) (x : Nat) (o : Op) (r : ResOut) : State :=
  let p := part s o.host
  let s := cov (cov s o.interval p 1 r.screened) o.interval p 2 r.limit
  let s := forEach r.causes s fun s (c, k) => unscreened s o.interval o.host c k
  let runs := checkCount o - r.causes.length
  let s := if o.runsResidue then tcnt (tcnt s x 7 runs) x 8 r.causes.length else s
  let s := tcnt (tcnt s x 1) x 15 (Config.riserPayloads o.uid)
  ring s x 2 (foreign x o) (outCode r.out) (idOf o.desc)

/-- The elements of an operation without checks of its own still count once each under its cause (R123). [DESIGN CHOICE, log entry 17] [DEDUCED, log entry 26] -/
def closeOut (o : Op) (prev : Option StoreKey) (bad : Bool) : ResOut :=
  if o.runsResidue || (o.cut.isSome && !((o.cause.map causeFirst).getD false)) then residueOut o prev bad
  else match o.cause with
    | some c => { causes := [(c, elemsOf o.desc)] }
    | none => {}

/-- The carried entry an MM_ACC compares against; one that a failed or unscreened predecessor built counts as missed
(R75). [DEDUCED, log entry 25] -/
def carriedFor (c : Checker) (o : Op) : Option StoreKey × Bool :=
  if !(clsAcc o.desc.cls) then (none, false)
  else match o.key.bind fun id => c.store.find? fun k => k.id == id with
    | some k => (some k, k.tainted)
    | none => (none, o.cause.isNone)

/-- The stationary entry of an operation holds a value that is not finite (R67). -/
def statTainted (c : Checker) (o : Op) : Bool := statForm o && ((o.key.bind (keyEntry c)).map (·.tainted)).getD false

/-- Whether a failed predecessor is the first cause of an operation's elements (R75, R79). -/
def missFirst (o : Op) : Bool := o.cause.isNone || o.cause == some .wideK

/-- A closed operation gets its residue outcome (R80, R81); `sigs` carries out what its signatures are for. -/
def closeEffect (sigs : State → Nat → Op → State) (x uid : Nat) (s : State) : State :=
  match opOf s x uid with
  | none => s
  | some o =>
    let waits := match o.waitsOn with
      | some u => (opOf s x u).any fun p => !p.done
      | none => false
    if o.done || waits then s
    else
      let c := (tile s x).chk
      let (prev, miss) := carriedFor c o
      let o := if miss && missFirst o then { o with cause := some .carryMiss } else o
      let r := closeOut o prev (statTainted c o)
      let s := if o.asNeighbour then s else countClose s x o r
      let m := if o.rowForm then o.desc.m else o.desc.n
      let s := match r.fail with
        | some i => resMismatch s x o (if clsSum o.desc.cls then 0 else i % m) (if clsSum o.desc.cls then 0 else i / m)
        | none => s
      let s := keyCloses s x o r
      let s := modOp s x uid fun p => { p with closed := true, done := true, residue := r.out, cause := o.cause, work := 0, waitsOn := none }
      let s := modChk s x storeTidy
      let s := if (o.contract.map cSig).getD false then sigs s x o else if o.asNeighbour then s else katCompare s o.host o
      maybeJudged (wakeWaiters s x uid) x uid

/-! ### Incomplete closes (R76, R83, R102) -/

/-- A pip of an operation that closes without its beats is skipped with a cause; `all` takes runnable ones too. -/
def skipPips (s : State) (x : Nat) (o : Op) (c : Cause) (all : Bool) : State :=
  forEach ((tile s x).chk.pips.filter fun p => p.op == o.uid && (all || p.st != .runnable)) s fun s p => skipPip s x o p c

/-- Pips are skipped with INCOMPLETE. -/
def skipIncomplete (s : State) (x : Nat) (o : Op) (all : Bool) : State := skipPips s x o .pipIncomplete all

/-- The open operations of every checker that `f` picks, with the checker. -/
def openOps (s : State) (f : Nat → Op → Bool) : List (Nat × Op) :=
  s.tiles.flatMap fun (x, t) => (t.chk.ops.filter fun o => opOpen o && f x o).map fun o => (x, o)

/-- The operation of a host tile on the shell that one on a checker screens. -/
def shellOp (s : State) (o : Op) : Option PortOp := (tile s o.host).port.opn.find? fun p => p.num == o.num && !o.closed

/-- An open operation closes on its checker without the beats that its streams still owe, as `f` marks it (R76, R83, R109). -/
def closeEarly (s : State) (x : Nat) (o : Op) (port : Option PortOp) (f : Op → Op) : State :=
  let owed (st : Stream) : Bool := port.any fun p => (portStream p st).2
  let s := modOp s x o.uid fun p =>
    f { p with waitsOn := none, closed := true, lostA := p.lostA || owed .a, lostB := p.lostB || owed .b, lostC := p.lostC || owed .c }
  post s (.opClosed x o.uid)

/-- An operation still open at the step-end marker closes with cause INCOMPLETE, and none of its signatures counts (R79, R83,
R109). -/
def closeIncomplete (s : State) (x : Nat) (o : Op) (port : Option PortOp) : State :=
  closeEarly (skipIncomplete s x o false) x o port fun p =>
    { p with cause := if p.cause.any causeFirst then p.cause else some .incomplete, sigInc := true }

/-- The open operations that `f` picks close INCOMPLETE, each with OP_INCOMPLETE; the shell forgets them (R83, R384). -/
def incompleteAll (s : State) (f : Desc → Bool) : State :=
  let opn := s.tiles.flatMap fun (n, t) => (t.port.opn.filter fun o => f o.desc).map fun o => (n, o.desc)
  let ops := (openOps s fun _ o => f o.desc).map fun (x, o) => (x, o, shellOp s o)
  let waiting := (ops.filter fun o => o.2.1.closed && !o.2.1.asNeighbour).map fun o => (o.2.1.host, o.2.1.desc)
  let s := forEach (opn ++ waiting) s fun s (n, d) => raiseTap s (fcode 0 1 3) n d
  let s := forEach (s.tiles.flatMap fun (_, t) => t.port.opn.filter fun o => f o.desc) s portUnseen
  let s := { s with tiles := s.tiles.map fun (n, t) =>
      (n, { t with port := { t.port with opn := t.port.opn.filter fun o => !(f o.desc) } }) }
  forEach ops s fun s (x, o, port) => closeIncomplete s x o port

/-- Every open operation closes INCOMPLETE at the step-end marker (R83). -/
def closeAllIncomplete (s : State) : State := incompleteAll s fun _ => true

/-- An open operation is discarded without a verdict, its elements counted under INCOMPLETE (R83). One that waits for it waits
no longer (R75). [DEDUCED, log entry 32] -/
def discardOp (s : State) (x : Nat) (o : Op) : State :=
  let s := skipIncomplete s x o true
  let s := if o.asNeighbour then s else unscreened s o.interval o.host .incomplete (elemsOf o.desc)
  let s := if o.asNeighbour then s else
    post s (.opDiscarded x { o with sigInc := true })
  let s := modChk s x fun c =>
    let c := { c with ops := c.ops.filter fun p => p.uid != o.uid }
    storeTidy (match o.builds with
      | some id => entryFails c id o.uid
      | none => c)
  wakeWaiters s x o.uid

/-- Every open operation that `f` picks is discarded; the shell forgets those of the tiles that `g` picks. [DEDUCED, log entry 33] -/
def discardOps (s : State) (f : Nat → Op → Bool) (g : Nat → PortOp → Bool) : State :=
  let ops := openOps s f
  let s := forEach (s.tiles.flatMap fun (n, t) => t.port.opn.filter (g n)) s portUnseen
  let s := { s with tiles := s.tiles.map fun (n, t) => (n, { t with port := { t.port with opn := t.port.opn.filter fun o => !(g n o) } }) }
  post (forEach ops s fun s (x, o) => discardOp s x o) .tokens

/-- TILE_RST_REQ rises (R83, R387): the tile's open operations are discarded. [DEDUCED, log entry 33] -/
def tileRst (n : Nat) (s : State) : State :=
  if (tile s n).port.rstReq then s
  else
    let z := counterOf s n
    let s := modPort s n fun p => { p with words := [], rstReq := true, rstAck := true }
    let s := discardOps s (fun _ o => o.host == n) (fun m _ => m == n)
    ring s z 6 (z != n) 0

/-- TILE_RST_REQ falls: the numbering restarts (R384, R387). -/
def tileRstFall (n : Nat) (s : State) : State :=
  if (tile s n).port.rstReq then modPort s n fun p => { p with rstReq := false, rstAck := false, num := 0 } else s

/-- The checks of an operation that the beats its streams still owe would feed are cut off, all of them where the beats are of
the reduced operand or the comparison needs a carried entry (R76, R222). -/
def cutRest (port : Option PortOp) (o : Op) : Op :=
  let d := o.desc
  let owed (st : Stream) : List Nat := match port.map fun p => portStream p st with
    | some (i, true) => (upto (streamBeats d st)).drop i
    | _ => []
  let cutBeat (st : Stream) (o : Op) (i : Nat) : Op := match streamPart o st with
    | 0 => o
    | 1 | 5 => { o with cutAll := true }
    | 4 => updCheck o 0 fun k => { k with cut := true }
    | _ => (beatElems d st i 0 0).foldl (fun o e => updCheck o (elemCheck o st e) fun k => { k with cut := true }) o
  [Stream.a, .b, .c].foldl (fun o st => (owed st).foldl (cutBeat st) o) { o with cut := some .workset, cutAll := clsAcc d.cls }

/-- The operations open on a checker close with their remaining checks unscreened under WORKSET (R76, R222); the host's streams
stay open on the shell. -/
def closeAtFlush (x : Nat) (s : State) : State :=
  forEach (openOps s fun y _ => y == x) s fun s (_, o) =>
    let port := shellOp s o
    closeEarly (skipIncomplete s x o false) x o port (cutRest port)

/-- The operations open on a checker that is lost close on it: none of their checks has a verdict any more, as if their beats
had been dropped (R14, R222, R417). [DEDUCED, log entry 31] -/
def closeLost (x : Nat) (s : State) : State :=
  let s := forEach ((tile s x).chk.ops.filter (·.done)) s fun s o => maybeJudged (skipPips s x o .pipDrop true) x o.uid
  forEach (openOps s fun y _ => y == x) s fun s (_, o) =>
    closeEarly (skipPips s x o .pipDrop true) x o (shellOp s o) fun p => { p with redDrop := true, sigInc := true }

/-- The whole store of a checker is flushed (R76). [DEDUCED, log entry 31] -/
def flushStore (x : Nat) (s : State) : State :=
  modChk (closeAtFlush x s) x fun c =>
    { c with
      store := [], flushGen := wrapAdd 16 c.flushGen 1,
      ops := c.ops.map fun o => { o with key := none, builds := none, waitsOn := none, work := if o.done then o.work else 0 } }

/-- A CONTRACTS region becomes ACTIVE (R340): keys whose record is gone or changed in word 0 are dropped. [DEDUCED, log entry 30] -/
def dropStale (s : State) : State :=
  let keep (k : StoreKey) : Bool := (contractOf s k.con).any fun c => c.w0 == k.w0
  { s with tiles := s.tiles.map fun (n, t) =>
      (n, { t with chk := storeTidy { t.chk with store := t.chk.store.map fun k => if keep k then k else { k with stale := true } } }) }

/-! ### Registers of a tile (R90–R92, R125–R127) -/

/-- RES_STATUS. -/
def resStatus (s : State) (n : Nat) : Word :=
  let c := (tile s n).chk
  let opn := (c.ops.filter fun o => o.work != 0).length
  pack [(48, 16, c.flushGen), (40, 8, missed8 c.res), (4, 4, min opn 4), (3, 1, b2n c.deficit), (2, 1, b2n c.orderFault),
    (1, 1, b2n (adoptedBy s n).isSome), (0, 1, b2n c.storeFull)]

/-- A write of RES_STATUS clears the bits written 1 (R90). -/
def resStatusWrite (n : Nat) (v : Word) (s : State) : State :=
  modChk s n fun c =>
    { c with
      deficit := c.deficit && !(bitOf v 3), orderFault := c.orderFault && !(bitOf v 2),
      storeFull := c.storeFull && !(bitOf v 0) }

/-- PIP_STATUS. -/
def pipStatus (s : State) (n : Nat) : Word :=
  let c := (tile s n).chk
  let gen := (s.sec.pipGen + 2 ^ 16 - c.keyGen % 2 ^ 16) % 2 ^ 16
  pack [(48, 16, gen), (40, 8, missed8 c.pip), (32, 8, reduction s (part s n)), (21, 11, c.backlog),
    (12, 9, ceilDiv (capUsed c) 256), (6, 6, (held c).length), (1, 1, b2n c.skipped),
    (0, 1, b2n ((tile s n).arb.state != .idle))]

/-- A write of PIP_STATUS clears SKIPPED (R125). -/
def pipStatusWrite (n : Nat) (v : Word) (s : State) : State :=
  if bitOf v 1 then modChk s n fun c => { c with skipped := false } else s

/-- The screening registers of a tile, by offset in its window (R90, R125). -/
def viewScreen (s : State) (n off : Nat) : Option Word :=
  let c := (tile s n).chk
  match off with
  | 0x00 => some (resStatus s n)
  | 0x08 => some (pack [(32, 15, keysUsed c), (16, 15, workUsed c), (0, 7, (c.store.filter (·.resident)).length)])
  | 0x10 => some (heldView c.res)
  | 0x18 => some 0
  | 0x20 => some c.res.time
  | 0x28 => some (pipStatus s n)
  | 0x30 => some (heldView c.pip)
  | 0x38 => some (setFld c.pip.w1 15 0 c.pip.seq)
  | 0x40 => some 0
  | 0x48 => some c.pip.time
  | 0x50 => some c.sigTag
  | 0x58 => some c.sigD
  | 0x60 => some c.sigA
  | 0x68 => some c.sigB
  | 0x70 => some c.sigC
  | _ => none

/-- RES_MISMATCH_ACK (R92). -/
def resAck (n : Nat) (v : Word) (s : State) : State := modChk s n fun c => { c with res := heldAck c.res v }

/-- PIP_MISMATCH_ACK (R126). -/
def pipAck (n : Nat) (v : Word) (s : State) : State := modChk s n fun c => { c with pip := heldAck c.pip v }

/-- VERDICT_LATE (R25): an overrun of an operation verdict, the step verdict or a DECODE group. The address of the first is the
oldest operation of the checker (R259). [DEDUCED, log entry 166] -/
def verdictLate (kind n : Nat) (s : State) : State :=
  let s := cnt s 0
  let ident := ((tile s n).chk.ops.head?.map fun o => opIdent o.desc).getD 0
  if kind == 0 then raise s { code := fcode 0 1 10, access := 7, master := n, addr := ident, part := partOf s n, tile := some n }
  else raiseI s (fcode 0 1 10) 1

end Sys2Proof.Machine
end

