-- ==== Sys2Proof/Machine/Arb.lean ====
section
/-! DEFINITION. The pending requirement and the judgement of replay runs (R148, R149), the outcome of an operation (R106),
and the arbitration of a host position (R114–R121). -/
namespace Sys2Proof.Machine

/-! ### The pending requirement (R148, R149) -/

/-- A failure raises the requirement: the greatest point stands; a 65th micro-batch makes it STEP. The reason kept is that
of the first failure at the point; UNRESOLVED takes the place of the mismatch that opened its arbitration. [DESIGN CHOICE, log entry 64] -/
def reqRaise (r : Req) (point : Nat) (audit : Bool) (mb : Option Nat) (reason : Nat) : Req :=
  let r := { r with audit := r.audit || audit }
  let mbs := match mb with
    | some b => if r.mbs.contains b then r.mbs else r.mbs ++ [b]
    | none => r.mbs
  let point := if point == 1 && r.point ≤ 1 && mbs.length > 64 then 4 else point
  if point < r.point then r
  else
    { r with
      reason := if r.point < point || r.reason == 0 || reason == 3 then reason else r.reason,
      point := point, mbs := if point == 1 then mbs else [] }

/-- The requirement that a failure of an operation of a phase sets, by the phase in which it is known (R148). -/
def opPoint (s : State) (phase mb : Nat) : Nat × Option Nat :=
  let known := s.step.eng.phase
  if phase == 1 then (if known == .fwd then (1, some mb) else (4, none))
  else if phase == 2 then (if known == .bwd then (2, none) else (4, none))
  else if phase == 3 || phase == 4 then (3, none)
  else (4, none)

/-- The runs that `f` picks cannot satisfy the requirement (R149). -/
def spoilRuns (s : State) (f : Run → Bool) : State :=
  modEng s fun e =>
    { e with
      cur := e.cur.map fun r => if f r then { r with bad := true } else r,
      runs := e.runs.map fun r => if f r then { r with bad := true } else r }

/-- An operation of a run fails (R148); in DECODE its group's opening does (R169). -/
def opFails (s : State) (phase mb run gen reason : Nat) : State :=
  if !(isArmed s) then s
  else if isDecode s then post s (.badGen gen)
  else
    let (p, b) := opPoint s phase mb
    let s := spoilRuns s fun r => r.id == run
    modEng s fun e => { e with req := reqRaise e.req p false b reason }

/-- A failure that no one operation carries (R148): no run in progress satisfies what it sets. DECODE has no requirement
(R246); what fails a group there says so itself. -/
def require (point : Nat) (audit : Bool) (mb : Option Nat) (reason : Nat) (s : State) : State :=
  if !(isArmed s) then s
  else if isDecode s then s
  else
    let s := spoilRuns s fun _ => true
    modEng s fun e => { e with req := reqRaise e.req point audit mb reason, hostFault := e.hostFault || reason == 4 }

/-- Work of a run has not closed with an outcome, or its outcome is held by an arbitration that is open (R149), or a notice of
the run is still being read (R141). -/
def runBusy (s : State) (id : Nat) : Bool :=
  s.step.jnl.notices.any (·.run == id) || s.tiles.any fun (_, t) =>
    t.port.opn.any (fun o => o.run == id) || t.chk.ops.any (fun o => o.run == id && !o.asNeighbour) ||
    (t.arb.state != .idle && t.arb.rounds.contains id)

/-- A replay run that has ended and whose work is in may satisfy the requirement (R149). -/
def judgeRun (s : State) (r : Run) : State :=
  if runBusy s r.id then s
  else
    modEng s fun e =>
      let e := { e with runs := e.runs.filter fun x => x.id != r.id, nfRun := if r.nf then some r else e.nfRun }
      if r.bad || r.point != e.req.point then e
      else
        let mbs := e.req.mbs.filter fun b => !(r.mbs.contains b)
        if r.point == 1 && !mbs.isEmpty then { e with req := { e.req with mbs := mbs } } else { e with req := {} }

/-- Every ended run that can be judged is. -/
def judgeRuns (s : State) : State := forEach s.step.eng.runs s judgeRun

/-! ### Arbitration (R114–R121) -/

/-- Whether a checker is the suspect of an open arbitration (R115, R117). -/
def suspectChk (s : State) (c : Nat) : Bool :=
  s.tiles.any fun (_, t) =>
    (t.arb.state == .round2 && t.arb.suspect == c) || (t.arb.state == .selfTest && t.arb.x == c)

/-- A neighbour is available (R115). -/
def available (s : State) (x c : Nat) : Bool := c != x && chkServes s c && !(suspectChk s c)

/-- Merge the forced elements of an identity. -/
def addForced (l m : List Grain) : List Grain := l ++ m.filter fun g => !(l.contains g)

/-- An identity joins the arbitrated set, or takes more elements (R117). -/
def joinSet (a : Arb) (id : OpId) (phase gen : Nat) (suspect : Bool) (forced : List Grain) : Arb :=
  if a.items.any fun i => i.id == id then
    { a with items := a.items.map fun i =>
        if i.id == id then
          { i with inSet := true, phase := phase, gen := gen, suspect := suspect, forced := addForced i.forced forced }
        else i }
  else { a with items := a.items ++ [{ id := id, phase := phase, gen := gen, suspect := suspect, forced := forced }] }

/-- A MISMATCH of checker `x` on host position `n` opens an arbitration or joins one (R116, R117, R121). [DEDUCED, log entry 36] [DEDUCED, log entry 38] -/
def arbOpen (n x : Nat) (id : OpId) (forced : List Grain) (s : State) : State :=
  let a := (tile s n).arb
  let op := (tile s x).chk.ops.find? fun o => o.host == n && idOf o.desc == id
  let phase := (op.map (·.phase)).getD 0
  let gen := (op.map (·.gen)).getD 0
  let susp := (op.map (·.suspect)).getD false
  let s := match op with
    | some o => searchMismatch s o
    | none => s
  let forced := if (op.map fun o => clsAcc o.desc.cls).getD false then [] else forced
  match a.state with
  | .selfTest => s
  | .idle =>
    if counterOf s n != x then s
    else
      let y := (neighbours s n).find? (available s x)
      let s := modArb s n fun a =>
        joinSet
          { a with
            state := if y.isSome then .waitReplay else .waitSolo, x := x, nbr := y.getD 0, nbrValid := y.isSome,
            suspect := 0, items := [], rounds := [], skipRun := s.step.eng.runId } id phase gen susp forced
      let s := latch s 1 1
      if susp then s else opFails s phase id.mb s.step.eng.runId gen 1
  | _ => post (modArb s n fun a => joinSet a id phase gen susp forced) (.arbCheck n)

/-- The outcome that a conclusion assigns to an item from the checkers it takes (R118). -/
def assigned (fromX fromY : Bool) (i : ArbItem) : OpOut :=
  let outs := (if fromX then [i.x.getD .mismatch] else []) ++ (if fromY then [i.y.getD .mismatch] else [])
  if outs.isEmpty || outs.contains .mismatch then .mismatch
  else if outs.contains .agree then .agree
  else if outs.contains .within then .within
  else .mismatch

/-- The held outcomes of an item take the assigned outcome (R106, R118, R149, R169). It counts in
the interval of its descriptor while that is not summarised, else in the open one (R122). [DEDUCED, log entry 36] [DESIGN CHOICE, log entry 174] -/
def settleItem (s : State) (n : Nat) (rounds : List Nat) (out : OpOut) (i : ArbItem) : State :=
  forEach i.held s fun s (gen, iv) =>
    let s := if out == .agree || out == .mismatch then cov s iv (part s n) 13 1 else s
    if out == .mismatch && !i.suspect then opFails (spoilRuns s fun r => rounds.contains r.id) i.phase i.id.mb 0 gen 1 else s

/-- The conclusions, in the order of ARB_STATUS.LAST. -/
inductive Concl where
  | hostFault | checkerFault | transient | unresolved
deriving DecidableEq, Repr

/-- ARB_STATUS.LAST of a conclusion. -/
def conclCode : Concl → Nat
  | .hostFault => 1 | .checkerFault => 2 | .transient => 3 | .unresolved => 4

/-- The fault of a conclusion (R118). -/
def conclFault : Concl → Nat
  | .hostFault => fcode 1 2 0 | .checkerFault => fcode 1 2 1 | .transient => fcode 1 1 2 | .unresolved => fcode 1 1 3

/-- The window of R119. -/
def transientWindow : Nat := 86400 * 10 ^ 9

/-- The conclusions of R119 that still count. -/
def recentTimes (s : State) (a : Arb) : List Nat := a.times.filter fun t => now s - t < transientWindow

/-- An arbitration concludes (R118–R120); one of a suspect's replay alone sets no requirement (R289). [DEDUCED, log entry 36] [DEDUCED, log entry 72] -/
def conclude (s : State) (n : Nat) (want : Concl) : State :=
  let a := (tile s n).arb
  let times := recentTimes s a
  let c := if want == .transient && times.length ≥ 2 then .hostFault else want
  let times := if c == .transient || c == .unresolved then times ++ [now s] else times
  let round := a.state != .selfTest
  let fromX := c == .transient
  let fromY := (c == .transient && a.state != .waitSolo) || (c == .checkerFault && round)
  let s := modArb s n fun a =>
    { a with
      state := .idle, times := times, seq := wrapAdd 16 a.seq 1, last := conclCode c, items := [], rounds := [], suspect := 0 }
  let s := raise s { code := conclFault c, master := 1, part := partOf s n, tile := some n }
  let s := forEach a.items s fun s i => settleItem s n a.rounds (assigned fromX fromY i) i
  let s := match c with
    | .hostFault =>
      let s := quarantine s n 0
      let s := forEach (a.items.filter (·.inSet)) s fun s i => if isDecode s && !i.suspect then post s (.badGen i.gen) else s
      if a.items.any fun i => i.inSet && !i.suspect then require 4 false none 4 s else s
    | .checkerFault =>
      let s := modCov s fun v => { v with chkFault := v.chkFault ||| 2 ^ part s n }
      if (pos s a.x).chk == .failed then s else checkerFails s a.x (if round then some (n, a.nbr) else none)
    | .transient => s
    | .unresolved => forEach (a.items.filter fun i => i.inSet && !i.suspect) s fun s i => opFails s i.phase i.id.mb s.step.eng.runId i.gen 3
  let s := post s (.searchArb n (conclCode c))
  let s := if want == .transient && a.state == .round2 && selfAllowed s a.suspect then selfStart s a.suspect .arb else s
  post s .tokens

/-- A checker found a MISMATCH on an arbitrated operation, or none in any (R117). -/
def dirty (a : Arb) (side : ArbItem → Option OpOut) : Bool :=
  a.items.any fun i => i.inSet && (side i == some .mismatch || side i == some .unscreened)

/-- The round may have ended: every arbitrated operation has closed on its checkers (R117). [DEDUCED, log entry 36] -/
def arbCheck (n : Nat) (s : State) : State :=
  let a := (tile s n).arb
  let solo := a.state == .waitSolo
  let opn := solo || a.state == .waitReplay || a.state == .round2
  let done := a.items.all fun i => !i.inSet || (i.x.isSome && (solo || i.y.isSome))
  if !opn || a.rounds.isEmpty || !done || !(a.items.any fun i => i.inSet) then s
  else
    let dx := dirty a (·.x)
    let dy := !solo && dirty a (·.y)
    let s := latch s 1 1
    if solo then
      if !dx then conclude s n .transient
      else
        let s := modArb s n fun a => { a with state := .selfTest, tested := false }
        if selfAllowed s a.x then selfStart s a.x .arb else s
    else if a.state == .round2 then (if dx || dy then conclude s n .hostFault else conclude s n .transient)
    else if dx && dy then conclude s n .hostFault
    else if dx then conclude s n .checkerFault
    else if !dy then conclude s n .transient
    else
      let s := modArb s n fun a => { a with state := .round2, suspect := a.nbr, skipRun := (a.rounds.head?).getD 0 }
      let z := ((neighbours s n).filter fun c => c != a.nbr).find? (available s a.x)
      modArb s n fun a =>
        { a with nbr := z.getD a.nbr, items := a.items.map fun i => { i with x := none, y := none } }

/-- A replayed operation of the round has an outcome on a checker (R117): the reporting checker's is held where the
operation is arbitrated. [DEDUCED, log entry 36] -/
def arbOutcome (n x : Nat) (id : OpId) (out : OpOut) (o : Op) (s : State) : State :=
  let a := (tile s n).arb
  let put (i : ArbItem) : ArbItem := if o.asNeighbour then { i with y := some out } else { i with x := some out }
  let known := a.items.any fun i => i.id == id
  let blank : ArbItem := { id := id, inSet := false, phase := o.phase, gen := o.gen, suspect := o.suspect }
  let a := if known then a else { a with items := a.items ++ [blank] }
  let a := { a with items := a.items.map fun i => if i.id == id then put i else i }
  let inSet := a.items.any fun i => i.id == id && i.inSet
  let a := if !o.asNeighbour && inSet then
      { a with items := a.items.map fun i => if i.id == id then { i with held := i.held ++ [(o.gen, o.interval)] } else i }
    else a
  let s := modArb s n fun _ => a
  let s := if x == a.x && !inSet && !o.asNeighbour && (out == .agree || out == .mismatch) then cov s o.interval (part s n) 13 1 else s
  post s (.arbCheck n)

/-- A self-test of a checker ends (R117, R215): a pass convicts the host tile, a failure the checker; after anything else the
arbitration stays in SELF_TEST, and no later test decides it. Host positions take spares by logical number (R218). [DEDUCED, log entry 146] -/
def arbSelfEnd (x code : Nat) (s : State) : State :=
  let hs := (s.tiles.filter fun t => t.2.arb.state == .selfTest && t.2.arb.x == x && !t.2.arb.tested).map (·.1)
  forEach (byLogical s hs) s fun s n =>
    if code == 1 then conclude s n .hostFault else if code == 2 then conclude s n .checkerFault
    else modArb s n fun a => { a with tested := true }

/-- A self-test that an arbitration has ordered starts once the region of the checker's tile group lets it (R117, R210). -/
def arbTests (s : State) : State :=
  let xs := (s.tiles.filter fun t => t.2.arb.state == .selfTest && !t.2.arb.tested).map (·.2.arb.x)
  forEach xs s fun s x => if selfAllowed s x && (pos s x).chk != .failed then selfStart s x .arb else s

/-- Every open arbitration that `f` picks concludes UNRESOLVED (R117). -/
def unresolve (s : State) (f : Nat → Arb → Bool) : State :=
  forEach ((s.tiles.filter fun t => t.2.arb.state != .idle && f t.1 t.2.arb).map (·.1)) s fun s n => conclude s n .unresolved

/-! ### The outcome of an operation (R106) -/

/-- An operation whose last pip is concluded is judged; in an arbitration round its outcome is evidence (R106, R117). -/
def opJudged (x uid : Nat) (s : State) : State :=
  match opOf s x uid with
  | none => s
  | some o =>
    if !o.done || (tile s x).chk.pips.any (fun p => p.op == uid) then s
    else
      let out :=
        if o.residue == .mismatch || o.pipMismatch then OpOut.mismatch
        else if o.residue == .agree || o.pipAgree then .agree
        else if o.residue == .within || o.pipWithin then .within
        else .unscreened
      let s := modChk s x fun c => storeTidy { c with ops := c.ops.filter fun p => p.uid != uid }
      let s := if out == .mismatch && !o.asNeighbour then tcnt s x 2 else s
      let a := (tile s o.host).arb
      let opn := a.state == .waitReplay || a.state == .waitSolo || a.state == .round2
      let s :=
        if o.round && opn && a.rounds.head? == some o.run then
          arbOutcome o.host x (idOf o.desc) (if o.forcedSkipped then .mismatch else out) o s
        else if o.asNeighbour then s
        else
          let s := if out == .agree || out == .mismatch then cov s o.interval (part s o.host) 13 1 else s
          if out != .mismatch then s
          else if o.suspect then searchMismatch s o
          else opFails s o.phase o.desc.mb o.run o.gen 1
      post s .tokens

/-- TILE_RST_REQ on a host tile (R83, R117, R387). -/
def tileRstReq (n : Nat) (s : State) : State := unresolve (tileRst n s) fun m _ => m == n

/-- ARB_STATUS (R125). -/
def arbStatus (s : State) (n : Nat) : Word :=
  let a := (tile s n).arb
  let st := match a.state with
    | .idle => 0 | .waitReplay => 1 | .waitSolo => 2 | .round2 => 3 | .selfTest => 4
  pack [(56, 8, min 255 (recentTimes s a).length), (32, 16, a.seq), (28, 4, a.last), (24, 4, st), (12, 12, a.nbr),
    (11, 1, b2n a.nbrValid)]

end Sys2Proof.Machine
end

