-- ==== Sys2Proof/Machine/Gate.lean ====
section
/-! DEFINITION. The token gate (R167–R170, R395) and coverage intervals (R97, R122–R124). -/
namespace Sys2Proof.Machine

/-! ### Coverage intervals (R122–R124) -/

/-- The open interval closes; the summary of it is due (R122). The selection key is replaced (R97). [DEDUCED, log entry 162] -/
def covClose (s : State) (decode : Bool) : State :=
  let c := { s.step.cov with decode := decode, step := s.step.eng.number }
  let s := { s with step := { s.step with covReady := s.step.covReady ++ [c], cov := { no := c.no + 1 } } }
  modSec s fun u => { u with pipGen := u.pipGen + 1 }

/-- Count k of partition p as its register shows it (R123). -/
def covCount (c : Cov) (p k : Nat) : Word :=
  if k == 0 then pack [(32, 32, min (sget 0 c.counts (16 * p + 13)) (2 ^ 32 - 1)), (0, 32, min (sget 0 c.counts (16 * p)) (2 ^ 32 - 1))]
  else pack [(0, 48, sget 0 c.counts (16 * p + k))]

/-- The words of a summary: its head, STEP_COV_CHK_FAULT, the causes, the counts of each partition. -/
def covWords (s : State) (c : Cov) : List Word :=
  [pack [(62, 1, b2n c.replay), (61, 1, b2n c.decode), (0, 32, c.step)], BitVec.ofNat 64 c.chkFault] ++
    ((upto 20).map fun i => pack [(0, 48, sget 0 c.causes i)]) ++
    (upto s.build.partitions).flatMap fun p => (upto 13).map (covCount c p)

/-- Whether an operation of interval `no` still has beats to come or is without its outcome. -/
def covBusy (s : State) (no : Nat) : Bool :=
  s.tiles.any fun (_, t) =>
    t.port.opn.any (fun o => o.interval == no) || t.chk.ops.any fun o => o.interval == no && !o.asNeighbour

/-- COVERAGE_SUMMARY (R122, R124): the oldest closed interval is summed, posted and journaled. -/
def coverageSummary (s : State) : State :=
  match s.step.covReady with
  | [] => s
  | c :: rest =>
    if covBusy s c.no then s
    else
      let ws := covWords s c
      let g := s.step.regs
      let g := if g.covValid then { g with covMissed := min 255 (g.covMissed + 1) }
        else { g with covValid := true, covSeq := wrapAdd 16 g.covSeq 1, covMissed := 0 }
      let held := if s.step.regs.covValid then s.step.covHeld else c
      let s := { s with step := { s.step with covReady := rest, covHeld := held, regs := g } }
      let s := record s 5 1 [BitVec.ofNat 64 3, nthW ws 0, nthW ws 1, BitVec.ofNat 64 c.no]
      post s (.journal { type := 5, replay := c.replay, step := c.step, pay := .words ws })

/-- STEP_COV_ACK (R124). -/
def covAck (v : Word) (s : State) : State :=
  let g := s.step.regs
  if g.covValid && fld v 15 0 == g.covSeq then { s with step := { s.step with regs := { g with covValid := false } } } else s

/-- The coverage registers (R123). -/
def viewCov (s : State) (off : Nat) : Option Word :=
  let g := s.step.regs
  let c := s.step.covHeld
  if off == 0x050900 then
    some (pack [(63, 1, b2n g.covValid), (62, 1, b2n c.replay), (61, 1, b2n c.decode), (48, 8, g.covMissed),
      (32, 16, g.covSeq), (0, 32, c.step)])
  else if off == 0x050908 then some 0
  else if off == 0x050910 then some (BitVec.ofNat 64 c.chkFault)
  else if 0x050980 ≤ off && off < 0x050980 + 160 && off % 8 == 0 then some (pack [(0, 48, sget 0 c.causes ((off - 0x050980) / 8))])
  else if 0x051000 ≤ off && off < 0x051800 && off % 8 == 0 then
    let p := (off - 0x051000) / 0x80
    let k := (off % 0x80) / 8
    some (if k < 13 then covCount c p k else 0)
  else none

/-! ### The token gate (R167–R170) -/

/-- Work of an opening of a group has not closed, or an arbitration holds its outcome (R168, R169). -/
def genBusy (s : State) (id : Nat) : Bool :=
  s.tiles.any fun (_, t) =>
    t.port.opn.any (fun o => o.gen == id) || t.chk.ops.any (fun o => o.gen == id && !o.asNeighbour) ||
    (t.arb.state != .idle && t.arb.items.any fun i => i.held.any fun h => h.1 == id)

/-- Decided tokens at the front leave in presentation order (R395). A closed gate releases none of them (R170). -/
def gateDrain : Nat → State → State
  | 0, s => s
  | f + 1, s =>
    match s.step.gate.held with
    | [] => s
    | t :: rest =>
      match t.decided with
      | none => s
      | some rel =>
        if rel && s.step.gate.closed then s else
        let s := modGate s fun g =>
          { g with
            held := rest, out := g.out ++ [{ group := t.group, tag := t.tag, released := rel }],
            discarded := if rel then g.discarded else satAdd 25 g.discarded 1,
            lastGroup := if rel then t.group else g.lastGroup, released := g.released + b2n rel }
        let s := cnt s (if rel then 8 else 9)
        gateDrain f (if rel && s.step.gate.released % 65536 == 0 then covClose s true else s)

/-- Whether an opening of a group has failed. -/
def genBad (s : State) (id : Nat) : Bool := s.step.gate.gens.any fun g => g.id == id && g.bad

/-- The outcomes that are decided are offered; those of the gate's offer before stand no longer once it offers new ones, for they
leave in order (R395). [DESIGN CHOICE, log entry 187] -/
def gateOffer (s : State) : State :=
  let t := gateDrain 64 (modGate s fun g => { g with out := [] })
  if t.step.gate.out.isEmpty then modGate t fun g => { g with out := s.step.gate.out } else t

/-- The gate looks at its tokens: those of a failed opening are discarded, also where they wait behind an earlier token (R169). [DEDUCED, log entry 65] -/
def gateLook (s : State) : State :=
  let mark (t : Token) : Token := if genBad s t.gen then { t with decided := some false } else t
  gateOffer (modGate s fun g => { g with held := g.held.map mark })

/-- TOKEN_PRESENT (R167, R170): while 64 tokens are held the handshake is not ready and nothing is presented. -/
def tokenPresent (group tag : Nat) (s : State) : State :=
  if s.step.gate.held.length ≥ 64 then s
  else
    let (id, s) := genFor s group
    let s := modGen s id fun g => { g with presented := true }
    gateLook (modGate s fun g => { g with held := g.held ++ [{ group := group, tag := tag, gen := id }] })

/-- TOKEN_RELEASE (R168): the oldest held token whose work has all closed without a MISMATCH is released, behind those
presented before it. -/
def tokenRelease (s : State) : State :=
  if s.step.gate.closed then s
  else
    match s.step.gate.held.findIdx? fun t => t.decided.isNone && !(genBad s t.gen) && !(genBusy s t.gen) with
    | none => s
    | some i =>
      let go (p : Token × Nat) : Token := if p.2 == i then { p.1 with decided := some true } else p.1
      gateOffer (modGate s fun g => { g with held := g.held.zipIdx.map go })

/-- The payload of an outcome: group, tag, discard (R395, R407). [DESIGN CHOICE, log entry 154] -/
def tokenPayload (t : TokenOut) : Nat := t.group + t.tag * 2 ^ 32 + b2n (!t.released) * 2 ^ 48

/-- TOKEN_OUT_TIMEOUT (R395): an outcome offered is not taken: raised once for it, and it stays offered. -/
def tokenOutTimeout (s : State) : State :=
  match s.step.gate.out.findIdx? (!·.timedOut) with
  | none => s
  | some i =>
    let t := (s.step.gate.out[i]?).getD {}
    raisePort (modGate s fun g => { g with out := g.out.set i { t with timedOut := true } }) fcPortTimeout 11 0 (tokenPayload t)

/-- Everything opened in a group fails: its tokens are discarded (R169, R206, R247). -/
def badGroup (g : Nat) (s : State) : State :=
  if !(isDecode s) || !(isArmed s) then s
  else
    let (id, s) := genFor s g
    gateLook (modGen s id fun x => { x with bad := true })

/-- One opening of a group fails (R168, R169). [DEDUCED, log entry 65] -/
def badGen (id : Nat) (s : State) : State := gateLook (modGen s id fun x => { x with bad := true })

/-- Every group that is open fails: one without a token yet, with a token held, or with work that has not closed (R417). -/
def badOpen (s : State) : State :=
  let isOpen (x : GateGen) : Bool := !x.presented || (s.step.gate.held.any fun t => t.gen == x.id) || genBusy s x.id
  if !(isDecode s) || !(isArmed s) then s
  else gateLook (modGate s fun g => { g with gens := g.gens.map fun x => if isOpen x then { x with bad := true } else x })

/-- A FWD marker opens a group, anew where it was open before (R167, R169). [DEDUCED, log entry 65] -/
def groupOpens (s : State) (g : Nat) : State :=
  let busy (x : GateGen) : Bool := s.step.gate.held.any (fun t => t.gen == x.id) || genBusy s x.id
  modGate s fun t =>
    { t with nextGen := t.nextGen + 1, gens := (t.gens.filter fun x => x.group != g || busy x) ++ [{ id := t.nextGen, group := g }] }

/-- An opening of a group that no later opening of it has followed. -/
def genLatest (s : State) (x : GateGen) : Bool := !(s.step.gate.gens.any fun y => y.group == x.group && decide (x.id < y.id))

/-- Every opened group is done (R246): a token of each was presented, none is held, and the work of every opening has
closed. -/
def groupDone (s : State) : Bool :=
  let g := s.step.gate
  !g.gens.isEmpty && g.held.isEmpty && g.gens.all fun x => !(genBusy s x.id) && (x.presented || !(genLatest s x))

/-- PHASE reads IDLE once the groups are done (R246). -/
def groupEnds (s : State) : State :=
  if isArmed s && isDecode s && s.step.eng.phase == .fwd && groupDone s then setPhase s .idle false else s

end Sys2Proof.Machine
end

