-- ==== Sys2Proof/Machine/Journal.lean ====
section
/-! DEFINITION. The step journal (R136–R141), its signature entries and their comparison in a replay (R112, R113), the
notices (R138, R141) and the undo pages (R145, R146). -/
namespace Sys2Proof.Machine

/-! ### Places (R136) -/

/-- STEP_JNL_BASE as an address. -/
def jnlBase (s : State) : Nat := s.step.regs.jnlBase.toNat
/-- The bytes of a slot. -/
def slotBytes (s : State) : Nat := fld s.step.regs.jnlSize 31 0 * 2 ^ 20
/-- The bytes of the undo pages at the end of a slot. -/
def undoBytes (s : State) : Nat := min (slotBytes s) (fld s.step.regs.jnlSize 63 32 * 2 ^ 20)
/-- Where slot i begins. -/
def slotAddr (s : State) (i : Nat) : Nat := jnlBase s + 2 ^ 21 + i * slotBytes s
/-- Where the undo pages of slot i begin. -/
def undoAddr (s : State) (i : Nat) : Nat := slotAddr s (i + 1) - undoBytes s
/-- The place of a header copy in the header area: STEP_OPEN, DECISION, EPOCH. [DESIGN CHOICE, log entry 67] -/
def headerAt (s : State) (type : Nat) : Nat := jnlBase s + 4096 * (if type == 1 then 0 else if type == 8 then 1 else 2)

/-- A slot of the journal. -/
def slot (s : State) (i : Nat) : Slot := sget {} s.step.jnl.slots i

/-- Rewrite a slot. -/
def updSlot (s : State) (i : Nat) (f : Slot → Slot) : State := modJnl s fun j => { j with slots := supd {} j.slots i f }

/-- The slot of the current step. -/
def curSlot (s : State) : Nat := s.step.eng.number % 2

/-! ### Records (R137, R138) -/

/-- The journal writes of channel 1 that have not ended: where each is to go. [DEDUCED, log entry 107] -/
def jnlUnwritten (s : State) : List Nat :=
  let ch := chan s 1
  let ds := (if ch.busy then [ch.cur] else []) ++ ch.queue ++ ch.waiting
  (ds.filter fun d => d.work == .journal).map fun d => dAddr d.dst

/-- The words of a signature entry. [DESIGN CHOICE, log entry 67] -/
def sigWords (e : SigEntry) : List Word :=
  [pack [(32, 32, e.id.tag), (0, 32, e.id.ctx)], pack [(32, 16, e.logical), (0, 32, e.id.mb)],
    pack [(2, 1, b2n e.incC), (1, 1, b2n e.incB), (0, 1, b2n e.incA)], 0, e.a, e.b, e.c, e.d]

/-- The words of a COLL entry. [DESIGN CHOICE, log entry 67] -/
def collWords (e : CollEntry) : List Word :=
  [pack [(16, 32, e.chunk), (0, 16, e.coll)], pack [(32, 31, e.res), (0, 17, e.repl)]]

/-- The payload of a record. [DESIGN CHOICE, log entry 67] -/
def payWords : JPay → List Word
  | .words ws => ws
  | .sigs l => l.flatMap sigWords
  | .colls l => l.flatMap collWords

/-- The clear header of a record (R137). -/
def jHeader (s : State) (r : JRec) : List Word :=
  [pack [(56, 8, r.type), (48, 8, b2n r.replay), (32, 16, 8 * (payWords r.pay).length), (0, 32, r.mb)],
    BitVec.ofNat 64 r.step, BitVec.ofNat 64 r.seq,
    pack [(48, 16, r.replayNo), (16, 16, s.cas.chip), (8, 8, s.cas.position)]]

/-- The nonce of a record (R137). -/
def jNonce (s : State) (r : JRec) : Nat := s.cas.chip * 2 ^ 80 + s.cas.position * 2 ^ 72 + r.seq

/-- The bytes that a record of n payload words takes. -/
def jSize (words : Nat) : Nat := ceilDiv (32 + 8 * words + 16) 64 * 64

/-- A record as it stands in host memory: header, sealed payload with its tag, zeros;
the header is additional authenticated data (R137). -/
def jBytes (s : State) (r : JRec) : List Byte :=
  let pay := wordsBytes (payWords r.pay)
  let body := Config.sealBytes (s.sec.jnl.getD 0) (jNonce s r) (wordsBytes (jHeader s r)) pay
  (wordsBytes (jHeader s r) ++ body ++ List.replicate (jSize (payWords r.pay).length) 0).take (jSize (payWords r.pay).length)

/-- A transfer of the step engine: OWNER 1. -/
def stepCtl (len : Nat) : Word := pack [(48, 8, 1), (0, 40, len)]

/-- The block's own buffer as an end of a transfer. -/
def blockEnd : Word := pack [(60, 4, 2)]

/-- Bytes of the journal go to host memory on channel 1. -/
def jnlPut (s : State) (addr : Nat) (bytes : List Byte) : State :=
  dmaPost 1 blockEnd (BitVec.ofNat 64 addr) (stepCtl bytes.length) .journal bytes s

/-- A read for the step engine on channel 1, into its own buffer at `off`. -/
def stepRead (s : State) (addr off len : Nat) (work : DmaWork) : State :=
  dmaPost 1 (BitVec.ofNat 64 addr) (pack [(60, 4, 2), (0, 57, off)]) (stepCtl len) work [] s

/-- A record that cannot be written (R140): the requirement becomes STEP, and the run is not committed. -/
def jnlFails (s : State) (code : Nat) : State :=
  post (raiseI (modEng s fun e => { e with jnlBad := true }) code 1) (.require 4 false none 8)

/-- The slot of a record has room for it. -/
def jnlFits (s : State) (r : JRec) : Bool :=
  decide ((slot s (r.step % 2)).recBytes + jSize (payWords r.pay).length ≤ slotBytes s - undoBytes s)

/-- A record is written to its slot, or the slot cannot take it, or no journal key is held (R137, R140, R441). [DEDUCED, log entry 63] -/
def journalPut (r : JRec) (s : State) : State :=
  if !(isArmed s) then s
  else
    let r := { r with seq := s.step.jnl.seq, replayNo := s.step.eng.replayNo }
    let i := r.step % 2
    let size := jSize (payWords r.pay).length
    if s.sec.jnl.isNone then jnlFails s (fcode 3 2 1)
    else if !(jnlFits s r) then jnlFails s (fcode 3 2 2)
    else
      let at_ := slotAddr s i + (slot s i).recBytes
      let s := updSlot s i fun l => { l with used := true, step := r.step, recs := l.recs ++ [r], recBytes := l.recBytes + size }
      let s := modJnl s fun j => { j with seq := j.seq + 1 }
      jnlPut (cnt s 4) at_ (jBytes s r)

/-- A record of the current step. -/
def jrec (s : State) (type mb : Nat) (pay : JPay) : JRec :=
  { type := type, replay := s.step.eng.replay, mb := mb, step := s.step.eng.number, pay := pay }

/-- A record of words for the current step. -/
def journalW (s : State) (type mb : Nat) (ws : List Word) : State := journalPut (jrec s type mb (.words ws)) s

/-- The signature entries waiting for their record are written (R138). -/
def flushSigs (s : State) : State :=
  if s.step.jnl.sigPend.isEmpty then s
  else journalPut (jrec s 3 s.step.eng.mb (.sigs s.step.jnl.sigPend)) (modJnl s fun j => { j with sigPend := [] })

/-- The COLL entries waiting for their record are written. -/
def flushColls (s : State) : State :=
  if s.step.jnl.collPend.isEmpty then s
  else journalPut (jrec s 4 0 (.colls s.step.jnl.collPend)) (modJnl s fun j => { j with collPend := [] })

/-- Both, at a marker. -/
def flushPend (s : State) : State := flushColls (flushSigs s)

/-- A signature entry joins the record being packed. -/
def pushSig (s : State) (e : SigEntry) : State :=
  let s := modJnl s fun j => { j with sigPend := j.sigPend ++ [e] }
  if s.step.jnl.sigPend.length ≥ 63 then flushSigs s else s

/-- A CONTRIB report joins the record being packed. -/
def pushColl (s : State) (e : CollEntry) : State :=
  let s := modJnl s fun j => { j with collPend := j.collPend ++ [e] }
  if s.step.jnl.collPend.length ≥ 252 then flushColls s else s

/-- The journal records of the current step. -/
def stepRecs (s : State) : List JRec := (slot s (curSlot s)).recs.filter fun r => r.step == s.step.eng.number

/-- The newest record of a type in the journal, if any. -/
def lastRec (s : State) (type : Nat) : Option JRec :=
  ((slot s 0).recs ++ (slot s 1).recs).foldl
    (fun b r => if r.type != type then b else match b with
      | none => some r
      | some x => if x.seq < r.seq then some r else some x) none

/-- The header copies are rewritten in place, at a commit boundary (R138). -/
def rewriteHeader (s : State) : State :=
  let pick (old : Option JRec) (t : Nat) : Option JRec := match lastRec s t with
    | some r => some r
    | none => old
  let s := modJnl s fun j => { j with hdrOpen := pick j.hdrOpen 1, hdrDecision := pick j.hdrDecision 8, hdrEpoch := pick j.hdrEpoch 9 }
  forEach [s.step.jnl.hdrOpen, s.step.jnl.hdrDecision, s.step.jnl.hdrEpoch] s fun s o =>
    match o with
    | some r =>
      if s.sec.jnl.isSome then jnlPut s (headerAt s r.type) (jBytes s r) else jnlFails s (fcode 3 2 1)
    | none => s

/-- A paused journal write ends at the commit boundary (R323). [DEDUCED, log entry 142] -/
def abandonJournal (s : State) : State :=
  let ch := chan s 1
  if ch.busy && ch.cur.state == 2 && ch.cur.work == .journal then dmaAbandonCh 1 s else s

/-! ### Signatures (R112, R113) -/

/-- The journaled original of an operation: the first entry of its logical tile and identity. -/
def journaled (s : State) (logical : Nat) (id : OpId) : Option SigEntry :=
  ((stepRecs s).flatMap fun r => match r.pay with
    | .sigs l => l
    | _ => []).find? fun e => e.logical == logical && e.id == id

/-- Rewrite a replay run. -/
def modRun (s : State) (id : Nat) (f : Run → Run) : State :=
  modEng s fun e =>
    { e with
      cur := e.cur.map fun r => if r.id == id then f r else r,
      runs := e.runs.map fun r => if r.id == id then f r else r }

/-- A replayed operation is compared with its journaled original (R112, R113); a suspect's decides its result alone
(R287, R289). [DEDUCED, log entry 55] -/
def replayCompare (s : State) (x : Nat) (o : Op) : State :=
  let inc := o.lostA || o.lostB || o.lostC
  let marks (s : State) (f : Run → Run) : State := if o.suspect then s else modRun s o.run f
  let uncompared (s : State) : State :=
    let s := if inc then s else tcnt (cov s o.interval (part s o.host) 11 1) x 13
    marks s fun r => { r with uncomp := true }
  match journaled s (logicalNum s o.host) (idOf o.desc) with
  | none => uncompared s
  | some e =>
    if inc || e.incA || e.incB || e.incC then uncompared s
    else
      let differs := o.sigC != e.c
      let s := if differs then marks s fun r => { r with diff := true, tiles := if r.tiles.contains o.host then r.tiles else r.tiles ++ [o.host] } else s
      let fails (s : State) : State :=
        if !o.suspect then opFails s o.phase o.desc.mb o.run o.gen 6
        else if differs then post s (.searchDiff o.host) else s
      if o.sigA != e.a || o.sigB != e.b then fails (raiseTap s (fcode 1 2 5) o.host o.desc)
      else if differs then fails (raiseTap s (fcode 1 2 4) o.host o.desc)
      else s

/-- The signatures of an operation closed under a contract with SIGNATURE = 1 (R111–R113, R189). -/
def sigClose (s : State) (x : Nat) (o : Op) : State :=
  if o.asNeighbour then s
  else
    let s := sigCloses s x o
    if !(isArmed s) then s
    else
      let s := if o.replay || o.suspect then replayCompare s x o else s
      let e : SigEntry :=
        { logical := logicalNum s o.host, id := idOf o.desc, incA := o.lostA, incB := o.lostB, incC := o.lostC, d := o.sigD,
          a := o.sigA, b := o.sigB, c := o.sigC, replayNo := s.step.eng.replayNo }
      let s := pushSig s e
      if o.phase == 4 && o.level == .audit && !o.lostC then auditOwn s (idOf o.desc) o.sigC else s

/-- An operation has closed on its checker (R81). -/
def opClosed (x uid : Nat) (s : State) : State := closeEffect sigClose x uid s

/-- A discarded operation's signatures are INCOMPLETE (R83, R109, R113, R213). [DEDUCED, log entry 32] -/
def opDiscarded (x : Nat) (o : Op) (s : State) : State :=
  if (o.contract.map cSig).getD false then sigClose s x o else katCompare s o.host o

/-! ### Notices (R138, R141) -/

/-- A FWD marker's notice is read. -/
def noticeRead (s : State) (mb addr : Nat) : State :=
  let e := s.step.eng
  let s := modJnl s fun j => { j with notices := j.notices ++
    [{ mb := mb, step := e.number, replay := e.replay, replayNo := e.replayNo, run := e.runId }] }
  stepRead s addr 0 256 .notice

/-- Bytes of the notice being read arrive. -/
def noticeData (s : State) (bs : List Byte) : State :=
  modJnl s fun j => match j.notices with
    | n :: r => { j with notices := { n with bytes := n.bytes ++ bs } :: r }
    | [] => j

/-- The journaled notice of a micro-batch of a step. -/
def noticeOf (s : State) (step mb : Nat) : Option (List Word) :=
  ((slot s (step % 2)).recs.find? fun r => r.type == 2 && r.step == step && r.mb == mb).map fun r => payWords r.pay

/-- The read of a notice has ended: its MICRO_BATCH record is written, and a replayed one is
compared (R141); one that a pull did not bring is noted (R197). Of one that was abandoned there is no record, and the vote of the
run is never sent (R323). [DEDUCED, log entry 69] -/
def noticeDone (s : State) (d : DmaDesc) : State :=
  match s.step.jnl.notices with
  | [] => s
  | n :: rest =>
    let s := modJnl s fun j => { j with notices := rest }
    let s := post s .tally
    if d.state != 3 then modVote s fun v => { v with mute := true }
    else
      let ws := bytesWords n.bytes
      let old := noticeOf s n.step n.mb
      let s := if n.replay && old.isSome && old != some ws then
          modRun (raiseI s (fcode 3 2 3) 1) n.run fun r => { r with bad := true }
        else if n.replay && old.isNone && s.step.eng.joined && mirMode s != 0 then raiseI s (fcode 4 1 13) 2
        else s
      let s := journalPut { type := 2, replay := n.replay, mb := n.mb, step := n.step, pay := .words ws } s
      noticeSend s n.step n.mb ws

/-! ### Undo pages (R145, R146) -/

/-- The bytes of an undo entry's page. -/
def pageLen (e : Word) : Nat := 2 ^ pageBits (fld e 1 0)
/-- Its job address. -/
def pageAddr (e : Word) : Nat := fld e 56 12 * 2 ^ 12

/-- Where each page of a list lies from the start of the undo pages. -/
def pageOffsets : List Word → Nat → List (Word × Nat)
  | [], _ => []
  | e :: r, o => (e, o) :: pageOffsets r (o + pageLen e)

/-- A transfer of undo pages on channel 2. -/
def undoMove (s : State) (src dst len : Nat) (work : DmaWork) : State :=
  dmaPost 2 (BitVec.ofNat 64 src) (BitVec.ofNat 64 dst) (stepCtl len) work [] s

/-- The next 64 bytes of the undo list are read. -/
def undoListRead (s : State) : State :=
  let e := s.step.eng
  stepRead s (fld s.step.regs.undoList 56 12 * 2 ^ 12 + 8 * e.undoPages.length / 64 * 64) 0 64 .undoList

/-- What is under way of the undo copy ends as ABANDONED (R145, R323). -/
def undoDrop (s : State) : State :=
  let s := dropWork 1 (fun d => d.work == .undoList) (dropWork 2 (fun d => d.work == .undoCopy) s)
  modEng s fun e => { e with undoLeft := 0, undoReading := false }

/-- The undo copy of a run starts (R145), from its list as it now stands. -/
def undoStart (s : State) : State :=
  undoListRead (modEng (undoDrop s) fun e =>
    { e with
      undoBusy := true, undoDone := false, undoPages := [], undoReading := true, undoStale := false, undoCopied := 0 })

/-- A failure in the undo copy: the requirement becomes EXCH (R140). -/
def undoFails (s : State) : State :=
  post (modEng (undoDrop s) fun e => { e with undoBusy := false, undoDone := false }) (.require 3 false none 8)

/-- A write, or the read of the list, has failed in the undo copy (R140). -/
def undoWriteFails (s : State) : State := undoFails (raiseI s (fcode 3 2 1) 1)

/-- The undo list is complete: every page it lists is copied. -/
def undoCopyAll (s : State) : State :=
  let ps := s.step.eng.undoPages
  let i := curSlot s
  let total := ps.foldl (fun a e => a + pageLen e) 0
  let s := modEng s fun e => { e with undoReading := false }
  if total > undoBytes s then undoFails (raiseI s (fcode 3 2 2) 1)
  else
    let s := modEng s fun e => { e with undoLeft := ps.length }
    let s := updSlot s i fun l => { l with used := true, step := s.step.eng.number, undoPages := ps }
    forEach (pageOffsets ps 0) s fun s (e, o) => undoMove s (pageAddr e) (undoAddr s i + o) (pageLen e) .undoCopy

/-- Eight entries of the list arrive; an all-zero entry ends it. -/
def undoListData (s : State) (bs : List Byte) : State :=
  if !s.step.eng.undoReading then s
  else
    let ws := bytesWords bs
    let more := ws.takeWhile (· != 0)
    let s := modEng s fun e => { e with undoPages := e.undoPages ++ more }
    if more.length < ws.length then undoCopyAll s else undoListRead s

/-- A read of the list has ended: one that failed ends the copy it belongs to. -/
def undoListEnded (s : State) (d : DmaDesc) : State :=
  if d.state == 3 then s
  else undoWriteFails (modEng s fun e => { e with undoReading := false })

/-- A page has been copied, or the copy of it was given up. -/
def undoCopied (s : State) (d : DmaDesc) : State :=
  if !s.step.eng.undoBusy then s
  else
    let s := modEng s fun e => { e with undoLeft := e.undoLeft - 1 }
    if d.state != 3 then undoWriteFails s else modEng s fun e => { e with undoCopied := e.undoCopied + dLen d.ctl / 4096 }

/-- UNDO_COPY_DONE (R145): every listed page lies in the slot. -/
def undoCopyDone (s : State) : State :=
  let e := s.step.eng
  if !e.undoBusy || e.undoReading || e.undoLeft != 0 then s
  else
    let s := modEng s fun e => { e with undoBusy := false, undoDone := true }
    let digest := Config.sha3_384 (wordsBytes e.undoPages)
    journalW s 6 0 (BitVec.ofNat 64 e.undoPages.length :: (upto 6).map (digestWord digest))

/-- Every undo page of slot i goes back to its place (R146, R147). -/
def undoRestore (s : State) (i : Nat) : State :=
  let ps := (slot s i).undoPages
  let s := modEng s fun e => { e with restoring := true, restoreLeft := e.restoreLeft + ps.length, undoRestored := if e.restoring then e.undoRestored else 0 }
  forEach (pageOffsets ps 0) s fun s (e, o) => undoMove s (undoAddr s i + o) (pageAddr e) (pageLen e) .undoRestore

/-- A page has been restored. -/
def undoRestored (s : State) (d : DmaDesc) : State :=
  if d.state != 3 then s
  else modEng s fun e => { e with restoreLeft := e.restoreLeft - 1, undoRestored := e.undoRestored + dLen d.ctl / 4096 }

/-- UNDO_RESTORE_DONE (R146); one that RECOVER waited for completes it (R162). -/
def undoRestoreDone (s : State) : State :=
  let e := s.step.eng
  if e.restoring && e.restoreLeft == 0 then
    modEng s fun e =>
      { e with
        restoring := false, epochValid := e.epochValid || e.recovering == 3,
        recovering := if e.recovering == 3 then 0 else e.recovering }
  else s

/-- The copy of a run that ends is given up: the verdict is SUSPECT from EXCH (R163, R323). -/
def undoAbandon (s : State) : State :=
  if !s.step.eng.undoBusy then s
  else
    let ch := chan s 2
    if ch.busy && ch.cur.work == .undoCopy && ch.cur.state == 2 then undoWriteFails s else undoFails s

/-- A write of STEP_UNDO_LIST: one after the EXCH marker is copied from the UPD marker (R145). -/
def undoListWrite (v : Word) (s : State) : State :=
  let s := { s with step := { s.step with regs := { s.step.regs with undoList := pack [(12, 45, fld v 56 12)] } } }
  modEng s fun e => { e with undoStale := true }

/-! ### FETCH (R141) -/

/-- FETCH writes the notice of a micro-batch of the current slot to STEP_FETCH_DST; none where no record holds it. -/
def fetchNotice (s : State) (mb : Nat) : Option State :=
  (noticeOf s s.step.eng.number mb).map fun ws =>
    dmaPost 1 blockEnd (BitVec.ofNat 64 (fld s.step.regs.fetchDst 56 8 * 2 ^ 8)) (stepCtl 256) .fetch (wordsBytes ws) s

end Sys2Proof.Machine
end

