-- ==== Sys2Proof/Machine/Coll.lean ====
section
/-! DEFINITION. Collective conservation (R84–R87, R93, R392). -/
namespace Sys2Proof.Machine

/-- Rewrite the step unit's registers. -/
def modRegs (s : State) (f : StepRegs → StepRegs) : State := { s with step := { s.step with regs := f s.step.regs } }

/-- The class of a report's contract: none where no record is active. -/
def collClass (s : State) (r : Report) : Option Nat := (contractOf s r.contract).map cClass

/-- A report's interval and magnitude are those of a bounded class. -/
def collBounded (s : State) (r : Report) : Bool := collClass s r == some 1 || collClass s r == some 2

/-- A report that breaks R84 or R392. -/
def reportBad (s : State) (r : Report) : Bool :=
  let sums := r.sumLo != 0 || r.sumHi != 0 || r.mag != 0
  r.zero != 0 || decide (r.kind > 4) || r.res == resP || r.resDecl == resP || decide (r.res > resP) || decide (r.resDecl > resP) ||
  (if r.kind == 2 then decide (r.inputs < 2) || decide (r.inputs > 255) else r.inputs != 0) ||
  (if r.kind == 0 then r.repl == 0 || decide (r.repl > 65536) else r.repl != 0) ||
  (r.kind != 1 && r.resDecl != 0) ||
  (match collClass s r with
   | some 1 => false
   | some 2 => false
   | some _ => sums
   | none => false)

/-- The chain of a report. -/
def chainOf (s : State) (r : Report) : Chain :=
  (s.step.chains.find? fun c => c.coll == r.coll && c.chunk == r.chunk).getD { coll := r.coll, chunk := r.chunk }

/-- Put a chain back. -/
def setChain (s : State) (c : Chain) : State :=
  let rest := s.step.chains.filter fun x => !(x.coll == c.coll && x.chunk == c.chunk)
  { s with step := { s.step with chains := rest ++ [c] } }

/-- A conservation failure (R85, R93): 1 TRANSIT, 2 REDUCE, 3 FORWARD, 4 JOB_SUM. -/
def collMismatch (s : State) (check contract coll chunk : Nat) : State :=
  let s := raiseI s (fcode 2 2 0) 1
  let w0 := pack [(60, 3, check), (48, 8, contract)]
  let w1 := pack [(48, 16, coll), (0, 32, chunk)]
  let s := modRegs s fun g => { g with collMis := heldPost g.collMis w0 w1 0 }
  post s (.require 3 false none 5)

/-- A chain whose check cannot be made, or that is open at the step-end marker (R85). [DEDUCED, log entry 66] -/
def collIncomplete (s : State) (elements : Nat) : State :=
  covCause (raiseI s (fcode 2 1 1) 1) s.step.cov.no .collIncomplete elements

/-- The sum of residues. -/
def resSum (l : List Report) : Nat := (l.foldl (fun a r => a + r.res) 0) % resP

/-- The REDUCE check (R45, R46, R85): whether the output fails against the inputs it consumed. It is made however many inputs there
are. [DEDUCED, log entry 66] [DEDUCED, log entry 173] -/
def reduceFails (s : State) (r : Report) (ins : List Report) : Bool :=
  match contractOf s r.contract with
  | none => false
  | some con =>
    if cClass con == 0 then r.res % resP != resSum ins
    else if cClass con == 3 then false
    else
      let lo := ins.foldl (fun a i => r32 3 (flAdd 3 a (f32 i.sumLo))) flZero
      let hi := ins.foldl (fun a i => r32 2 (flAdd 2 a (f32 i.sumHi))) flZero
      let mag := ins.foldl (fun a i => r32 2 (flAdd 2 a (f32 i.mag))) flZero
      let b := boundOf con (boundK con r.inputs) mag
      if !(flFinite b) then false else boundFails (f32 r.sumLo) (f32 r.sumHi) lo hi b

/-- Two reports carry the same value (FORWARD). -/
def sameValue (s : State) (r q : Report) : Bool :=
  r.res == q.res && (!(collBounded s r) || (r.sumLo == q.sumLo && r.sumHi == q.sumHi))

/-- A value enters its chain. [DEDUCED, log entry 66] [DEDUCED, log entry 161] -/
def chainTakes (c : Chain) (r : Report) (pending : List Report) : Chain :=
  { c with pending := pending ++ [r], last := some r, open_ := true }

/-- The CONTRIB reports journaled from the EXCH marker of the latest run that came to it afresh until that run was decided: a
replay from EXCH is held against these (R87). -/
def firstColls (s : State) : List CollEntry :=
  let l := ((stepRecs s).filter fun j => decide (s.step.exchSeq ≤ j.seq)).takeWhile fun j => j.type != 8
  l.flatMap fun j => match j.pay with
    | .colls c => c
    | _ => []

/-- The journaled RES of the k-th CONTRIB that a chain has had since the EXCH marker. -/
def journaledRes (s : State) (r : Report) (k : Nat) : Option Nat :=
  ((firstColls s).filter fun e => e.coll == r.coll && e.chunk == r.chunk)[k]?.map (·.res)

/-- The CONTRIB reports that a chain had had at the EXCH marker. -/
def contribsBefore (s : State) (r : Report) : Nat :=
  ((s.step.exchChains.find? fun c => c.coll == r.coll && c.chunk == r.chunk).map (·.contribs)).getD 0

/-- The conservation word takes a CONTRIB or a FINAL of an EXACT contract (R86). -/
def addZ (s : State) (r : Report) : State :=
  if collClass s r != some 0 then s
  else if r.kind == 0 then { s with step := { s.step with z := (s.step.z + r.repl * r.res) % resP } }
  else if r.kind == 4 then { s with step := { s.step with z := (s.step.z + resP - r.res % resP) % resP } }
  else s

/-- COLL_REPORT (R84–R87): CONTRIB, RECV, REDUCE, SENT, FINAL. [DEDUCED, log entry 66] [DESIGN CHOICE, log entry 188] -/
def collReport (r : Report) (s : State) : State :=
  if reportBad s r then raisePort s fcPortRange 9 0 (r.coll + r.chunk * 2 ^ 16 + r.kind * 2 ^ 48 + r.inputs * 2 ^ 51 + r.contract % 32 * 2 ^ 59)
  else
    let s := addZ (cnt s 7) r
    let c := chainOf s r
    match r.kind with
    | 0 =>
      let s := setChain s { chainTakes c r c.pending with contribs := c.contribs + 1 }
      let differs := (s.step.eng.cur.map (·.point)) == some 3 && (journaledRes s r (c.contribs - contribsBefore s r)).any fun v => v != r.res
      let s := pushColl s { coll := r.coll, chunk := r.chunk, repl := r.repl, res := r.res, lo := r.sumLo, hi := r.sumHi }
      if differs then collMismatch s 3 r.contract r.coll r.chunk else s
    | 1 =>
      let s := setChain s (chainTakes c r c.pending)
      if r.res != r.resDecl then collMismatch s 1 r.contract r.coll r.chunk else s
    | 2 =>
      let n := c.pending.length
      if n < r.inputs then collIncomplete (setChain s (chainTakes c r [])) r.count
      else
        let ins := c.pending.drop (n - r.inputs)
        let s := setChain s (chainTakes c r (c.pending.take (n - r.inputs)))
        if reduceFails s r ins then collMismatch s 2 r.contract r.coll r.chunk else s
    | _ =>
      let s := setChain s { c with open_ := false }
      match c.last with
      | none => collIncomplete s r.count
      | some q => if sameValue s r q then s else collMismatch s 3 r.contract r.coll r.chunk

/-- Chains open at the step-end marker are incomplete; the step's chains end (R85). -/
def collEnd (s : State) : State :=
  let s := forEach (s.step.chains.filter (·.open_)) s fun s c => collIncomplete s ((c.last.map (·.count)).getD 0)
  { s with step := { s.step with chains := [] } }

/-- The EXCH marker: a run that comes to it again goes on from the chains and the conservation word as they stood at it
(R85, R86). [DEDUCED, log entry 66] -/
def collStart (s : State) : State :=
  { s with step :=
      if s.step.exchSeen then { s.step with chains := s.step.exchChains, z := s.step.exchZ }
      else { s.step with exchSeen := true, exchZ := s.step.z, exchChains := s.step.chains, exchSeq := s.step.jnl.seq } }

/-- The collectives of a run from a point (R86): a whole step starts its conservation word at 0; a run from within the step
keeps what came before the point. [DEDUCED, log entry 66] -/
def collRun (s : State) (point : Nat) : State :=
  { s with step :=
      if point == 3 then s.step
      else if point == 1 || point == 2 then
        { s.step with exchSeen := false, z := s.step.exchZ, chains := s.step.exchChains }
      else { s.step with exchSeen := false, exchZ := 0, exchChains := [], z := 0 } }

/-- STEP_COLL_MISMATCH_ACK (R93). -/
def collAck (v : Word) (s : State) : State := modRegs s fun g => { g with collMis := heldAck g.collMis v }

/-- The collective registers (R93). -/
def viewColl (s : State) (off : Nat) : Option Word :=
  let h := s.step.regs.collMis
  match off with
  | 0x050800 => some (heldView h)
  | 0x050808 => some (setFld h.w1 47 32 h.seq)
  | 0x050810 => some 0
  | 0x050818 => some (pack [(0, 16, min 65535 (s.step.chains.filter (·.open_)).length)])
  | _ => none

end Sys2Proof.Machine
end

