-- ==== Sys2Proof/Machine/Vote.lean ====
section
/-! DEFINITION. The step verdict, the vote and the arbiter, decisions and what they do (R29, R133, R134, R142–R147,
R150–R162, R165, R166, R455, R456). -/
namespace Sys2Proof.Machine

/-! ### The tree (R152) -/

/-- JOB_SIZE. -/
def jobSize (s : State) : Nat := max 1 (fld s.step.eng.config 31 15)
/-- The tree position of this chip under a root. -/
def treePos (s : State) (root : Nat) : Nat := (ownRank s + jobSize s - root % jobSize s) % jobSize s
/-- The rank at a tree position. -/
def rankAt (s : State) (root q : Nat) : Nat := (q + root) % jobSize s
/-- The children of a position in a job of n chips. -/
def childrenOf (n q : Nat) : List Nat := ((upto 32).map (32 * q + 1 + ·)).filter fun c => decide (c < n)
/-- The parent of a position. -/
def parentOf (q : Nat) : Nat := (q - 1) / 32
/-- The positions below and at those of a level. -/
def subtreeOf (n : Nat) : Nat → List Nat → List Nat
  | 0, _ => []
  | f + 1, l => if l.isEmpty then [] else l ++ subtreeOf n f (l.flatMap (childrenOf n))

/-- The chip number of a rank, once its entry of the rank table has been read. -/
def chipOf (s : State) (rank : Nat) : Option Nat :=
  match sget 0 s.step.vote.ranks rank with
  | 0 => none
  | k + 1 => some k

/-- The entries of these ranks are read, where they have not been asked for. [DEDUCED, log entry 57] -/
def readRanks (s : State) (rs : List Nat) : State :=
  let gs := ((rs.map (· / 32)).eraseDups).filter fun g => !(s.step.vote.rankReq.contains g)
  forEach gs s fun s g =>
    stepRead (modVote s fun v => { v with rankReq := v.rankReq ++ [g] })
      (fld s.step.regs.rankTable 56 12 * 2 ^ 12 + 64 * g) (64 * g) 64 .rankTable

/-- Entries of the rank table arrive. -/
def rankData (s : State) (off : Nat) (bs : List Byte) : State :=
  let entry (i : Nat) : Nat := leNat ((bs.drop (2 * i)).take 2)
  modVote s fun v =>
    let m := (upto (bs.length / 2)).foldl (fun m i => sset 0 m (off / 2 + i) (entry i + 1)) v.ranks
    { v with ranks := m }

/-- Every one of these entries is held. [DEDUCED, log entry 58] -/
def ranksHeld (s : State) (rs : List Nat) : Bool := rs.all fun r => (chipOf s r).isSome

/-- The ranks a node deals with on the tree of a root: its parent and its children. -/
def treeRanks (s : State) (root : Nat) : List Nat :=
  let q := treePos s root
  ((if q = 0 then [] else [parentOf q]) ++ childrenOf (jobSize s) q).map (rankAt s root)

/-- The ranks a node needs when it enters VOTE. -/
def voteRanks (s : State) : List Nat :=
  let v := s.step.vote
  [v.arb, v.bak] ++ treeRanks s v.arb ++ treeRanks s v.bak

/-- The vote fields of POLICY are taken (R339), and the rank table is read (R152). [DEDUCED, log entry 40] -/
def voteEnter (s : State) : State :=
  let s := modVote s fun v => { v with arb := polArbiter s, bak := polBackup s, ranks := [], rankReq := [] }
  readRanks s (voteRanks s)

/-! ### Votes (R151, R154, R455) -/

/-- The rank of a verdict in FIRST_CHIP, CLEAN lowest. -/
def verdictRank (v : Nat) : Nat := match v with
  | 0 => 0 | 1 => 1 | 3 => 2 | 2 => 3 | _ => 4

/-- The rank of the worst verdict that a vote counts. -/
def worstOf (v : Vote) : Nat :=
  if v.nAbsent != 0 then 4 else if v.nFailed != 0 then 3 else if v.nNonfinite != 0 then 2 else if v.nSuspect != 0 then 1 else 0

/-- Two votes combined (R154). [DEDUCED, log entry 140] -/
def addVote (a b : Vote) : Vote :=
  { a with
    nClean := a.nClean + b.nClean, nSuspect := a.nSuspect + b.nSuspect, nNonfinite := a.nNonfinite + b.nNonfinite,
    nFailed := a.nFailed + b.nFailed, nAbsent := a.nAbsent + b.nAbsent, nfReproAll := a.nfReproAll && b.nfReproAll,
    point := max a.point b.point, z := (a.z + b.z) % resP, worst := max a.worst b.worst,
    firstChip := if a.worst > b.worst then a.firstChip else if b.worst > a.worst then b.firstChip else min a.firstChip b.firstChip }

/-- One chip's vote from the verdicts of its instances: verdict, point, NF_REPRO, Z. [DEDUCED, log entry 140] -/
def chipVote (s : State) (vs : List (Nat × Nat × Bool × Nat)) : Vote :=
  let v := vs.foldl (fun b x => if verdictRank x.1 > verdictRank b then x.1 else b) 0
  { job := s.step.eng.job, step := s.step.eng.number, replayNo := s.step.eng.replayNo,
    nClean := b2n (v == 0), nSuspect := b2n (v == 1), nNonfinite := b2n (v == 3), nFailed := b2n (v == 2),
    nfReproAll := vs.all fun x => x.1 != 3 || x.2.2.1, point := (vs.map (·.2.1)).foldl max 0,
    z := (vs.map (·.2.2.2)).sum % resP, firstChip := chipNo s, worst := verdictRank v }

/-- The vote of this chip, once the verdicts of all its instances are held (R455, R459); a member has none. Where VOTE_TIMEOUT has
passed without a member's, the package votes SUSPECT with point STEP. -/
def packageVote (s : State) : Option Vote :=
  let v := s.step.vote
  if isMember s then none
  else if isMaster s && s.cas.late == some (s.step.eng.number % 2 ^ 32, s.step.eng.replayNo) then some (chipVote s [(1, 4, false, s.step.z)])
  else match v.verdict with
    | none => none
    | some k =>
      let own := (k, v.point, v.nfRepro, s.step.z)
      if !(isMaster s) then some (chipVote s [own])
      else if s.cas.failVerdicts then some (chipVote s [own, (2, 4, false, 0)])
      else if (memberVerdicts s).length + 1 < s.cas.instances then none
      else some (chipVote s (own :: memberVerdicts s))

/-- The words of a vote message. [DESIGN CHOICE, log entry 59] -/
def voteWords (v : Vote) (revote : Bool) : List Word :=
  [pack [(0, 32, v.job), (32, 17, v.fromPos), (49, 3, v.point), (52, 1, b2n v.nfReproAll), (53, 1, b2n revote)],
    BitVec.ofNat 64 v.step, pack [(0, 17, v.nClean), (17, 17, v.nSuspect), (34, 17, v.nNonfinite)],
    pack [(0, 17, v.nFailed), (17, 17, v.nAbsent), (34, 16, v.firstChip)], pack [(0, 31, v.z), (32, 16, v.replayNo)]]

/-- The contents of STEP_DECISION (R173), without VALID and SEQ. [DESIGN CHOICE, log entry 176] -/
def decWord (d : Decision) : Word :=
  pack [(60, 3, d.kind), (57, 3, d.point), (56, 1, b2n d.audit), (55, 1, b2n d.fromBackup), (54, 1, b2n d.backup), (0, 32, d.step)]

/-- The words of a decision message. [DESIGN CHOICE, log entry 59] -/
def decWords (d : Decision) : List Word :=
  [decWord d, pack [(0, 32, d.job), (32, 16, d.replayNo)], BitVec.ofNat 64 d.step,
    pack [(0, 17, d.nAbsent), (17, 17, d.nNonClean), (34, 16, d.firstChip)]]

/-- The votes on the arbiter's tree, or on the backup's. -/
def treeOf (s : State) (re : Bool) : Tally := if re then s.step.vote.reTree else s.step.vote.tree
/-- Rewrite them. -/
def modTree (s : State) (re : Bool) (f : Tally → Tally) : State :=
  modVote s fun v => if re then { v with reTree := f v.reTree } else { v with tree := f v.tree }
/-- The root of the tree. -/
def rootOf (s : State) (re : Bool) : Nat := if re then s.step.vote.bak else s.step.vote.arb

/-- VOTE_BAD_MSG (R151). [DEDUCED, log entry 60] -/
def voteBad (s : State) (src type : Nat) : State := raiseNetRecv s (fcode 3 1 5) src type

/-- Whether a message names this chip's job, and the chip votes at all. -/
def voteHears (s : State) (job : Nat) (auth : Bool) : Bool :=
  auth && isArmed s && !(isDecode s) && !(isMember s) && job == s.step.eng.job

/-- Whether a message names the current run. [DEDUCED, log entry 40] -/
def thisRun (s : State) (step replayNo : Nat) : Bool := step == s.step.eng.number && replayNo == s.step.eng.replayNo

/-! ### The arbiter (R155, R156) -/

/-- Whether this chip is the arbiter or the backup. -/
def keepsDecisions (s : State) : Bool := ownRank s == s.step.vote.arb || ownRank s == s.step.vote.bak

/-- The decision recorded for a run. -/
def recordedFor (s : State) (step replayNo : Nat) : Option Decision :=
  s.step.vote.recorded.find? fun d => d.step == step && d.replayNo == replayNo

/-- Arbiter and backup keep the decisions of the last two steps (R156); a run keeps the totals first recorded for it. -/
def recordDecision (s : State) (d : Decision) : State :=
  let d := match recordedFor s d.step d.replayNo with
    | some x => { d with nAbsent := x.nAbsent, nNonClean := x.nNonClean, firstChip := x.firstChip }
    | none => d
  if !(keepsDecisions s) then s
  else modVote s fun v =>
    let l := (v.recorded.filter fun x => !(x.step == d.step && x.replayNo == d.replayNo)) ++ [d]
    let top := (l.map (·.step)).foldl max 0
    { v with
      recorded := l.filter fun x => decide (x.step + 1 ≥ top), nAbsent := d.nAbsent, nNonClean := d.nNonClean,
      firstChip := d.firstChip }

/-- The decision of the arbiter on the totals (R155): kind, point, AUDIT. [DEDUCED, log entry 43] -/
def decideOn (t : Vote) (nfRuns : Nat) (nfReplay : Bool) : Nat × Nat × Bool :=
  if t.nAbsent > 0 then (2, max 4 t.point, false)
  else if t.nFailed > 0 then (1, max 4 t.point, false)
  else if t.nNonfinite > 0 then
    if nfReplay && t.nfReproAll && t.nSuspect == 0 then (3, 0, false)
    else if nfRuns ≥ 3 then (4, 0, false)
    else (1, max 4 t.point, true)
  else if t.nSuspect > 0 then (1, t.point, false)
  else if t.z != 0 then (1, 3, false)
  else (0, 0, false)

/-- The decisions recorded for the current step. -/
def stepDecisions (s : State) : List Decision := s.step.vote.recorded.filter fun d => d.step == s.step.eng.number

/-- Send a decision down the tree it came on; one whose entries of the rank table are not in waits for them (R152). [DEDUCED, log entry 58] -/
def sendDown (s : State) (d : Decision) : State :=
  let root := if d.fromBackup then s.step.vote.bak else s.step.vote.arb
  let kids := (childrenOf (jobSize s) (treePos s root)).map (rankAt s root)
  let s := readRanks s kids
  if ranksHeld s kids then forEach (kids.filterMap (chipOf s)) s fun s c => net s c netDecision (decWords d)
  else modVote s fun v => { v with fwd := v.fwd ++ [d] }

/-- Whether a decision names the job, the step and the current run of this chip, and finds none applied (R158, R161). -/
def accepts (s : State) (d : Decision) : Bool :=
  isArmed s && !(isDecode s) && d.job == s.step.eng.job && thisRun s d.step d.replayNo && s.step.vote.decision.isNone &&
    s.step.eng.halted == 0

/-- A decision is accepted: the master forwards it on the ring (R456), and the chip applies it. -/
def acceptDecision (s : State) (d : Decision) : State :=
  let s := if isMaster s && accepts s d then
      let seq := wrapAdd 16 s.cas.decSeq 1
      casSend (modCas s fun c => { c with decSeq := seq }) 6 0xFF [(setFld (decWord d) 47 32 seq).toNat]
    else s
  post s (.decision d)

/-- The arbiter, or the backup, broadcasts a decision. [DEDUCED, log entry 58] -/
def broadcast (s : State) (d : Decision) : State := acceptDecision (sendDown (recordDecision s d) d) d

/-- The root of a tree holds the totals of its run (R155, R156, R159). -/
def rootDecides (re : Bool) (t : Vote) (s : State) : State :=
  let e := s.step.eng
  match if re then recordedFor s e.number e.replayNo else none with
  | some d => broadcast s { d with fromBackup := true }
  | none =>
    let past := stepDecisions s
    let nfRuns := (past.filter fun d => d.kind == 1 && d.audit).length
    let nfReplay := (past.getLast?.map (·.audit)).getD false
    let (kind, point, audit) := decideOn t nfRuns nfReplay
    let dirty := t.nSuspect + t.nNonfinite + t.nFailed + t.nAbsent
    let s := if dirty == 0 && t.z != 0 then collMismatch s 4 0 0 0 else s
    let d : Decision :=
      { job := e.job, step := e.number, replayNo := e.replayNo, kind := kind, point := point, audit := audit, fromBackup := re,
        nAbsent := t.nAbsent, nNonClean := dirty, firstChip := t.firstChip }
    let s := recordDecision s d
    if re then broadcast s d
    else
      let s := modVote s fun v => { v with pend := some d }
      net s ((chipOf s s.step.vote.bak).getD 0) netBackup (decWords d)

/-- A child that has not voted counts as absent with its whole subtree (R153). [DEDUCED, log entry 57] -/
def absentVote (s : State) (root c : Nat) : Vote :=
  let ps := subtreeOf (jobSize s) 5 [c]
  let chips := ps.filterMap fun p => chipOf s (rankAt s root p)
  { nAbsent := ps.length, worst := 4, firstChip := (chips.drop 1).foldl min (chips.headD 0) }

/-- The contents of STEP_VERDICT (R173), without VALID and SEQ. [DESIGN CHOICE, log entry 176] -/
def verdictWord (s : State) : Word :=
  let v := s.step.vote
  pack [(60, 3, v.verdict.getD 0), (57, 3, v.point), (56, 1, b2n v.nfRepro), (48, 8, v.reason), (0, 32, s.step.eng.number)]

/-- A verdict reaches STEP_VERDICT (R173, R174). -/
def postVerdict (s : State) (v point reason : Nat) (nf : Bool) : State :=
  let s := modVote s fun x => { x with verdict := some v, voted := true, point := point, reason := reason, nfRepro := nf }
  let w := verdictWord s
  let s := modRegs (latch s 0 1) fun g => { g with verdict := heldPost g.verdict w 0 (stamp s) }
  record s 5 1 [1, w]

/-- The entries of the run still being packed and the VERDICT record are written as the vote goes out (R138); a clean verdict whose
record is refused becomes SUSPECT from STEP (R140). [DEDUCED, log entry 147] [DEDUCED, log entry 179] -/
def voteRecord (s : State) : State :=
  let s := flushPend s
  let s := if s.step.vote.verdict.isNone then s else journalW s 7 0 [verdictWord s]
  if s.step.eng.jnlBad && s.step.vote.verdict == some 0 then
    let s := postVerdict s 1 4 8 false
    modTree s false fun t => { t with own := (packageVote s).or t.own }
  else s

/-- The vote waits for the notices of the run; where a read of one was abandoned it is never sent (R323). [DEDUCED, log entry 179] -/
def voteHeld (s : State) : Bool := s.step.vote.mute || !s.step.jnl.notices.isEmpty

/-- A node votes for its subtree, or decides, once it holds what R151 and R153 ask for and the entries it needs. -/
def treeStep (re : Bool) (s : State) : State :=
  let t := treeOf s re
  let root := rootOf s re
  let q := treePos s root
  match t.own with
  | none => s
  | some own =>
    let miss := (childrenOf (jobSize s) q).filter fun c => !(t.children.any fun v => v.fromPos == c)
    if t.sent || voteHeld s || (!miss.isEmpty && !t.late) then s
    else
      let dest := if q = 0 then (if re then [] else [s.step.vote.bak]) else [rankAt s root (parentOf q)]
      let need := (miss.flatMap fun c => subtreeOf (jobSize s) 5 [c]).map (rankAt s root) ++ dest
      let s := readRanks s need
      if !(ranksHeld s need) then s
      else
        let s := if re then s else voteRecord s
        let tot := (t.children ++ miss.map (absentVote s root)).foldl addVote ((treeOf s re).own.getD own)
        let s := modTree s re fun t => { t with sent := true }
        if q = 0 then rootDecides re tot s
        else net (cnt s 2) ((chipOf s (rankAt s root (parentOf q))).getD 0) netVote (voteWords { tot with fromPos := q } re)

/-- A member's verdict goes to its master (R455). -/
def memberVote (s : State) : State :=
  let v := s.step.vote
  if v.verdict.isNone || v.tree.sent || voteHeld s then s
  else
    let s := voteRecord (modTree s false fun t => { t with sent := true })
    let v := s.step.vote
    let e := s.step.eng
    casSend s 5 0 [v.verdict.getD 0, v.point, b2n v.nfRepro, s.step.z, e.number % 2 ^ 32, e.replayNo]

/-- Votes, absences or entries of the rank table may complete what a node waits for (R151–R156). -/
def tally (s : State) : State :=
  if isMember s then memberVote s else
  let s :=
    if s.step.vote.tree.own.isNone then
      match packageVote s with
      | some v => modTree s false fun t => { t with own := some v, timer := true }
      | none => s
    else s
  let s := treeStep true (treeStep false s)
  let ds := s.step.vote.fwd
  forEach ds (modVote s fun v => { v with fwd := [] }) sendDown

/-- A rank-table read has ended; after one that was abandoned the vote is never sent (R323). [DEDUCED, log entry 69] -/
def rankDone (s : State) (d : DmaDesc) : State :=
  post (if d.state == 3 then s else modVote s fun v => { v with mute := true }) .tally

/-- VOTE_MSG (R151, R153, R154, R159). [DEDUCED, log entry 60] -/
def voteGot (v : Vote) (revote auth : Bool) (src : Nat) (s : State) : State :=
  let s := latch (cnt s 6) 0 2
  if !(voteHears s v.job auth) then voteBad s src netVote
  else
    let old := if revote && ownRank s == s.step.vote.bak then recordedFor s v.step v.replayNo else none
    match old with
    | some d =>
      if s.step.vote.answered.contains (v.step, v.replayNo) then s
      else broadcast (modVote s fun w => { w with answered := w.answered ++ [(v.step, v.replayNo)] }) { d with fromBackup := true }
    | none =>
      let t := treeOf s revote
      let kids := childrenOf (jobSize s) (treePos s (rootOf s revote))
      if !(thisRun s v.step v.replayNo) || !(kids.contains v.fromPos) then voteBad s src netVote
      else if t.sent || t.late || t.children.any (fun c => c.fromPos == v.fromPos) || s.step.vote.decision.isSome then s
      else
        let v := { v with worst := worstOf v }
        post (modTree s revote fun t => { t with children := t.children ++ [v], timer := true }) .tally

/-- VOTE_ABSENT_TIMEOUT (R153). -/
def voteAbsent (s : State) : State :=
  let late (t : Tally) : Tally := if t.timer && !t.sent then { t with late := true } else t
  post (modTree (modTree s false late) true late) .tally

/-- BACKUP_ACK (R156): an acknowledgement that nothing waits for has no effect. -/
def backupAck (job step replayNo : Nat) (auth : Bool) (src : Nat) (s : State) : State :=
  let s := latch (cnt s 6) 0 2
  if !(voteHears s job auth) then voteBad s src netBackupAck
  else match s.step.vote.pend with
    | some d =>
      if d.step == step && d.replayNo == replayNo then broadcast (modVote s fun v => { v with pend := none }) d else s
    | none => s

/-- BACKUP_WAIT_EXPIRY (R156): a COMMIT the backup has not recorded becomes HOLD. [DEDUCED, log entry 49] -/
def backupWait (s : State) : State :=
  match s.step.vote.pend with
  | none => s
  | some d =>
    let d := if d.kind == 0 then { d with kind := 2, point := 4, audit := false, backup := true } else d
    broadcast (modVote s fun v => { v with pend := none }) d

/-- DECISION_MSG: a decision of the tree (R158), or with `rec_` the arbiter's to its backup (R156). [DEDUCED, log entry 51] -/
def decisionGot (d : Decision) (rec_ auth : Bool) (src : Nat) (s : State) : State :=
  let s := latch (cnt s 6) 0 2
  if !(voteHears s d.job auth) then voteBad s src netDecision
  else if rec_ then
    if ownRank s != s.step.vote.bak then s
    else
      net (recordDecision s d) src netBackupAck [pack [(0, 32, d.job), (32, 16, d.replayNo)], BitVec.ofNat 64 d.step]
  else if !(thisRun s d.step d.replayNo) then voteBad s src netDecision
  else if s.step.vote.decision.isSome then s
  else acceptDecision (sendDown (recordDecision s d) d) d

/-- DECISION_QUERY (R156): the latest decision of the step, where this chip keeps one. -/
def decisionQuery (job step src : Nat) (auth : Bool) (s : State) : State :=
  let s := latch (cnt s 6) 0 2
  if !(voteHears s job auth) then voteBad s src netAsk
  else if !(keepsDecisions s) then s
  else match (s.step.vote.recorded.filter fun d => d.step == step).getLast? with
    | some d => net s src netQuery (1 :: decWords d)
    | none => net s src netQuery [0, BitVec.ofNat 64 step]

/-- DECISION_TIMEOUT: the chip votes again on the backup's tree (R159). -/
def decisionTimeout (s : State) : State :=
  let v := s.step.vote
  if !(isArmed s) || isMember s || !v.tree.sent || treePos s v.arb == 0 || v.decision.isSome || v.revoted || s.step.eng.halted != 0 then s
  else post (modVote s fun v =>
    { v with revoted := true, reTree := { v.reTree with own := v.tree.own, timer := true } }) .tally

/-- VOTE_LOST: no decision after the re-vote either (R160). -/
def voteLost (s : State) : State :=
  let v := s.step.vote
  if !(isArmed s) || !v.revoted || v.decision.isSome || s.step.eng.halted != 0 then s
  else raiseI (modEng s fun e => { e with halted := 1 }) (fcode 3 2 6) 1

/-! ### Gates and the verdict (R29, R150, R165) -/

/-- The gates close (R29); the update falls (R143). -/
def closeGates (s : State) : State :=
  let s := modEng s fun e => { e with commitClosed := true, updOpen := false }
  post (copyReadOn (modGate s fun g => { g with closed := true })) .tokens

/-- Every primary operation has its outcome, or it is held by an arbitration (R132). -/
def opsIn (s : State) (mark : Nat) : Bool :=
  !(s.tiles.any fun (_, t) =>
    t.port.opn.any (fun o => decide (o.mark < mark)) || t.chk.ops.any fun o => decide (o.mark < mark) && !o.asNeighbour)

/-- STEP_STATUS.VERDICTS_IN (R132). [DEDUCED, log entry 56] -/
def verdictsIn (s : State) : Bool := s.step.eng.marks != 0 && opsIn s s.step.eng.marks

/-- The tiles a non-finite replay names, four to a word. -/
def tileWords (l : List Nat) : List Word :=
  (upto (ceilDiv l.length 4)).map fun i =>
    packN ((upto 4).filterMap fun k => (l[4 * i + k]?).map fun t => (16 * k, 16, t))

/-- The outcome of a non-finite replay (R165), with whether it is a bit-exact reproduction. [DEDUCED, log entry 55] -/
def nfJudge (s : State) : Bool × State :=
  let e := s.step.eng
  match (e.runs.find? (·.nf)).or e.nfRun with
  | none => (false, s)
  | some r =>
    let hw (s : State) : State :=
      raise s { code := fcode 3 2 9, master := 1, tile := r.tiles.head?, words := tileWords r.tiles }
    if e.nonfinite then
      if r.diff || r.uncomp then (false, hw s) else (true, raiseI s (fcode 3 0 8) 1)
    else if r.diff then (false, hw s) else (false, raiseI s (fcode 3 2 10) 1)

/-- An arbitration of the job's work that is open (R116). -/
def arbIsOpen (a : Arb) : Bool := a.state != .idle && a.items.any fun i => i.inSet && !i.suspect

/-- An arbitration still open when the verdict forms is a failure with the point that R148 gives its operations (R116, R150). -/
def arbStillOpen (s : State) : State :=
  forEach ((s.tiles.filter fun t => arbIsOpen t.2.arb).flatMap fun t => t.2.arb.items.filter fun i => i.inSet && !i.suspect) s
    fun s i => modEng s fun e => { e with req := reqRaise e.req (opPoint s i.phase i.id.mb).1 false (opPoint s i.phase i.id.mb).2 2 }

/-- The verdict and its reason (R150, R173). FAILED comes before NONFINITE. [DEDUCED, log entry 177] -/
def verdictOf (s : State) : Nat × Nat :=
  let e := s.step.eng
  if s.fault.safe then (2, 10)
  else if e.hostFault then (2, 4)
  else if e.conflict then (2, 11)
  else if e.nonfinite then (3, 9)
  else if e.req.point != 0 then
    (1, if e.req.reason ≤ 1 then (if s.tiles.any fun t => arbIsOpen t.2.arb then 2 else 1) else e.req.reason)
  else (0, 0)

/-- The last verdicts of the run are in, and none has formed (R132, R150). -/
def verdictDue (s : State) : Bool :=
  s.step.eng.armed && s.step.eng.phase == .vote && s.step.vote.verdict.isNone && opsIn s (s.step.eng.marks + 1)

/-- STEP_VERDICT (R150): the verdict forms once the last verdicts are in; a member's goes to its master (R455). -/
def stepVerdict (s : State) : State :=
  let b := arbStillOpen s
  let (v, reason) := verdictOf b
  if !(verdictDue s) || (v == 0 && !s.step.covReady.isEmpty) then s
  else
    let (nf, s) := nfJudge b
    let s := auditClose s
    let s := postVerdict s v s.step.eng.req.point reason (nf && v == 3)
    let s := if v ≥ 2 then closeGates s else s
    post (if s.step.vote.tree.sent then voteRecord s else s) .tally

/-! ### Decisions (R158, R161) -/

/-- The EPOCH record: epoch, committed step, action 0 commit, 1 rollback, 2 skip (R138). [DESIGN CHOICE, log entry 163] -/
def epochRecord (s : State) (action : Nat) : State :=
  let e := s.step.eng
  journalW s 9 0 [pack [(0, 1, e.epochSel), (32, 8, action)], BitVec.ofNat 64 e.epochStep]

/-- Step n has ended at a commit boundary: journal, activation, dumps (R133, R138, R216, R481). -/
def boundary (s : State) (n : Nat) (committed : Bool) : State :=
  let s := rewriteHeader (abandonJournal s)
  post (record s 5 1 [4, BitVec.ofNat 64 n, BitVec.ofNat 64 (b2n committed)]) (.commitBoundary n committed)

/-- Another run is voted on from here on: the votes and the verdict of the one before are gone. [DEDUCED, log entry 56] -/
def voteFresh (s : State) : State :=
  modVote s fun v =>
    { v with verdict := none, point := 0, reason := 0, nfRepro := false, tree := {}, reTree := {}, revoted := false, pend := none,
             decision := none, mute := false }

/-- The current step is over, committed or skipped: the next one waits for its FWD marker (R133, R134). -/
def nextStep (s : State) (committed : Bool) : State :=
  let s := boundary s s.step.eng.number committed
  let s := voteFresh (setPhase s .idle false)
  modEng s fun e =>
    { e with
      number := e.number + 1, req := {}, base := .idle, fwdNext := 0, bwdSet := [], cur := none, runs := [], nfRun := none,
      replayNo := 0, opened := false, runForced := false, nfNext := false, updOpened := false, updMarked := false }

/-- The state signature of this instance (R111, R187). -/
def stateSig (s : State) : Committed :=
  let cs := s.tiles.map (·.2.chk)
  { step := s.step.eng.number, sig := cs.foldl (fun a c => a ^^^ c.phaseSig) 0, count := (cs.map (·.phaseOps)).sum,
    incomplete := cs.any (·.phaseInc) }

/-- RECOVER is complete, or waits only for a restore (R162). -/
def recovered (s : State) : State :=
  if s.step.eng.recovering = 0 then s
  else modEng s fun e => if e.restoring then { e with recovering := 3 } else { e with recovering := 0, epochValid := true }

/-- COMMIT opens the commit gate (R144, R147, R158); EVAL changes no epoch (R246). -/
def commitStep (s : State) : State :=
  let n := s.step.eng.number
  let train := jobMode s == 0
  let s := if train then modEng s fun e => { e with epochSel := if isUndo s then e.epochSel else 1 - e.epochSel, epochStep := n } else s
  let s := updSlot s (n % 2) fun l => { l with used := true, step := n, committed := true, checked := false }
  let s := if train then epochRecord s 0 else s
  recovered (nextStep (mirCommit s (stateSig s)) true)

/-- A COMMIT that cannot be applied (R161). [DEDUCED, log entry 50] -/
def conflict (s : State) : State :=
  let n := s.step.eng.number
  let s := raiseI (modEng s fun e => { e with halted := 2, conflict := true }) (fcode 3 2 7) 1
  let s := closeGates (postVerdict s 2 s.step.eng.req.point 11 false)
  notCommittedSend s n 0

/-- The greatest replay number of a step that its slot shows. -/
def lastReplay (s : State) (n : Nat) : Nat :=
  ((slot s (n % 2)).recs.filter (fun r => r.step == n)).foldl (fun a r => max a r.replayNo) 0

/-- The last step committed before a step, as its STEP_OPEN record names it. -/
def epochBefore (s : State) (n : Nat) : Nat :=
  match (slot s (n % 2)).recs.find? fun r => r.type == 1 && r.step == n with
  | some r => fld (nthW (payWords r.pay) 1) 61 0
  | none => n - 1

/-- The committed step s is undone: the step number returns to it, with the runs it has had (R130, R147). -/
def rollback (s : State) : State :=
  let n := s.step.eng.epochStep
  let no := lastReplay s n
  let before := epochBefore s n
  let s := mirRolledBack s
  let s := if isUndo s then undoRestore s (n % 2) else s
  let s := updSlot s (n % 2) fun l => { l with committed := false, checked := false }
  let s := modEng s fun e =>
    { e with epochSel := if isUndo s then e.epochSel else 1 - e.epochSel, epochStep := before, number := n, replayNo := no }
  epochRecord s 1

/-- The update of the run is taken back under UNDO (R146). -/
def takeBack (s : State) : State :=
  if isUndo s && s.step.eng.updOpened then undoRestore (modEng s fun e => { e with updOpened := false }) (curSlot s) else s

/-- The phase is HOLD (R134): no run is in progress. -/
def enterHold (s : State) : State :=
  let s := setPhase s .hold false
  modEng s fun e =>
    { e with base := .hold, fwdNext := 0, bwdSet := [], cur := none, runs := [], runForced := false, updOpened := false, updMarked := false }

/-- The point a decision to replay names: one it does not name is that of the whole step. [DEDUCED, log entry 43] -/
def orderedPoint (d : Decision) : Nat := if d.point == 0 || decide (d.point > 5) then 4 else d.point

/-- A decision other than COMMIT (R133, R134, R146, R147, R149, R166). -/
def holdStep (s : State) (d : Decision) : State :=
  let n := s.step.eng.number
  let s := takeBack s
  let replays := d.kind == 1 || d.kind == 2
  let s := if replays then modEng s fun e =>
      { e with req := reqRaise { e.req with reason := 0 } (orderedPoint d) d.audit none 0, nfNext := d.audit }
    else s
  let s := if d.kind == 4 then modEng s fun e => { e with halted := 3 } else s
  let s := notCommittedSend s n d.kind
  let s := if replays && d.point == 5 && jobMode s == 0 then rollback s else s
  let s := boundary s n false
  recovered (enterHold s)

/-- A COMMIT is applied, where the chip's own verdict is CLEAN, its gate open and its records written (R140, R158, R161). -/
def commitOr (s : State) : State :=
  let e := s.step.eng
  if s.step.vote.verdict != some 0 || e.commitClosed || e.jnlBad then conflict s
  else if jobMode s == 0 && !(jnlFits s (jrec s 9 0 (.words [0, 0]))) then conflict (jnlFails s (fcode 3 2 2))
  else commitStep s

/-- A journal write has ended, or one has failed: a COMMIT that waits for the records of its run goes on (R140). -/
def commitGo (failed : Bool) (s : State) : State :=
  let n := s.step.eng.commitLeft
  if n = 0 then s
  else if failed || n = 1 then commitOr (modEng s fun e => { e with commitLeft := 0 })
  else modEng s fun e => { e with commitLeft := n - 1 }

/-- A decision for the current run (R158, R161, R166); a COMMIT of a step whose records are incomplete is not applied, and one of a
step whose records are still being written waits for them (R140). In
the safe state the phase is frozen, and only a COMMIT is answered (R161, R252). [DEDUCED, log entry 51] [DEDUCED, log entry 147] [DEDUCED, log entry 148] [DEDUCED, log entry 179] -/
def applyDecision (d : Decision) (s : State) : State :=
  if !(accepts s d) then s
  else if s.fault.safe then (if d.kind == 0 then conflict s else s)
  else
    let w := decWord d
    let s := flushPend (setPhase s .commit s.step.eng.replay)
    let left := (jnlUnwritten s).length
    let s := modVote s fun v => { v with decision := some d, last := some d, skipDone := false, pend := none }
    let s := modRegs s fun g => { g with decision := heldPost g.decision w 0 (stamp s) }
    let s := journalW (record (cnt s 3) 5 1 [2, w]) 8 0 [w]
    if d.kind != 0 then holdStep s d
    else if left = 0 || s.step.vote.verdict != some 0 || s.step.eng.jnlBad then commitOr s
    else modEng s fun e => { e with commitLeft := left }

end Sys2Proof.Machine
end

