-- ==== Sys2Proof/Machine/Engine.lean ====
section
/-! DEFINITION. The step engine: markers, runs, scalars, the opening of the update, arming and the other commands,
certificates and the STEP registers (R129–R135, R141–R147, R162–R166, R171–R175, R184, R242–R249, R454). -/
namespace Sys2Proof.Machine

/-! ### Markers (R129–R135, R247, R393) -/

/-- The markers; the last is END. -/
inductive Marker where
  | fwd | bwd | exch | upd | fin
deriving DecidableEq, Repr

/-- The code of a marker. -/
def markerCode : Marker → Nat
  | .fwd => 1 | .bwd => 2 | .exch => 3 | .upd => 4 | .fin => 5

/-- The phase a marker begins (R134). -/
def markerPhase : Marker → Phase
  | .fwd => .fwd | .bwd => .bwd | .exch => .exch | .upd => .upd | .fin => .vote

/-- MB_COUNT. -/
def mbCount (s : State) : Nat := fld s.step.eng.config 63 48

/-- The order of R129 within a flow: its phase, its next FWD, the micro-batches it has marked BWD. [DEDUCED, log entry 41] -/
def inOrder (s : State) (ph : Phase) (next : Nat) (bs : List Nat) (m : Marker) (b : Nat) : Bool :=
  let n := mbCount s
  let eval := jobMode s == 2
  match m with
  | .fwd => decide (b < n) && ((ph == .idle && b == 0) || (ph == .fwd && b == next))
  | .bwd => !eval && decide (b < n) && !(bs.contains b) && ((ph == .fwd && next == n) || ph == .bwd)
  | .exch => !eval && ph == .bwd && bs.length == n
  | .upd => !eval && ph == .exch
  | .fin => if eval then ph == .fwd && next == n else ph == .upd || (ph == .exch && s.step.eng.nonfinite)

/-- A slot holds a committed step that is not yet checked (R139, R147). -/
def uncheckedIn (s : State) (i : Nat) : Bool := (slot s i).used && (slot s i).committed && !(slot s i).checked

/-- STEP_STATUS.UNCHECKED_PRED. [DEDUCED, log entry 54] -/
def uncheckedPred (s : State) : Bool := uncheckedIn s 0 || uncheckedIn s 1

/-- MODEL_NONFINITE waits for SKIP or HALT (R133, R166). -/
def mnfPending (s : State) : Bool :=
  s.step.vote.last.any fun d => d.kind == 3 && d.step == s.step.eng.number && !s.step.vote.skipDone

/-- The point at which a replay marker begins a run, where the pending requirement allows it (R130, R149). [DEDUCED, log entry 42] -/
def startPoint (s : State) (m : Marker) (b : Nat) : Option Nat :=
  let e := s.step.eng
  let p := e.req.point
  let held := e.base == .hold
  let within := e.base == .bwd || e.base == .exch || e.base == .upd
  let ok := match p with
    | 0 => false
    | 1 => m == .fwd && decide (b < mbCount s) && (e.req.mbs.contains b || (held && e.req.mbs.isEmpty)) &&
        (held || within || e.base == .fwd)
    | 2 => m == .bwd && decide (b < mbCount s) && (held || within)
    | 3 => m == .exch && held
    | _ => m == .fwd && b == 0 && held
  if ok && !(mnfPending s) && e.halted == 0 then some p else none

/-- A replay marker continues the run in progress (R130). [DEDUCED, log entry 42] -/
def continues (s : State) (r : Run) (m : Marker) (b : Nat) : Bool :=
  let e := s.step.eng
  if e.halted != 0 then false
  else
    let again := m == .fwd && decide (b < mbCount s) && (r.listed.contains b || (r.job && r.listed.isEmpty)) && !(r.mbs.contains b)
    match r.point, r.job with
    | 1, false => again
    | 1, true => (again && e.base == .fwd) || inOrder s e.base e.fwdNext e.bwdSet m b
    | 2, false => inOrder s r.phase (mbCount s) r.bwd m b
    | _, _ => inOrder s e.base e.fwdNext e.bwdSet m b

/-- An illegal marker: ignored for the phase, with STEP_SEQ (R131, R247). -/
def stepSeq (s : State) : State :=
  let s := raiseI s (fcode 3 2 0) 1
  if isArmed s && isDecode s then (if s.step.eng.opened then post s (.badGroup s.step.eng.mb) else s)
  else post s (.require 4 false none 7)

/-- The run in progress ends (R130). -/
def endRun (s : State) : State :=
  match s.step.eng.cur with
  | none => s
  | some r => modEng s fun e => { e with cur := none, runs := e.runs ++ [r], runForced := false }

/-- What a run of a whole step, or of one from EXCH, starts from (R143, R150, R164). -/
def freshRun (s : State) : State :=
  let s := modVote (voteFresh (mirRunStarts s)) fun v => { v with voted := false }
  modEng s fun e =>
    { e with
      hostFault := false, conflict := false, nonfinite := false, gradSeen := false, commitClosed := s.fault.safe, nfRun := none,
      jnlBad := false, updOpened := false, updMarked := false, undoDone := false }

/-- The first FWD of a step (R130, R139). -/
def stepStarts (s : State) : State :=
  let n := s.step.eng.number
  let s := collRun (freshRun s) 4
  let s := updSlot s (n % 2) fun _ => { used := true, step := n }
  modEng s fun e => { e with runId := e.runId + 1, replayNo := 0, runs := [], opened := false, joined := false }

/-- A replay run begins at a point (R130, R149, R241); one that a decision ordered starts the vote anew and goes on to its own
END. [DEDUCED, log entry 42] -/
def runStarts (s : State) (point : Nat) : State :=
  let e := s.step.eng
  let job := e.base == .hold
  let id := e.runId + 1
  let no := e.replayNo + 1
  let listed := if point == 1 then e.req.mbs else []
  let nf := job && e.nfNext
  let r : Run := { id := id, point := point, job := job, replayNo := no, listed := listed, phase := if point == 2 then .bwd else .idle, nf := nf }
  let s := if job then collRun (freshRun s) point else s
  let s := modEng s fun e => { e with runId := id, replayNo := no, cur := some r }
  if job then
    modEng s fun e =>
      { e with
        runForced := e.nfNext, nfNext := false, base := if point == 3 then .bwd else if point ≥ 4 then .idle else .fwd,
        fwdNext := if point ≥ 3 then 0 else mbCount s, bwdSet := if point == 3 then upto (mbCount s) else [] }
  else s

/-- The flow an accepted marker advances. -/
def advanceFlow (m : Marker) (b : Nat) (e : Step) : Step :=
  let base (e : Step) : Step :=
    { e with
      base := markerPhase m, fwdNext := if m == .fwd then b + 1 else e.fwdNext,
      bwdSet := if m == .bwd then e.bwdSet ++ [b] else e.bwdSet }
  match e.cur with
  | none => base e
  | some r =>
    let r := { r with mbs := if m == .fwd then r.mbs ++ [b] else r.mbs }
    if r.point == 1 && r.job && m == .fwd then { e with cur := some r, base := .fwd }
    else if r.point == 1 && !r.job then { e with cur := some { r with phase := .fwd } }
    else if r.point == 2 && !r.job then
      let r := { r with phase := markerPhase m, bwd := if m == .bwd then r.bwd ++ [b] else r.bwd }
      let e := { e with cur := some r }
      if m == .bwd then e else { e with base := markerPhase m }
    else base { e with cur := some r }

/-- The phase of the flow that the next marker advances. -/
def flowPhase (e : Step) : Phase :=
  match e.cur with
  | some r => if !r.job && (r.point == 1 || r.point == 2) then r.phase else e.base
  | none => e.base

/-- A sorted map with every position of a list rewritten. -/
def overAll (f : Nat → Tile → Tile) : List Nat → SMap Tile → SMap Tile
  | [], m => m
  | n :: ns, [] => (n, f n {}) :: overAll f ns []
  | n :: ns, (k, t) :: m => if k = n then (n, f n t) :: overAll f ns m else (n, f n {}) :: overAll f ns ((k, t) :: m)

/-- A marker reaches the tiles over the risers (R385, R476). [DEDUCED, log entry 61] -/
def markTiles (s : State) (code : Nat) (replay : Bool) : State :=
  forEach (s.build.positions.filter (riserUp s)) s fun s n => ring s n 10 false (code + 16 * b2n replay)

/-- The phase signatures of a phase start at 0 at the marker that is accepted now (R111). [DEDUCED, log entry 35] -/
def clearPhaseSigs (s : State) (p : Phase) : State :=
  let s := modEng s fun e => { e with sigPhase := phaseCode p, sigMark := e.marks + 1 }
  { s with tiles := s.tiles.map fun (n, t) =>
      (n, { t with chk := { t.chk with phaseSig := 0, phaseOps := 0, phaseInc := false } }) }

/-- What every accepted marker does besides its own effect (R111, R132, R385). [DEDUCED, log entry 35] -/
def markerAccepted (s : State) (m : Marker) (replay : Bool) (b : Nat) (fresh : Bool) : State :=
  let s := if fresh && m != .fin then clearPhaseSigs s (markerPhase m) else s
  let s := modEng (cnt s 1) fun e => { e with marks := e.marks + 1, mb := if m == .fwd || m == .bwd then b else e.mb }
  let s := setPhase s (markerPhase m) replay
  let s := markTiles s (markerCode m) replay
  post s (.marker (markerCode m) replay b)

/-- The STEP_OPEN record of a step (R138); while a session is mixed it names the active table (R338). [DESIGN CHOICE, log entry 163] -/
def stepOpen (s : State) : State :=
  if s.step.eng.opened then s
  else
    let e := s.step.eng
    let d := (s.loader.active.map (·.digest)).getD 0
    let s := modEng s fun e => { e with opened := true }
    journalW s 1 0 ([e.config, pack [(63, 1, b2n e.epochValid), (62, 1, e.epochSel), (0, 62, e.epochStep)]] ++ (upto 6).map (digestWord d))

/-- The step-end marker (R83, R85, R117, R122, R130, R134, R143). -/
def stepEnds (s : State) (replay : Bool) : State :=
  let s := copyReadOn (modEng s fun e => { e with updOpen := false, updMarked := false })
  let s := if replay then endRun s else unresolve s fun _ _ => true
  let s := undoAbandon (collEnd (closeAllIncomplete s))
  let s := covClose (flushPend s) false
  if isMember s then s else voteEnter s

/-- What a marker does of its own. -/
def markerEffect (s : State) (m : Marker) (replay : Bool) (b arg : Nat) : State :=
  match m with
  | .fwd => noticeRead (stepOpen s) b arg
  | .bwd => s
  | .exch => if isUndo s then undoStart (collStart s) else collStart s
  | .upd =>
    let s := copyLate (modEng s fun e => { e with updMarked := true })
    if isUndo s && s.step.eng.undoStale then undoStart s else s
  | .fin => stepEnds s replay

/-- A marker in DECODE (R129, R247): `b` is the group; a replay names a group opened before. [DEDUCED, log entry 44] -/
def decodeMarker (s : State) (m : Marker) (replay : Bool) (b : Nat) : State :=
  let e := s.step.eng
  let next := (e.firstStep + e.fwdNext) % 2 ^ 32
  let back := (next + 2 ^ 32 - b) % 2 ^ 32
  let ok := m == .fwd && (if replay then decide (1 ≤ back) && decide (back ≤ e.fwdNext) else b == next)
  if !ok then stepSeq s
  else
    let s := flushPend s
    let anew := replay && !((e.cur.map (·.mbs)).getD [b]).contains b == false
    let s :=
      if !replay then modEng s fun e => { e with runId := e.runId + 1, cur := none, fwdNext := e.fwdNext + 1 }
      else if anew then
        let r : Run := { id := e.runId + 1, replayNo := e.replayNo + 1, mbs := [b] }
        modEng s fun e => { e with runId := e.runId + 1, replayNo := e.replayNo + 1, cur := some r }
      else modEng s fun e => { e with cur := e.cur.map fun r => { r with mbs := r.mbs ++ [b] } }
    let s := if e.opened then s else updSlot s (e.number % 2) fun _ => { used := true, step := e.number }
    let s := markerAccepted s m replay b (anew || e.phase != .fwd)
    post (groupOpens (stepOpen s) b) .activation

/-- A marker in TRAIN or EVAL (R129, R130, R135). -/
def trainMarker (s : State) (m : Marker) (replay : Bool) (b arg : Nat) : State :=
  let s := flushPend s
  if !replay then
    let s := endRun s
    let e := s.step.eng
    let opens := m == .fwd && e.base == .idle
    if !e.armed || !(inOrder s e.base e.fwdNext e.bwdSet m b) || (opens && uncheckedIn s (curSlot s)) then stepSeq s
    else
      let fresh := e.base != markerPhase m
      let s := if opens then stepStarts s else s
      let s := modEng s (advanceFlow m b)
      markerEffect (markerAccepted s m false b fresh) m false b arg
  else
    let goes (s : State) (fresh : Bool) : State :=
      let s := modEng s (advanceFlow m b)
      markerEffect (markerAccepted s m true b fresh) m true b arg
    let begins (s : State) : State :=
      match startPoint s m b with
      | some p => if isArmed s then goes (runStarts s p) true else stepSeq s
      | none => stepSeq s
    match s.step.eng.cur with
    | none => begins s
    | some r =>
      if continues s r m b then goes s (flowPhase s.step.eng != markerPhase m)
      else if (startPoint s m b).isSome then begins (judgeRuns (endRun s))
      else stepSeq s

/-- The payload of a STEP item, its fields in the order of R393 (R407). [DESIGN CHOICE, log entry 154] -/
def stepPayload (kind code : Nat) (replay : Bool) (mb arg : Nat) : Nat :=
  kind + code * 2 ^ 2 + b2n replay * 2 ^ 6 + mb * 2 ^ 7 + arg * 2 ^ 39

/-- A field of a marker is out of its range, or not zero where the marker does not use it (R129, R393). -/
def markerBad (s : State) (m : Marker) (b arg : Nat) : Bool :=
  (if m == .fwd && !(isDecode s) then arg % 256 != 0 || decide (arg ≥ 2 ^ 57) else arg != 0) ||
    (if m == .fwd || m == .bwd then decide (b ≥ 2 ^ 32) else b != 0)

/-- A marker arrives on STEP (R129, R252, R393); it aborts the tests of positions in service (R210). `arg` is step_arg. -/
def marker (m : Marker) (replay : Bool) (b arg : Nat) (s : State) : State :=
  if markerBad s m b arg then
    raisePort s fcPortRange 10 0 (stepPayload 0 (markerCode m) replay b arg)
  else if s.fault.safe then s
  else
    let s := markerAborts s
    if isArmed s && isDecode s then decodeMarker s m replay b else trainMarker s m replay b arg

/-! ### Scalars and the update (R143, R164) -/

/-- A non-finite value closes the gates and is latched for the run (R29, R164), but of an unarmed block. [DEDUCED, log entry 153] -/
def nonfiniteLatch (s : State) : State :=
  if !(isArmed s) || s.step.eng.nonfinite then s
  else post (closeGates (modEng s fun e => { e with nonfinite := true })) (.require 4 true none 9)

/-- A scalar: with a field out of its range, or after the run's vote, a range fault (R164, R393). [DEDUCED, log entry 153] -/
def scalar (s : State) (payload : Nat) (fits nf : Bool) (f : Step → Step) : State :=
  if !fits || (isArmed s && s.step.vote.voted) then raisePort s fcPortRange 10 0 payload
  else if nf then nonfiniteLatch (modEng s f) else modEng s f

/-- The exponent field of a binary32 is all ones. -/
def f32Bad (bits : Nat) : Bool := bits / 2 ^ 23 % 256 == 255

/-- LOSS_SCALAR (R164). -/
def lossScalar (mb bits : Nat) (s : State) : State :=
  scalar s (stepPayload 1 0 false mb bits) (decide (bits < 2 ^ 32)) (f32Bad bits) fun e => { e with lossBits := bits }
/-- GRAD_NORM_SCALAR (R164). -/
def gradScalar (mb bits : Nat) (s : State) : State :=
  scalar s (stepPayload 2 0 false mb bits) (mb == 0 && decide (bits < 2 ^ 32)) (f32Bad bits) fun e => { e with gradBits := bits, gradSeen := true }
/-- NONFINITE_FLAG (R164). -/
def nonfiniteFlag (s : State) : State := nonfiniteLatch s

/-- A certificate digest runs on the state the update would overwrite (R171). -/
def digestBlocks (s : State) : Bool :=
  s.step.cert.busy && decide (s.step.cert.step + (if isUndo s then 1 else 2) ≤ s.step.eng.number)

/-- The first condition of R143 that is not met, as STEP_STATUS.UPD_WAIT names it. [DEDUCED, log entry 141] -/
def updWait (s : State) : Nat :=
  let e := s.step.eng
  if e.updOpen then 0
  else if !(e.armed && jobMode s == 0 && e.updMarked) then 1
  else if !e.gradSeen || e.nonfinite then 2
  else if uncheckedPred s then 3
  else if digestBlocks s then 4
  else if isUndo s && !e.undoDone then 5
  else if isUndo s && e.restoring then 6
  else if e.commitClosed then 7
  else 0

/-- UPD_OPEN (R143). -/
def updOpens (s : State) : State :=
  if s.step.eng.updOpen || updWait s != 0 then s else modEng s fun e => { e with updOpen := true, updOpened := true }

/-! ### Arming (R142, R173, R184, R245, R249, R454) -/

/-- An arm is refused (R245, R251). [DEDUCED, log entry 73] -/
def armRefuse (rq : Acc) (s : State) (axis reason req : Nat) : State :=
  modeRefused (raiseK s (fcode 6 2 1) rq 0x050000) axis 1 reason 0 req

/-- What an arm or a join starts from: an unused step unit, but for its registers, the scalars and a token gate that stays
closed (R170, R173). -/
def freshEngine (s : State) (job first : Nat) : State :=
  let e := s.step.eng
  let eng : Step :=
    { config := e.config, job := job, number := first, firstStep := first, armed := true, epochValid := true,
      axMode := jobMode s, axUndo := isUndo s, epochStep := (first + 2 ^ 64 - 1) % 2 ^ 64, runId := e.runId + 1, lossBits := e.lossBits, gradBits := e.gradBits,
      commitClosed := s.fault.safe }
  let s := modMir (undoDrop s) fun m => { m with kept := none }
  { s with step := { s.step with
      eng := eng, jnl := { job := job }, chains := [], z := 0, exchSeen := false, exchZ := 0, exchChains := [],
      vote := { arb := polArbiter s, bak := polBackup s }, gate := { closed := s.step.gate.closed } } }

/-- ARMED rises (R142, R435). [DEDUCED, log entry 45] -/
def armRises (v : Word) (s : State) : State :=
  let job := fld v 31 0
  post (freshEngine (armKeys s job) job (fld v 63 32)) .armed

/-- The job of an arm, a join or a RECOVER (R162, R173). -/
def waitJob (s : State) (w : ArmWait) : Nat := match w.kind with
  | .arm => fld w.value 31 0
  | .join => s.mirror.pairJob
  | .recover => s.step.jnl.job

/-- An arm goes to the ring; on an instance that has no ring `rises` at once, and one without a role yet waits for it (R454). [DEDUCED, log entry 180] -/
def armRing (rises : State → State) (w : ArmWait) (s : State) : State :=
  if !s.cas.roleKnown then modCas s fun c => { c with armWait := some w, armOk := false, armRole := true }
  else if s.cas.role == .standalone then rises s
  else
    let p : ArmParams := { armParamsOf s with job := waitJob s w }
    let s := modCas s fun c => { c with armWait := some w, armOk := false, armParams := p }
    if isMember s then casSend s 3 0 [p.jobMode, p.style, p.mirror, p.job] else casArmTry s

/-- The cascade row of R244 fails at a write of STEP_ARM on the master, as far as the write can tell: no ring, or a member's
ARM_CHECK that differs (R249, R451). [DEDUCED, log entry 73] -/
def casRowFails (s : State) (job : Nat) : Bool :=
  let p : ArmParams := { armParamsOf s with job := job }
  isMaster s && (!s.cas.ringOk || s.cas.armChecks.any fun a => a.2 != p)

/-- STEP_ARM (R173, R245, R252, R435). An arm while one is in force or waits has no effect. [DEDUCED, log entry 46] -/
def stepArm (rq : Acc) (v : Word) (s : State) : State :=
  let jm := jobMode s
  if s.fault.safe then frozen s rq 0x050000 6 0
  else if isArmed s || s.mirror.wait.isSome || s.cas.armWait.isSome then s
  else if jm == 3 then armRefuse rq s 1 8 3
  else if jm != 0 && (isUndo s || mirMode s != 0) then armRefuse rq s 6 2 0
  else if secState s == .provision || secState s == .locked || !(jobKeyFor s (fld v 31 0)) then armRefuse rq s 6 5 0
  else if casRowFails s (fld v 31 0) then
    casArmRefuse (fld v 31 0) s
  else if !(regActive s 2 && regActive s 3) then armRefuse rq s 6 7 0
  else if mirMode s != 0 && !(isPaired s) then modMir s fun m => { m with wait := some ⟨.arm, v⟩ }
  else armRing (armRises v) ⟨.arm, v⟩ s

/-- ARMED may rise as far as the partner goes: with MODE other than NONE the link is PAIRED (R184). -/
def pairReady (s : State) : Bool := mirMode s == 0 || isPaired s

/-- ARM_PAIR_WAIT_EXPIRY: the link is not PAIRED within 1 ms of the arm or join (R184). RECOVER waits without a limit. [DEDUCED, log entry 47] -/
def armPairLate (s : State) : State :=
  let late (s : State) : State := raiseI s (fcode 4 2 5) 2
  match s.mirror.wait with
  | some w => if w.kind == .recover then s else late (modMir s fun m => { m with wait := none })
  | none =>
    match s.cas.armWait with
    | some w =>
      if w.kind != .recover && s.cas.armOk && !(pairReady s) then late (modCas s fun c => { c with armWait := none, armOk := false })
      else s
    | none => s

/-- JOIN arms a replacement chip at the held step, ready for a replay marker FWD(0) (R162, R197). Its job is the one that
PAIR named. -/
def joinRises (step : Nat) (s : State) : State :=
  let job := s.mirror.pairJob
  let s := freshEngine (armKeys s job) job step
  let s := updSlot s (step % 2) fun _ => { used := true, step := step }
  let s := modEng s fun e => { e with base := .hold, req := { point := 4 }, joined := true }
  let s := setPhase s .hold false
  let ns := (s.mirror.pulled.filter fun n => n.step == step).map fun n => (n.mb, n.words)
  let s := forEach ns s fun s (mb, ws) =>
    noticeSend (journalPut { type := 2, mb := mb, step := step, pay := .words ws } s) step mb ws
  post s .armed

/-- A value of STEP_CONFIG as it is stored (R173). -/
def configStore (v : Word) : Word := pack [(15, 49, fld v 63 15), (2, 2, fld v 3 2), (0, 1, fld v 0 0)]

/-- A write of STEP_CONFIG while unarmed (R242, R251, R252). In the safe state one that changes an axis is refused. -/
def configWrite (rq : Acc) (v : Word) (s : State) : State :=
  let v := configStore v
  let old := s.step.eng.config
  if isArmed s then s
  else if s.fault.safe && fld v 3 2 != fld old 3 2 then frozen s rq 0x050008 1 (fld v 3 2)
  else if s.fault.safe && fld v 0 0 != fld old 0 0 then frozen s rq 0x050008 2 (fld v 0 0)
  else
    let s := modRegs (modEng s fun e => { e with config := v }) fun g => { g with written := g.written ||| 1 }
    if fld v 3 2 == 1 && fld old 3 2 != 1 then demoteAll rq s else s

/-! ### STEP_CMD (R141, R160, R162, R166, R171, R175) -/

/-- A command that is ignored (R175). [DEDUCED, log entry 53] -/
def stepCmdBad (rq : Acc) (s : State) : State := raiseK s (fcode 3 1 13) rq 0x050050

/-- The frame of a command: the safe state refuses it (R252), and so does what R175 says. [DESIGN CHOICE, log entry 92] -/
def stepCmd (rq : Acc) (cmd : Nat) (ok : State → Bool) (f : State → State) (s : State) : State :=
  if s.fault.safe then frozen s rq 0x050050 7 cmd else if ok s then f s else stepCmdBad rq s

/-- A command names the current step of the armed job. -/
def namesStep (s : State) (step : Nat) : Bool := isArmed s && step % 2 ^ 32 == s.step.eng.number % 2 ^ 32

/-- SKIP ends a non-finite step without changing EPOCH (R166). -/
def skipCmd (rq : Acc) (step : Nat) : State → State :=
  stepCmd rq 1 (fun s => namesStep s step && mnfPending s) fun s =>
    let s := modVote s fun v => { v with skipDone := true }
    let s := epochRecord s 2
    copyAfterSkip (modEng (nextStep s false) fun e => { e with commitClosed := s.fault.safe })

/-- HALT holds the step; a COMMIT phase that runs ends at a commit boundary (R133, R166). -/
def haltCmd (rq : Acc) (step : Nat) : State → State :=
  stepCmd rq 2 (fun s => namesStep s step && (mnfPending s || s.step.eng.phase == .hold || s.step.eng.halted == 1 || s.step.eng.halted == 2))
    fun s =>
      let s := modVote s fun v => { v with skipDone := true }
      let s := takeBack s
      let s := if s.step.eng.phase == .commit then boundary s s.step.eng.number false else s
      enterHold (modEng s fun e => { e with halted := 3, commitClosed := true })

/-- DISARM ends the job (R175, R435). [DEDUCED, log entry 45] [DEDUCED, log entry 89] -/
def disarmCmd (rq : Acc) (step : Nat) : State → State :=
  stepCmd rq 3 (fun s => namesStep s step && (s.step.eng.phase == .idle || s.step.eng.phase == .hold)) fun s =>
    let s := setPhase s .idle false
    let s := modEng s fun e =>
      { e with
        armed := false, halted := 0, base := .idle, req := {}, cur := none, runs := [], nfRun := none, updOpen := false,
        updMarked := false, updOpened := false, runForced := false, nfNext := false, joined := false, recovering := 0 }
    let s := { s with step := { s.step with vote := {} } }
    post (disarmKeys s) .disarmed

/-- ARMED is 0 and the configuration registers have been written (R175): STEP_CONFIG, STEP_JNL_BASE, STEP_JNL_SIZE,
STEP_RANK_TABLE. [DEDUCED, log entry 47] -/
def configured (s : State) : Bool := !(isArmed s) && s.step.regs.written == 15

/-- A configuration register has been written (R175). -/
def regWritten (s : State) (bit : Nat) : State := modRegs s fun g => { g with written := g.written ||| bit }

/-- JOIN (R162, R184, R197). [DEDUCED, log entry 47] -/
def joinCmd (rq : Acc) (step : Nat) : State → State :=
  stepCmd rq 5 (fun s => configured s && s.mirror.wait.isNone && s.cas.armWait.isNone && (mirMode s == 0 || (s.mirror.pullDone && s.mirror.pull.step == step)))
    fun s =>
      let w : ArmWait := ⟨.join, BitVec.ofNat 64 step⟩
      if pairReady s then armRing (joinRises step) w s else modMir s fun m => { m with wait := some w }

/-- FETCH (R141): a micro-batch without a record is refused. -/
def fetchCmd (rq : Acc) (step mb : Nat) : State → State :=
  stepCmd rq 7 (fun s => namesStep s step && s.sec.jnl.isSome && (fetchNotice s mb).isSome) fun s => (fetchNotice s mb).getD s

/-- REVOTE sends the held verdict on the tree of the reloaded POLICY (R160). [DEDUCED, log entry 48] -/
def revoteCmd (rq : Acc) (step : Nat) : State → State :=
  stepCmd rq 8 (fun s => namesStep s step && s.step.eng.halted == 1) fun s =>
    let own := s.step.vote.tree.own
    let s := modEng s fun e => { e with halted := 0 }
    let s := modVote s fun v => { v with revoted := false, reTree := {}, tree := { own := own, timer := true } }
    post (voteEnter s) .tally

/-- The reserved codes of STEP_CMD. -/
def stepBadCmd (rq : Acc) (cmd : Nat) : State → State := stepCmd rq cmd (fun _ => false) id

/-! ### RECOVER (R162) -/

/-- The newest record of a type: in a slot, or the copy in the header area. -/
def recRec (s : State) (type : Nat) : Option JRec :=
  let j := s.step.jnl
  let hdr := if type == 1 then j.hdrOpen else if type == 8 then j.hdrDecision else if type == 9 then j.hdrEpoch else none
  match lastRec s type with
  | some r => some r
  | none => hdr

/-- Word i of a record. -/
def recWord (r : Option JRec) (i : Nat) : Word := match r with
  | some r => nthW (payWords r.pay) i
  | none => 0

/-- The newest record of a type for a step. -/
def recFor (s : State) (type step : Nat) : Option JRec :=
  match recRec s type with
  | some r => if r.step == step then some r else none
  | none => none

/-- EPOCH as the journal has it: the last EPOCH record, else the state STEP_OPEN holds. -/
def recEpoch (s : State) : Nat × Nat :=
  match recRec s 9 with
  | some r => (fld (nthW (payWords r.pay) 0) 0 0, (nthW (payWords r.pay) 1).toNat)
  | none => let w := recWord (recRec s 1) 1; (fld w 62 62, fld w 61 0)

/-- The decision a DECISION record holds. -/
def recDecision (s : State) (n : Nat) (w : Word) : Decision :=
  { wordDecision s w with step := n, replayNo := s.step.eng.replayNo }

/-- The arbiter, or failing it the backup, is asked for the decision (R162). A member, which has no messages on NET, has it from its
master (R455, R456). [DEDUCED, log entry 180] -/
def askDecision (s : State) (who : Nat) : State :=
  let v := s.step.vote
  let rank := if who == 1 then v.arb else v.bak
  let s := modEng s fun e => { e with recovering := who }
  if isMember s then s else
  match chipOf s rank with
  | some c => net s c netAsk [BitVec.ofNat 64 s.step.eng.job, BitVec.ofNat 64 s.step.eng.number]
  | none => readRanks s [rank]

/-- Where the journal stands: the step, whether it has ended, and the EPOCH record of a rollback to it that nothing has followed
(R147, R162). The newer of the last STEP_OPEN and the last EPOCH record says it. [DEDUCED, log entry 181] -/
def recoverPoint (s : State) : Nat × Bool × Option JRec :=
  let o := recRec s 1
  let opened := (((o.map (·.step)).getD 0), false, none)
  match recRec s 9 with
  | none => opened
  | some r =>
    if r.seq < (o.map (·.seq)).getD 0 then opened
    else if fld (nthW (payWords r.pay) 0) 39 32 == 1 then (r.step, false, some r)
    else (r.step, true, none)

/-- What RECOVER finds of the run it comes to: its DECISION and its VERDICT record, those of an earlier run before a rollback not
counted. -/
def recoverRun (s : State) : Option JRec × Option JRec :=
  let (n, _, back) := recoverPoint s
  let since (o : Option JRec) : Option JRec := o.filter fun r => decide ((back.map (·.seq + 1)).getD 0 ≤ r.seq)
  (since (recFor s 8 n), since (recFor s 7 n))

/-- A VERDICT or DECISION record names CLEAN or COMMIT. -/
def recClean (r : JRec) : Bool := fld (nthW (payWords r.pay) 0) 62 60 == 0

/-- The journal has a COMMIT for the verdict of the run, and a clean verdict (R158, R163). -/
def recCommits (s : State) : Bool := match recoverRun s with
  | (some d, some v) => recClean d && recClean v && d.replayNo == v.replayNo
  | _ => false

/-- The verdict of the run has no decision yet (R162). -/
def recAsks (s : State) : Bool := match recoverRun s with
  | (none, some _) => true
  | (some d, some v) => decide (d.seq < v.seq)
  | _ => false

/-- The journal has a decision of the current step that names ROLLBACK (R147). -/
def recBacks (s : State) (d : JRec) : Bool :=
  let w := nthW (payWords d.pay) 0
  jobMode s == 0 && (fld w 62 60 == 1 || fld w 62 60 == 2) && fld w 59 57 == 5

/-- RECOVER finds the step neither committed nor to be asked for: the update or the rollback is completed, and the recorded decision
is in force again (R134, R146, R147, R162, R166). -/
def recoverHold (s : State) (n : Nat) (back dec : Option JRec) (undo : Bool) : State :=
  let s :=
    if back.isSome && isUndo s then undoRestore (undoRestore s ((n + 1) % 2)) (n % 2)
    else takeBack (modEng s fun e => { e with updOpened := undo })
  let s := if dec.any (recBacks s) then boundary (rollback s) n false else s
  let s := enterHold s
  match dec.or (back.bind fun r => (recRec s 8).filter fun d => d.step == r.step + 1) with
  | some r =>
    let d := recDecision s n (nthW (payWords r.pay) 0)
    let s := modVote s fun v => { v with decision := some d, last := some d }
    let s := modEng s fun e =>
      { e with
        halted := if d.kind == 4 then 3 else e.halted, nfNext := d.audit,
        req := if d.kind == 1 || d.kind == 2 then { point := orderedPoint d, audit := d.audit } else e.req }
    recovered s
  | none => recovered (modEng s fun e => { e with req := { point := 4 } })

/-- The step a RECOVER finds open, its epoch state and its phase (R134, R162): a step that has ended gives IDLE at the next; a COMMIT
in the journal is applied; a verdict without a decision is asked for; else the phase is HOLD. -/
def recoverTo (s : State) : State :=
  let (n, ended, back) := recoverPoint s
  let (dec, ver) := recoverRun s
  let (sel, es) := recEpoch s
  let commits := recCommits s
  let asks := recAsks s
  let no := lastReplay s n
  let s := modEng s fun e =>
    { e with
      job := s.step.jnl.job, armed := true, axMode := jobMode s, axUndo := isUndo s, epochSel := sel, epochStep := es, firstStep := n,
      runId := e.runId + 1, opened := true, number := n, replayNo := no, epochValid := false, recovering := 3 }
  let s := modVote s fun v => { v with arb := polArbiter s, bak := polBackup s }
  let undo := isUndo s && (recFor s 6 n).isSome
  let voting (s : State) : State :=
    modVote (modEng s fun e => { e with base := .vote, updOpened := undo }) fun v =>
      { v with verdict := some (fld (recWord ver 0) 62 60), voted := true }
  if ended || (jobMode s == 2 && commits) then
    recovered (modEng s fun e => { e with number := n + 1, replayNo := 0, opened := false })
  else if commits then
    let d := recDecision s n (recWord dec 0)
    commitStep (modVote (voting (setPhase s .commit false)) fun v => { v with decision := some d, last := some d })
  else if asks then
    let s := voting (setPhase s .vote false)
    askDecision (readRanks s [s.step.vote.arb, s.step.vote.bak]) 1
  else recoverHold s n back dec undo

/-- ARMED rises by RECOVER. -/
def recoverRises (s : State) : State := post (recoverTo (rxRecovered s)) .armed

/-- RECOVER goes on (R162): without the journal's key, or without a journal, it fails with JNL_LOST. -/
def recoverGo (s : State) : State :=
  if s.sec.jnl.isNone || (recRec s 1).isNone then raiseI s (fcode 3 2 4) 1 else armRing recoverRises ⟨.recover, 0⟩ s

/-- RECOVER (R162); with MODE other than NONE it waits for PAIRED, before which ARMED does not rise (R184). [DEDUCED, log entry 47] -/
def recoverCmd (rq : Acc) : State → State :=
  stepCmd rq 4 (fun s => configured s && s.mirror.wait.isNone && s.cas.armWait.isNone) fun s =>
    if pairReady s then recoverGo s else modMir s fun m => { m with wait := some ⟨.recover, 0⟩ }

/-- ARMED rises by what waited for it. -/
def waitRises (w : ArmWait) : State → State := match w.kind with
  | .arm => armRises w.value
  | .join => joinRises w.value.toNat
  | .recover => recoverRises

/-- An arm, a join or a RECOVER may go on: the role is known, the link is PAIRED, or the ring has agreed (R184, R454). In the safe state ARMED keeps
its value (R252). -/
def armGo (s : State) : State :=
  if s.fault.safe || !(pairReady s) then s
  else match s.mirror.wait with
  | some w =>
    let s := modMir s fun m => { m with wait := none }
    if w.kind == .recover then recoverGo s else armRing (waitRises w) w s
  | none =>
    match s.cas.armWait with
    | some w =>
      if s.cas.armRole then
        armRing (waitRises w) w (modCas s fun c => { c with armWait := none, armRole := false })
      else if s.cas.armOk then waitRises w (modCas s fun c => { c with armWait := none, armOk := false })
      else s
    | none => s

/-- An entry of the rank table has come in for a query that waits for it. -/
def recoverRanks (s : State) : State :=
  let r := s.step.eng.recovering
  if r == 1 || r == 2 then
    let v := s.step.vote
    if (chipOf s (if r == 1 then v.arb else v.bak)).isSome then askDecision s r else s
  else s

/-- The query could not be delivered to the arbiter: the backup is asked (R162). -/
def askBackup (s : State) : State := if s.step.eng.recovering == 1 then askDecision s 2 else s

/-! ### Certificates (R171, R172) -/

/-- The step a certificate is asked for: the last committed one; in EVAL, which has no EPOCH, the slots show it. [DEDUCED, log entry 62] -/
def certStep (s : State) : Nat :=
  if jobMode s != 2 then s.step.eng.epochStep
  else
    let c (i : Nat) : Nat := if (slot s i).used && (slot s i).committed then (slot s i).step else 0
    max (c 0) (c 1)

/-- The request buffer (R173). -/
def certBase (s : State) : Nat := fld s.step.regs.certReq 56 12 * 2 ^ 12

/-- A transfer of a certificate on channel 6 (R313): OWNER is the security unit; TAG 1 the list, 2 a shard, 3 the
certificate. -/
def certMove (s : State) (src dst : Word) (len tag : Nat) (buf : List Byte) : State :=
  dmaPost 6 src dst (pack [(56, 8, tag), (48, 8, 4), (0, 40, len)]) .cert buf s

/-- Rewrite the certificate unit. -/
def modCert (s : State) (f : Cert → Cert) : State := { s with step := { s.step with cert := f s.step.cert } }

/-- The COVERAGE record of a committed step: that of its last run. [DEDUCED, log entry 74] -/
def covRecord (s : State) (n : Nat) : Option JRec :=
  (slot s (n % 2)).recs.reverse.find? fun r => r.type == 5 && r.step == n

/-- CERT (R171, R338). Its STEP names the current step, as R175 has it of every command. [DEDUCED, log entry 178] -/
def certCmd (rq : Acc) (step : Nat) : State → State :=
  stepCmd rq 6
    (fun s => namesStep s step && !s.step.cert.busy && !s.loader.mixed &&
      (jobMode s == 2 || (jobMode s == 0 && s.step.eng.phase == .idle)))
    fun s =>
      let n := certStep s
      let l := slot s (n % 2)
      if !(l.used && l.step == n && l.committed) then
        raiseI (modCert s fun c => { c with done := false, failed := true }) (fcode 3 1 12) 1
      else
        let cov := covRecord s n
        let s := modCert s fun _ =>
          { busy := true, step := n, epochSel := s.step.eng.epochSel, job := s.step.eng.job, cov := cov,
            covDigest := Config.sha3_384 ((cov.map (jBytes s)).getD []) }
        certMove s (BitVec.ofNat 64 (certBase s)) blockEnd 1024 1 []

/-- Read the next shard, if one is left. -/
def certNext (s : State) : State :=
  let c := s.step.cert
  match c.shards[c.digests.length]? with
  | some (a, l) => certMove (modCert s fun c => { c with bytes := [] }) a blockEnd l.toNat 2 []
  | none => s

/-- Bytes of the list or of a shard arrive. -/
def certData (s : State) (bs : List Byte) : State := modCert s fun c => { c with bytes := c.bytes ++ bs }

/-- The shard entries of a list, up to an all-zero one. -/
def certShards (ws : List Word) : List (Word × Word) :=
  ((upto 64).map fun i => (nthW ws (2 * i), nthW ws (2 * i + 1))).takeWhile fun e => e.1 != 0 || e.2 != 0

/-- A descriptor of a certificate has ended (R171, R323). -/
def certEnded (s : State) (d : DmaDesc) : State :=
  let c := s.step.cert
  if !c.busy then s
  else if d.state != 3 then modCert s fun c => { c with busy := false, failed := true }
  else if c.writing then modCert s fun c => { c with busy := false, done := true }
  else if !c.listed then
    certNext (modCert s fun c => { c with listed := true, shards := certShards (bytesWords c.bytes), bytes := [] })
  else certNext (modCert s fun c => { c with digests := c.digests ++ [Config.sha3_384 c.bytes], bytes := [] })

/-- The totals of the thirteen counts over all partitions (R172). [DEDUCED, log entry 74] -/
def covTotals (s : State) (ws : List Word) : List Word :=
  (upto 13).map fun k =>
    let vs := (upto s.build.partitions).map fun p => nthW ws (22 + 13 * p + k)
    if k == 0 then pack [(32, 32, (vs.map fun v => fld v 63 32).sum), (0, 32, (vs.map fun v => fld v 31 0).sum)]
    else BitVec.ofNat 64 (vs.map (·.toNat)).sum

/-- The bytes of a certificate up to its signature (R172). [DEDUCED, log entry 52] -/
def certBody (s : State) : List Byte :=
  let c := s.step.cert
  let r := c.cov
  let digest (d : Nat) : List Word := (upto 6).map (digestWord d)
  let entry (x : (Word × Word) × Nat) : List Word := [x.1.1, x.1.2] ++ digest x.2
  wordsBytes
    ([1, BitVec.ofNat 64 c.job, BitVec.ofNat 64 c.step,
      pack [(48, 16, chipNo s), (40, 8, instNo s), (32, 1, c.epochSel)], pack [(32, 32, 0x00040200), (0, 32, 3)]] ++
      digest ((s.loader.active.map (·.digest)).getD 0) ++ covTotals s ((r.map fun r => payWords r.pay).getD []) ++
      digest c.covDigest ++ [BitVec.ofNat 64 c.shards.length] ++
      (c.shards.zip c.digests).flatMap entry)

/-- CERT_DIGEST_DONE (R171): the digests are complete, and the certificate, signed under the attestation key, is written behind the
list; without that key there is none (R434). [DEDUCED, log entry 52] -/
def certDigestDone (s : State) : State :=
  let c := s.step.cert
  if !c.busy || !c.listed || c.writing || c.digests.length < c.shards.length then s
  else match s.sec.att with
  | none => modCert s fun c => { c with busy := false, failed := true }
  | some key =>
    let bytes := certBody s ++ Config.sign key (certBody s)
    let at_ := certBase s + ceilDiv (16 * (c.shards.length + 1)) 64 * 64
    certMove (modCert s fun c => { c with writing := true }) blockEnd (BitVec.ofNat 64 at_) (ceilDiv bytes.length 64 * 64) 3 bytes

/-! ### STEP registers (R173, R174) -/

/-- STEP_VERDICT_ACK. -/
def verdictAck (v : Word) (s : State) : State := modRegs s fun g => { g with verdict := heldAck g.verdict v }
/-- STEP_DECISION_ACK. -/
def decisionAck (v : Word) (s : State) : State := modRegs s fun g => { g with decision := heldAck g.decision v }

/-- STEP_STATUS. [DEDUCED, log entry 40] -/
def stepStatus (s : State) : Word :=
  let e := s.step.eng
  pack [(63, 1, b2n e.armed), (62, 1, b2n (e.halted != 0)), (61, 1, b2n e.commitClosed), (60, 1, b2n s.step.gate.closed),
    (59, 1, b2n e.updOpen), (58, 1, e.epochSel), (57, 1, b2n (verdictsIn s)), (56, 1, b2n (uncheckedPred s)), (52, 3, if e.armed then updWait s else 0),
    (32, 16, e.replayNo), (8, 24, e.mb), (4, 4, phaseCode e.phase), (3, 1, b2n e.replay)]

/-- STEP_REQ. -/
def stepReq (s : State) : Word :=
  let r := s.step.eng.req
  pack [(63, 1, b2n (r.point != 0)), (60, 3, r.point), (59, 1, b2n r.audit), (52, 7, min 64 r.mbs.length),
    (0, 32, (r.mbs.drop 1).foldl min (r.mbs.headD 0))]

/-- The STEP registers of R173, by window offset. -/
def viewStep (s : State) (off : Nat) : Option Word :=
  let e := s.step.eng
  let g := s.step.regs
  let v := s.step.vote
  let t := s.step.gate
  match off with
  | 0x050000 => some 0
  | 0x050008 => some e.config
  | 0x050010 => some (pack [(0, 32, e.job)])
  | 0x050018 => some (BitVec.ofNat 64 e.number)
  | 0x050020 => some (stepStatus s)
  | 0x050028 => some (stepReq s)
  | 0x050030 => some (heldView g.verdict)
  | 0x050038 => some 0
  | 0x050040 => some (heldView g.decision)
  | 0x050048 => some 0
  | 0x050050 => some 0
  | 0x050058 => some g.jnlBase
  | 0x050060 => some g.jnlSize
  | 0x050068 => some g.rankTable
  | 0x050070 => some g.undoList
  | 0x050078 => some (pack [(32, 32, e.undoCopied), (0, 32, e.undoRestored)])
  | 0x050080 => some (pack [(32, 32, e.lossBits), (0, 32, e.gradBits)])
  | 0x050088 => some (pack [(57, 7, t.held.length), (32, 25, t.discarded), (0, 32, t.lastGroup)])
  | 0x050090 => some g.certReq
  | 0x050098 =>
    let c := s.step.cert
    some (pack [(63, 1, b2n c.busy), (62, 1, b2n c.done), (61, 1, b2n c.failed), (0, 8, c.digests.length)])
  | 0x0500A0 => some g.fetchDst
  | 0x0500A8 =>
    some (if keepsDecisions s && isArmed s then pack [(47, 17, v.nAbsent), (30, 17, v.nNonClean), (14, 16, v.firstChip)] else 0)
  | _ => none

/-- The outputs of EPOCH (R142, R394): valid, sel, upd_open, step. -/
def epochOut (s : State) : Bool × Nat × Bool × Nat :=
  let e := s.step.eng
  (e.epochValid, e.epochSel, e.updOpen, e.epochStep % 2 ^ 32)

end Sys2Proof.Machine
end

