-- ==== Sys2Proof/Machine/Hang.lean ====
section
/-! DEFINITION. Hangs and the suspect search (R275–R279, R286–R289, R296, R298). -/
namespace Sys2Proof.Machine

/-- ENGINE_HANG, SUSPECT_FOUND, SUSPECT_NONE. -/
def fcHang : Nat := fcode 7 2 0
/-- SUSPECT_FOUND. -/
def fcSuspect : Nat := fcode 7 2 1
/-- SUSPECT_NONE. -/
def fcNoSuspect : Nat := fcode 7 1 2

/-- A LADDER record (R297, R300): its kind in the top byte of the first word, and the words of the event. [DESIGN CHOICE, log entry 102] -/
def ladderRec (s : State) (kind : Nat) (ws : List Word) : State := record s 8 5 (pack [(56, 8, kind)] :: ws)

/-- Whether a checker watches host tile `n` (R275): its own, or its adopter. -/
def watched (s : State) (n : Nat) : Bool := match screener s n with
  | .inl _ => true
  | .inr _ => false

/-- A tile that is no longer busy, or that no checker watches, is not watched; one that is busy is, from when a checker watches
it (R275). [DEDUCED, log entry 101] -/
def watchSettle (s : State) : State :=
  forEach (s.tiles.map (·.1)) s fun s n =>
    let w := (tile s n).watch
    let due := tileBusy s n && watched s n
    if w.on then (if due then s else modWatch s n fun w => { w with on := false, suspects := [], overflow := false })
    else if due && !w.hung then watchRestart s n
    else s

/-! ### Beacons (R275, R279, R386) -/

/-- A tile has made progress after its hang: HANG_EVENT says so where it holds the hang, and no search follows (R279). -/
def lateProgress (s : State) (n : Nat) : State :=
  let seqs := (tile s n).watch.hungSeq.toList ++ (s.search.uncovered.filter fun h => h.tile == n).map (·.seq)
  let s := modSearch s fun q => { q with uncovered := q.uncovered.filter fun h => h.tile != n }
  let s := modWatch s n fun w => { w with hungSeq := none }
  let h := s.hangReg
  if h.valid && seqs.contains h.seq then { s with hangReg := { h with w0 := setFld h.w0 61 61 1 } } else s

/-- BEACON_SAMPLE: a value that advances is accepted and restarts the watch; another changed value is a range fault
(R275). [DEDUCED, log entry 101] -/
def beaconSample (n v : Nat) (s : State) : State :=
  let w := (tile s n).watch
  if v == w.beacon then s
  else if (v + 2 ^ 32 - w.beacon) % 2 ^ 32 ≥ 2 ^ 31 then raisePort s fcPortRange 4 n v (partOf s n)
  else
    let z := counterOf s n
    let s := ring (tcnt s z 14) z 4 (z != n) v
    let s := modWatch s n fun w => { w with beacon := v }
    let s := lateProgress s n
    if (w.on || w.hung) && watched s n then watchRestart s n else s

/-! ### The suspect search (R286–R288) -/

/-- SUSPECT_NONE for a hang: its address is the operation that ENGINE_HANG named (R259, R288). [DEDUCED, log entry 99] -/
def noSuspect (s : State) (h : Hung) : State :=
  raise s { code := fcNoSuspect, access := 7, master := h.tile, addr := h.ident, part := partOf s h.tile, tile := some h.tile }

/-- The next hung tile is searched; one with no suspects, or too many, stays unattributed (R286). [DEDUCED, log entry 100] -/
def searchNext : Nat → State → State
  | 0, s => s
  | f + 1, s =>
    match s.search.queue with
    | [] => s
    | h :: rest =>
      if s.search.state != 0 then s
      else
        let ok := !(h.suspects.isEmpty) && !h.overflow
        let s := modSearch s fun q =>
          { q with
            queue := rest, hung := h, state := b2n ok, result := if ok then 0 else 3, current := 0, guilty := none,
            mismatch := false }
        if ok then s
        else searchNext f (noSuspect s h)

/-- The search looks at its queue. [DEDUCED, log entry 100] -/
def searchGo (s : State) : State := searchNext (s.search.queue.length + 1) s

/-- The search ends with a result; the next queued one starts (R288, R296). [DEDUCED, log entry 99] -/
def searchEnds (s : State) (result : Nat) : State :=
  post (modSearch s fun q => { q with state := 0, result := result, mismatch := false }) .search

/-- The current suspect is guilty: HUNG 2 or DIVERGED 3 (R288). -/
def suspectFound (s : State) (r : Nat) : State :=
  let q := s.search
  let n := q.hung.tile
  let ctx := (q.hung.suspects[q.current]?.map (·.ctx)).getD 0
  let s := modSearch (suspectResult s r) fun q => { q with guilty := some q.current }
  let s := raise s
    { code := fcSuspect, access := 7, master := n, addr := ctx, part := partOf s n, ctx := some ctx, tile := some n }
  searchEnds (if r == 2 then askRung s 2 { tile := some n, part := partOf s n } else s) 1

/-- The current suspect is CLEAN; with every suspect CLEAN there is no culprit (R288). [DEDUCED, log entry 99] -/
def suspectClean (s : State) : State :=
  let s := suspectResult s 1
  if s.search.hung.suspects.all fun x => x.result == 1 then
    searchEnds (noSuspect s s.search.hung) 2
  else modSearch s fun q => { q with state := 1, mismatch := false }

/-- An arbitration on a tile has concluded: 2 is CHECKER_FAULT (R287). [DEDUCED, log entry 98] -/
def searchArb (n code : Nat) (s : State) : State :=
  let q := s.search
  if !(q.mismatch && q.hung.tile == n && decide (q.state ≥ 2)) then s
  else if code == 2 then
    if q.state == 3 then suspectClean s else modSearch s fun q => { q with mismatch := false }
  else suspectFound s 3

/-- A suspect's signature differs from the journaled one (R287). [DEDUCED, log entry 98] -/
def searchDiff (n : Nat) (s : State) : State :=
  if s.search.hung.tile == n && decide (s.search.state ≥ 2) then suspectFound s 3 else s

/-- LADDER_CMD SEARCH_REPLAY (R286, R296). -/
def searchReplay (rq : Acc) (v : Word) (s : State) : State :=
  secure rq s <|
    let i := fld v 3 0
    let ok := match s.search.hung.suspects[i]? with
      | some x => s.search.state == 1 && (x.result == 0 || x.result == 4)
      | none => false
    if ok then suspectResult (modSearch s fun q => { q with state := 2, current := i, mismatch := false }) 0
    else raiseK s fcCmdIllegal rq 0x001208

/-- LADDER_CMD SEARCH_DONE (R287, R296). [DEDUCED, log entry 98] -/
def searchDone (rq : Acc) (s : State) : State :=
  secure rq s <|
    if s.search.state != 2 then raiseK s fcCmdIllegal rq 0x001208
    else if !s.search.mismatch then suspectClean s
    else if (tile s s.search.hung.tile).arb.state == .idle then suspectFound s 3
    else modSearch s fun q => { q with state := 3 }

/-- LADDER_CMD SEARCH_END (R296). -/
def searchEnd (rq : Acc) (s : State) : State :=
  secure rq s <| if s.search.state = 0 then raiseK s fcCmdIllegal rq 0x001208 else searchEnds s 3

/-- A reserved code of LADDER_CMD. -/
def ladderBadCmd (rq : Acc) (s : State) : State := secure rq s (raiseK s fcCmdIllegal rq 0x001208)

/-- A hang joins those that wait for a search, in hang order (R286). -/
def insertHung (h : Hung) : List Hung → List Hung
  | [] => [h]
  | x :: r => if h.no < x.no then h :: x :: r else x :: insertHung h r

/-- A rung that covers hung tiles has completed: they wait for a search (R286). -/
def searchCovers (s : State) (f : Nat → Bool) : State :=
  let hs := s.search.uncovered.filter fun h => f h.tile
  if hs.isEmpty then s
  else post (modSearch s fun q =>
    { q with uncovered := q.uncovered.filter fun h => !(f h.tile), queue := hs.foldl (fun l h => insertHung h l) q.queue }) .search

/-! ### A hang (R276, R278) -/

/-- HANG: HANG_WINDOW has passed on a watched tile without an advance (R278). A suspect's replay that hangs is HUNG, and its
tile waits for no further search (R287–R289). [DEDUCED, log entry 96] [DEDUCED, log entry 97] -/
def hang (n : Nat) (s : State) : State :=
  let t := tile s n
  if !(t.watch.on && watched s n) then s
  else match t.port.opn with
    | [] => s
    | o :: _ =>
      let s := raiseTap s fcHang n o.desc
      let z := counterOf s n
      let s := ring s z 9 (z != n) 0 (idOf o.desc)
      let s := latch (modObs s z fun k => { k with frozen := true }) 1 5
      let seq := wrapAdd 16 s.hangReg.seq (s.hangReg.missed + 1)
      let w := pack [(62, 1, b2n t.watch.overflow), (56, 5, t.watch.suspects.length), (16, 12, n)]
      let s := { s with hangReg := heldPostAll s.hangReg w 0 0 }
      let s := ladderRec s 5 [setFld (setFld w 63 63 1) 47 32 seq, BitVec.ofNat 64 (opIdent o.desc)]
      let s := modWatch s n fun w => { w with on := false, hung := true, hungSeq := some seq }
      let s := forEach t.port.opn s fun s o => if o.suspect then s else opFails s o.phase o.desc.mb o.run o.gen 1
      if (replaying s n).isSome then suspectFound s 2
      else modSearch s fun q =>
        { q with
          hangs := q.hangs + 1,
          uncovered := q.uncovered ++ [⟨n, seq, t.watch.suspects, t.watch.overflow, q.hangs, opIdent o.desc⟩] }

/-- HANG_EVENT_ACK (R297). -/
def hangAck (rq : Acc) (v : Word) (s : State) : State := secure rq s { s with hangReg := heldAck s.hangReg v }

/-! ### Registers (R295, R298) -/

/-- TILE_BEACON. -/
def tileBeacon (s : State) (n : Nat) : Word :=
  let w := (tile s n).watch
  let st := if s.search.state != 0 && s.search.hung.tile == n then 3 else if w.hung then 2 else b2n w.on
  pack [(62, 2, st), (61, 1, b2n w.overflow), (56, 5, w.suspects.length), (0, 32, w.beacon)]

/-- HANG_SEARCH. -/
def hangSearch (s : State) : Word :=
  let q := s.search
  pack [(61, 3, q.state), (58, 3, q.result), (54, 4, q.current), (48, 6, min 63 q.queue.length), (32, 16, q.hung.seq),
    (28, 4, q.guilty.getD 0), (16, 12, q.hung.tile), (0, 1, b2n q.guilty.isSome)]

/-- HANG_SUSPECT[i]. -/
def hangSuspect (s : State) (i : Nat) : Word :=
  match s.search.hung.suspects[i]? with
  | some x => pack [(63, 1, 1), (32, 4, x.result), (0, 32, x.ctx)]
  | none => 0

end Sys2Proof.Machine
end

