-- ==== Sys2Proof/Machine/Tray.lean ====
section
/-! DEFINITION. The TRAY endpoint and the JTAG controller (R402, R406, R444). -/
namespace Sys2Proof.Machine

/-- The block answers on TRAY. -/
def trayAnswer (s : State) (m : TrayMsg) : State := { s with shell := { s.shell with trayOut := s.shell.trayOut ++ [m] } }

/-- The mandatory data byte of the in-band interrupt that says an MCTP message waits (R402). [DEDUCED, log entry 126] -/
def trayIbi : Nat := 0xAE

/-- Send an MCTP message over TRAY: where the controller has enabled in-band interrupts, one with its mandatory byte goes before
it (R402). [DEDUCED, log entry 126] -/
def traySend (s : State) (m : TrayMsg) : State :=
  trayAnswer (if nbit s.shell.trayEvents 0 then trayAnswer s (.ibi trayIbi) else s) m

/-- POWER_CYCLE_REQ: body byte 0 is 0x01 (R402). -/
def powerCycleReq : TrayMsg := .vendor Config.trayPen 0x01 []

/-- STATUS: body byte 0 is 0x02; MODE_STATUS, FAULT_STATUS and the hottest reading (R402, R458). -/
def statusMsg (mode fault : Word) (max : Nat) : TrayMsg := .vendor Config.trayPen 0x02 [mode, fault, BitVec.ofNat 64 max]

/-- An MCTP message has come: SQ3 sees it (R348). -/
def trayGot (s : State) : State := latch s 3 4

/-- STATUS_REQUEST: the answer carries MODE_STATUS, FAULT_STATUS and the hottest reading, of the package on a master
(R402, R458). [DESIGN CHOICE, log entry 16] -/
def statusRequestEff (s : State) : State :=
  let max := if isMaster s then fld (pkgTherm s) 27 16 else s.thermal.globalMax
  traySend (trayGot s) (statusMsg (modeStatus s) (faultStatus s) max)

/-- An MCTP control command (R402): an endpoint has the identifier it was set, supports message type 0x7F and the
enterprise number tray_pen. A command outside the supported ones gets no answer. [DEDUCED, log entry 126] -/
def mctpControlEff (cmd : MctpCtl) (arg : Nat) (s : State) : State :=
  let s := trayGot s
  match cmd with
  | .setEid =>
    let e := arg % 2 ^ 8
    traySend { s with shell := { s.shell with trayEid := e } } (.control cmd e)
  | .getEid => traySend s (.control cmd s.shell.trayEid)
  | .getVersion => traySend s (.control cmd (Config.trayValue 2))
  | .getTypes => traySend s (.control cmd 0x7F)
  | .getVendor => traySend s (.control cmd Config.trayPen)
  | .other => s

/-- A common command code (R402). SETDASA names the static address it is for in [13:7] of its argument and the new address in
[6:0]; ENTDAA the new address alone. The identity registers are the integrator's. [DEDUCED, log entry 126] -/
def i3cCccEff (code : Ccc) (arg : Nat) (s : State) : State :=
  let put (f : Shell → Shell) : State := { s with shell := f s.shell }
  match code with
  | .entdaa => put fun h => { h with trayAddr := some (arg % 2 ^ 7) }
  | .setdasa =>
    if arg / 2 ^ 7 % 2 ^ 7 == Config.trayStatic % 2 ^ 7 then put fun h => { h with trayAddr := some (arg % 2 ^ 7) } else s
  | .rstdaa => put fun h => { h with trayAddr := none }
  | .enec => put fun h => { h with trayEvents := h.trayEvents ||| arg % 2 ^ 8 }
  | .disec => put fun h => { h with trayEvents := h.trayEvents - (h.trayEvents &&& arg % 2 ^ 8) }
  | .getpid => trayAnswer s (.ccc code (Config.trayValue 16))
  | .getbcr => trayAnswer s (.ccc code (Config.trayValue 17))
  | .getdcr => trayAnswer s (.ccc code (Config.trayValue 18))
  | .getmrl => trayAnswer s (.ccc code (Config.trayValue 19))
  | .getmwl => trayAnswer s (.ccc code (Config.trayValue 20))
  | .other => s

/-- The identification register (R406). [PRESUMED, log entry 127] -/
def idcode : Nat := packN [(28, 4, 4), (12, 16, 0x4B04), (1, 11, Config.jtagMfr % 2 ^ 11), (0, 1, 1)]

/-- A code enters the 8-bit instruction register: IDCODE 0x01, IJTAG_ACCESS 0x20, and every other one selects BYPASS (R406). With
IJTAG_ACCESS every first refusal counts again (R444). -/
def jtagLoad (code : Nat) (s : State) : State :=
  match code with
  | 0x01 => { s with shell := { s.shell with jtag := .idcode } }
  | 0x20 => { s with shell := { s.shell with jtag := .network, denied := [] } }
  | _ => { s with shell := { s.shell with jtag := .bypass } }

/-- INSTRUMENT_INCLUDE (R444): a disabled instrument stays out, and its first refusal since the network was selected is
raised. The zeroise instrument acts as SEC_CMD ZEROISE. [DEDUCED, log entry 128] -/
def instrInclude (i : Instrument) (s : State) : State :=
  if s.shell.jtag != .network then s
  else if instrEnabled (secState s) i then
    let l := s.shell.included
    let s := { s with shell := { s.shell with included := if l.contains i then l else l ++ [i] } }
    if i == .zeroise then post (raiseI s (fcode 12 0 3) 4) (.zeroise 1) else s
  else
    let l := s.shell.included.filter fun j => j != i
    if s.shell.denied.contains i then { s with shell := { s.shell with included := l } }
    else raiseI { s with shell := { s.shell with included := l, denied := s.shell.denied ++ [i] } } fcDenied 4

end Sys2Proof.Machine
end

