-- ==== Sys2Proof/Machine/Ladder.lean ====
section
/-! DEFINITION. The escalation ladder: requests, the rungs with their acknowledgements and timeouts, and what a rung does
when it completes (R265, R280–R285, R295, R401). -/
namespace Sys2Proof.Machine

/-- Rewrite the ladder. -/
def modLad (s : State) (f : Ladder → Ladder) : State := { s with ladder := f s.ladder }

/-- The name a rung gives its target (R265). -/
def rungKey (r : RungReq) : Nat :=
  match r.rung with
  | 1 => r.target.ctx.getD 0
  | 2 => r.target.tile.getD 0
  | 3 => r.target.part.getD 0
  | _ => 0

/-- The words of a LADDER record about a rung. -/
def rungWords (r : RungReq) : List Word := [pack [(0, 4, r.rung), (32, 32, rungKey r)]]

/-- The highest level among deferred requests. [DEDUCED, log entry 103] -/
def deferredTop (l : List RungReq) : Nat := l.foldl (fun a r => max a r.rung) 0

/-- A rung starts, in place of the one in progress (R265, R280). [DEDUCED, log entry 105] [DEDUCED, log entry 120] -/
def rungStart (s : State) (r : RungReq) : State :=
  let s := modLad s fun l =>
    { l with
      rung := r.rung, target := r.target, stage := if r.rung ≥ 4 then 1 else 2, start := ticks s,
      engReq := if r.rung ≤ 2 then some (r.rung - 1, rungKey r % 2 ^ 32) else none,
      partReq := if r.rung == 3 then some (rungKey r) else none, trayWait := false }
  let s := ladderRec (setRecovery s (max r.rung (deferredTop s.ladder.deferred))) 1 (rungWords r)
  if r.rung == 3 then fenceGroup s (rungKey r) else if r.rung ≥ 4 then post s .crashDump else s

/-- A target with the partition of its tile (R265). -/
def fullTarget (s : State) (t : Target) : Target :=
  { t with part := match t.part with
      | some p => some p
      | none => t.tile.bind (partOf s) }

/-- A rung is requested: it starts, is deferred, or is absorbed (R265, R282). A seventeenth deferred one goes to the rung
above that can hold it. -/
def rungRequest : Nat → RungReq → State → State
  | 0, _, s => s
  | f + 1, r, s =>
    let l := s.ladder
    let cur : RungReq := ⟨l.rung, l.target⟩
    let same (x : RungReq) : Bool := x.rung == r.rung && rungKey x == rungKey r
    if r.rung > max l.rung l.recovery then rungStart s r
    else if r.rung != l.rung || same cur || l.deferred.any same then ladderRec s 2 (rungWords r)
    else if l.deferred.length < 16 then
      let s := modLad s fun l => { l with deferred := l.deferred ++ [r] }
      setRecovery s (max l.rung (deferredTop s.ladder.deferred))
    else
      let t := fullTarget s r.target
      rungRequest f ⟨resolveRung (if r.rung < 3 then 3 else r.rung + 1) t, t⟩ s

/-- A request reaches the ladder; in the safe state only one of CHIP or POWER does (R283). [DEDUCED, log entry 103] -/
def rungAsked (r : RungReq) (s : State) : State :=
  if s.fault.safe && r.rung < 4 then s else rungRequest 3 ⟨r.rung, fullTarget s r.target⟩ s

/-- The rung in progress is over; the next deferred request is carried out (R282, R283). One that is lower than the highest that
waits, which MODE_STATUS.RECOVERY then shows, is absorbed. [DEDUCED, log entry 103] -/
def rungOver (s : State) : State :=
  let ds := if s.fault.safe then [] else s.ladder.deferred
  let lower (r : RungReq) : Bool := decide (r.rung < deferredTop ds)
  let s := modLad s fun l =>
    { l with
      rung := 0, stage := 0, target := {}, engReq := none, partReq := none, deferred := ds.filter fun r => !(lower r) }
  let s := forEach (ds.filter lower) s fun s r => ladderRec s 2 (rungWords r)
  match s.ladder.deferred with
  | [] => setRecovery s 0
  | d :: rest => rungStart (modLad s fun l => { l with deferred := rest }) d

/-- A timeout goes to the next rung directly; in the safe state only from CHIP to POWER (R280, R282, R283). -/
def rungPromote (s : State) : State :=
  let l := s.ladder
  let t := fullTarget s l.target
  if s.fault.safe && l.rung < 4 then rungOver s else rungStart s ⟨resolveRung (l.rung + 1) t, t⟩

/-! ### What a rung does at completion (R280) -/

/-- The ring of a host tile's checker, and of the tile's own, thaws (R477). -/
def ringThaw (s : State) (n : Nat) : State :=
  let s := modObs s (counterOf s n) fun o => { o with frozen := false }
  modObs s n fun o => { o with frozen := false }

/-- A host tile has been reset: its watch is idle, and its hang may be searched (R280, R286). [DEDUCED, log entry 104] -/
def engineReset (s : State) (n : Nat) : State := searchCovers (ringThaw (watchIdle s n) n) fun m => m == n

/-- The operations of a context close INCOMPLETE, and its store entries are dropped (R76, R280). -/
def contextReset (s : State) (ctx : Nat) : State :=
  let s := incompleteAll s fun d => d.ctx == ctx
  let drop (c : Checker) : Checker :=
    storeTidy { c with store := c.store.map fun k => if k.ctx == ctx then { k with resident := false } else k }
  post { s with tiles := s.tiles.map fun (n, t) => (n, { t with chk := drop t.chk }) } .tokens

/-- Everything a checker still has to do goes: open operations are discarded, the pips of closed ones skipped (R76, R83,
R280). -/
def checkerReset (s : State) (x : Nat) : State :=
  let ops := (tile s x).chk.ops
  let s := forEach (ops.filter fun o => !o.done) s fun s o => discardOp s x o
  let s := forEach (ops.filter fun o => o.done) s fun s o => maybeJudged (skipIncomplete s x o true) x o.uid
  post (post s (.chkClear x)) (.flush x)

/-- The pip and signature registers of a checker go to their reset values, once what was open on it has closed (R128, R280). -/
def chkClear (x : Nat) (s : State) : State :=
  modChk s x fun c =>
    { c with
      pips := [], runq := [], backlog := 0, pip := {}, skipped := false, sigTag := 0, sigD := 0, sigA := 0, sigB := 0,
      sigC := 0, sigSeq := 0, keyGen := s.sec.pipGen }

/-- A partition has been reset; `trained` are the risers that pass training (R280). [DEDUCED, log entry 105] [DEDUCED, log entry 156] -/
def partitionReset (s : State) (p : Nat) (trained : List Nat) : State :=
  let ps := partPositions s p
  let s := discardOps s (fun x o => ps.contains x || ps.contains o.host) (fun n _ => ps.contains n)
  let s := forEach ps s checkerReset
  let s := unresolve s fun n _ => ps.contains n
  let s := forEach ps s fun s n => ringThaw (watchIdle s n) n
  let cols := ps.map s.build.col
  let s := risersTrained (trained.filter fun c => cols.contains c) s
  searchCovers s fun n => ps.contains n

/-- The rung in progress completes (R280, R282). -/
def rungComplete (s : State) (trained : List Nat) : State :=
  let l := s.ladder
  let r : RungReq := ⟨l.rung, l.target⟩
  let s := match l.rung with
    | 1 => contextReset s (rungKey r)
    | 2 => engineReset s (rungKey r)
    | 3 => partitionReset s (rungKey r) trained
    | _ => s
  rungOver (ladderRec s 3 (rungWords r))

/-! ### Acknowledgements and timeouts (R280, R284, R285, R401) -/

/-- The payload of an engine reset request or acknowledgement: scope, identifier (R401, R407). [DESIGN CHOICE, log entry 154] -/
def scopePayload (scope id : Nat) : Nat := scope + id * 2

/-- ENG_RST_ACK. -/
def engRstAckEff (scope id : Nat) (s : State) : State :=
  if s.ladder.engReq == some (scope, id) then rungComplete s []
  else raisePort s fcPortRange 15 0 (scopePayload scope id)

/-- PART_RST_ACK. [DEDUCED, log entry 105] -/
def partRstAckEff (p : Nat) (trained : List Nat) (s : State) : State :=
  if s.ladder.partReq == some p then rungComplete s trained else raisePort s fcPortRange 15 1 p

/-- A CONTEXT or ENGINE rung is not acknowledged in 10 ms. -/
def resetEngLate (s : State) : State :=
  match s.ladder.engReq with
  | none => s
  | some (scope, id) =>
    let t := fullTarget s s.ladder.target
    rungPromote (raise s
      { code := fcode 7 2 3, access := 8, master := 15 * 4096, addr := scopePayload scope id, part := t.part, ctx := t.ctx,
        tile := t.tile })

/-- A PARTITION rung is not acknowledged in 100 ms. -/
def resetPartLate (s : State) : State :=
  match s.ladder.partReq with
  | none => s
  | some p =>
    let t := s.ladder.target
    rungPromote (raise s
      { code := fcode 7 2 4, access := 8, master := 15 * 4096 + 1, addr := p, part := t.part, ctx := t.ctx, tile := t.tile })

/-- BLK_RST_N is not asserted within 1 s of CHIP_RST_REQ (R280, R284, R491). -/
def resetChipLate (s : State) : State :=
  if s.ladder.rung == 4 && s.ladder.stage == 2 && !s.shell.blkRstLow then rungPromote (raiseI s (fcode 7 3 5) 5) else s

/-- A reset request is not taken within 2 µs: it stays offered (R401). -/
def rstNotTaken (group : Nat) (s : State) : State :=
  match s.ladder.engReq, s.ladder.partReq with
  | some (scope, id), _ => if group = 0 then raisePort s fcPortTimeout 15 0 (scopePayload scope id) else s
  | none, some p => if group = 1 then raisePort s fcPortTimeout 15 1 p else s
  | none, none => s

/-- The crash dump of a rung is over: CHIP_RST_REQ rises, or the tray controller is asked (R280, R285). -/
def rungRequests (s : State) : State :=
  if s.ladder.rung == 4 then modLad s fun l => { l with stage := 2, chipReq := true, start := ticks s }
  else
    traySend (modLad s fun l => { l with stage := 2, trayWait := true }) powerCycleReq

/-- PWRCYC_REQ_N is asserted, and the part is DARK (R250, R285). -/
def pwrCycle (s : State) : State := goDark (modLad s fun l => { l with trayWait := false, pwrCyc := true })

/-- The tray controller acknowledges the request; an acknowledgement of none is discarded (R285, R402). -/
def powerCycleAckEff (s : State) : State := if s.ladder.trayWait then pwrCycle s else raisePort s fcPortRange 15 2 0x81

/-- 100 ms have passed without it (R285). -/
def trayLate (s : State) : State := if s.ladder.trayWait then pwrCycle s else s

/-- TILE_RST_REQ falls. A reset of a host tile outside the ladder counts as an ENGINE reset, but for the recovery level
(R281, R384, R387). [DEDUCED, log entry 104] -/
def tileRstEnds (n : Nat) (s : State) : State :=
  if !((tile s n).port.rstReq) then s
  else
    let l := s.ladder
    let byRung := (l.rung == 2 && l.target.tile == some n) || (l.rung == 3 && l.target.part == partOf s n)
    let s := tileRstFall n s
    if byRung then s else engineReset s n

/-! ### Registers (R295) -/

/-- The timeout of a rung in ticks (R280). -/
def rungTimeout (r : Nat) : Nat := match r with | 1 => 10 ^ 7 | 2 => 10 ^ 7 | 3 => 10 ^ 8 | 4 => 10 ^ 9 | _ => 0

/-- LADDER_STATUS. -/
def ladderStatus (s : State) : Word :=
  let l := s.ladder
  let remain := if l.stage == 2 then rungTimeout l.rung - (ticks s - l.start) else 0
  pack [(60, 4, l.rung), (58, 2, l.stage), (40, 16, rungKey ⟨l.rung, l.target⟩), (35, 5, l.deferred.length),
    (32, 3, s.stop.state), (0, 30, remain)]

end Sys2Proof.Machine
end

