-- ==== Sys2Proof/Machine/Reset.lean ====
section
/-! DEFINITION. Chip-level reset, PORST_N and the release of the spine (R128, R202, R221, R233, R253, R284, R297, R308,
R312, R325, R359, R373, R379, R421, R431, R435, R438, R449, R450, R461, R463, R471, R475). -/
namespace Sys2Proof.Machine

/-- The records of a slot that host memory holds whole, from address `at_` on, with the bytes they take. [DEDUCED, log entry 107] -/
def writtenRecs (gone : List Nat) : List JRec → Nat → List JRec × Nat
  | [], _ => ([], 0)
  | r :: rest, at_ =>
    if gone.contains at_ then ([], 0)
    else
      let n := jSize (payWords r.pay).length
      let (l, k) := writtenRecs gone rest (at_ + n)
      (r :: l, n + k)

/-- What a reset leaves of the journal: what host memory holds of it (R136–R140, R290). A header copy whose rewriting was
cut does not authenticate. [DEDUCED, log entry 107] -/
def jnlKept (s : State) : Journal :=
  let gone := jnlUnwritten s
  let j := s.step.jnl
  let cut (i : Nat) (l : Slot) : Slot :=
    let (recs, n) := writtenRecs gone l.recs (slotAddr s i)
    { l with recs := recs, recBytes := n }
  let keep (type : Nat) (r : Option JRec) : Option JRec := if gone.contains (headerAt s type) then none else r
  { j with
    slots := j.slots.map fun (i, l) => (i, cut i l), sigPend := [], collPend := [], notices := [],
    hdrOpen := keep 1 j.hdrOpen, hdrDecision := keep 8 j.hdrDecision, hdrEpoch := keep 9 j.hdrEpoch }

/-- Everything that a chip-level reset returns to its reset value. What stays: the supervisor's units (mailboxes, supplies,
thermal, keys), the fault collector and the ladder until the release, the granary, the journal in host memory. [DESIGN CHOICE, log entry 20] [DEDUCED, log entry 75] -/
def chipReset (s : State) : State :=
  { build := s.build, mode := { power := if s.mode.power == Power.dark then .dark else .run }, fault := s.fault, ladder := { s.ladder with chipReq := false, engReq := none, partReq := none },
    gran := s.gran, mail := s.mail, supply := s.supply, thermal := s.thermal,
    sec := { s.sec with permits := [], cmdBusy := false, pipGen := 0, state := none, rewrite := false }, step := { jnl := jnlKept s }, rcd := { bootCause := 2 },
    mirror := { kept := rxLeft s },
    shell := scanPath .locked
      { s.shell with krp := [], net := [], netTag := 0, fuseWords := [], fuseReading := false, fuseBuf := [], trayOut := [] } }

/-- The LADDER record of a chip-level reset (R284): it is formed although its bucket starts empty. [DESIGN CHOICE, log entry 113] -/
def resetRec (s : State) : Rec :=
  { time := stamp s, type := 8, master := 5, content := tenWords [pack [(56, 8, 4)], pack [(0, 4, 4), (8, 8, s.rcd.bootCause)]] }

/-- The spine leaves reset with the CAS_MASTER strap (R253, R284, R308, R399, R438, R450): the fault collector, the ladder
and the safe state end, and a chip-level reset is recorded. [DEDUCED, log entry 106] -/
def spineRelease (strap : Bool) (s : State) : State :=
  let s := { s with fault := {}, ladder := { pwrCyc := s.ladder.pwrCyc } }
  let s := { s with time := { s.time with state := .approx } }
  let s := readState (fuseStart s)
  let s := formRec s (resetRec s)
  let s := powerByLaw (casRelease strap s)
  { s with mode := { s.mode with gen := 0 } }

/-- BLK_RST_N is asserted: the spine enters reset, and the CHIP timer stops (R284). [DEDUCED, log entry 106] -/
def blkAssert (s : State) : State :=
  if s.shell.blkRstLow then s
  else
    let s := if s.shell.porstLow then s else chipReset s
    { s with shell := { s.shell with blkRstLow := true } }

/-- BLK_RST_N is released (R284). -/
def blkRelease (strap : Bool) (s : State) : State :=
  if !s.shell.blkRstLow then s
  else
    let s := { s with shell := { s.shell with blkRstLow := false } }
    if s.shell.porstLow || s.mode.power == .dark then s else spineRelease strap s

/-- PORST_N is asserted: the whole block resets; eMRAM keeps what it holds (R253, R307, R379). [DEDUCED, log entry 108] -/
def porstAssert (s : State) : State :=
  if s.shell.porstLow then s
  else
    { build := s.build, gran := s.gran, mode := { power := s.mode.power }, sec := { drawn := s.sec.drawn },
      ladder := { pwrCyc := s.ladder.pwrCyc }, supply := s.supply,
      shell := scanPath .locked
        { porstLow := true, blkRstLow := s.shell.blkRstLow, jtag := s.shell.jtag, included := s.shell.included,
          denied := s.shell.denied } }

/-- What the supervisor judges now stays; what it has counted and read since PORST_N goes (R414, R421). [DEDUCED, log entry 108] -/
def supplyKept (s : State) : Supply :=
  { rails := s.supply.rails.foldl (fun m (r, x) => sset {} m r { out := x.out }) [], clustersOut := s.supply.clustersOut,
    inhibit := !(allInRange s) }

/-- PORST_N is released: key_seed_ready rises, a new BOOT_SALT is drawn, PWRCYC_REQ_N is high again and DARK ends (R250,
R285, R398, R435). -/
def porstRelease (strap : Bool) (s : State) : State :=
  if !s.shell.porstLow then s
  else
    let (n, s) := drawNext s
    let s := { s with
      shell := { s.shell with porstLow := false, keySeedReady := true }, ladder := {},
      supply := supplyKept s, mode := { s.mode with power := .run } }
    let s := modSec s fun u => { u with bootSalt := n }
    if s.shell.blkRstLow then s else spineRelease strap s

end Sys2Proof.Machine
end

