-- ==== Sys2Proof/Machine/Views.lean ====
section
/-! DEFINITION. Register reads: the instance window (R486) over the views of the units, the block's own identity (R4, R5)
and the ladder's registers (R295). -/
namespace Sys2Proof.Machine

/-- The IDENT registers. -/
def viewIdent (s : State) (off : Nat) : Option Word :=
  match off with
  | 0x00 => some 0x000000000B2C4B04
  | 0x08 => some 0x0000000000040200
  | 0x10 => some 3
  | 0x18 => some 0x0201
  | 0x20 => some s.build.identConfig
  | _ => none

/-- The ladder registers (R295). STOP_STATUS keeps no MISSED (R297). -/
def viewLadder (s : State) (off : Nat) : Option Word :=
  match off with
  | 0x1200 => some (ladderStatus s)
  | 0x1208 => some 0
  | 0x1210 => some s.stop.base
  | 0x1218 => some s.stop.size
  | 0x1220 => some (heldView s.hangReg)
  | 0x1228 => some 0
  | 0x1230 => some (hangSearch s)
  | 0x1238 => some (heldView s.stopReg)
  | 0x1240 => some 0
  | _ => if 0x1280 ≤ off && off < 0x1300 && off % 8 == 0 then some (hangSuspect s ((off - 0x1280) / 8)) else none

/-- The GLOBAL block. -/
def viewGlobal (s : State) (off : Nat) : Option Word :=
  if off < 0x1100 then viewTime s off
  else if off < 0x1200 then viewMode s off
  else if off < 0x1300 then viewLadder s off
  else viewBring s off

/-- TILE_RING of a tile (R485). -/
def tileRing (s : State) (n : Nat) : Word :=
  let o := (tile s n).obs
  pack [(63, 1, b2n o.frozen), (32, 16, o.lost), (0, 16, o.written)]

/-- The registers of a tile window, by offset in it. -/
def viewTile (s : State) (n off : Nat) : Option Word :=
  if off < 0x78 then viewScreen s n off
  else if off == 0x78 then some (arbStatus s n)
  else if off == 0x80 then some (tileState s n)
  else if off == 0x88 then some (tileTest s n)
  else if off == 0x90 then some (tileBeacon s n)
  else if off == 0x98 then some (tileRing s n)
  else if 0x100 ≤ off && off < 0x180 && off % 8 == 0 then
    some (cntView (tile s n).obs.counts (tile s n).obs.tag ((off - 0x100) / 8))
  else none

/-- The position whose tile window holds an offset. -/
def tileAt (off : Nat) : Nat := (off - 0x100000) / 0x400

/-- Whether an offset lies in the tile windows. -/
def inTiles (off : Nat) : Bool := decide (0x100000 ≤ off) && decide (off < 0x500000)

/-- The register at an offset of the window, as a read returns it; none where the window holds none (R486). -/
def readReg (s : State) (off : Nat) : Option Word :=
  if off % 8 != 0 then none
  else if inTiles off then
    if tileAt off < s.build.tiles then viewTile s (tileAt off) ((off - 0x100000) % 0x400) else none
  else match off / 0x10000 with
    | 0 => if off < 0x1000 then viewIdent s off else viewGlobal s off
    | 1 => viewFault s off
    | 2 => viewRecorder s off
    | 3 => viewMail s off
    | 4 => if off < 0x040800 then viewThermal s off else if off < 0x042000 then viewSupply s off else viewThermal s off
    | 5 => if off < 0x050800 then viewStep s off else if off < 0x050900 then viewColl s off else viewCov s off
    | 6 => viewMirror s off
    | 7 => viewDma s off
    | 8 => viewConfig s off
    | 9 => if 0x090100 ≤ off && off < 0x091000 then viewMemtest s off else viewQrs s off
    | 10 => viewSec s off
    | 11 => viewObs s off
    | 12 => viewCas s off
    | 13 => viewSeq s off
    | _ => none

/-- A read that a riser must carry finds it down (R14, R486). -/
def riserStops (s : State) (off : Nat) : Bool :=
  inTiles off && decide (tileAt off < s.build.tiles) && !(riserUp s (tileAt off))

/-- What a snapshot reads (R305): nothing where the access would not complete with OK. -/
def snapReg (s : State) (off : Nat) : Option Word := if riserStops s off then none else readReg s off

/-- Whether the window holds a register at an offset. -/
def isReg (s : State) (off : Nat) : Bool := (readReg s off).isSome

end Sys2Proof.Machine
end

