-- ==== Sys2Proof/Machine/Stop.lean ====
section
/-! DEFINITION. The global stop and the crash dump: the stop marker, the units that reach it, the images, the dump and
its index (R291–R294, R307, R477, R479). -/
namespace Sys2Proof.Machine

/-- Rewrite the stop. -/
def modStop (s : State) (f : Stop → Stop) : State := { s with stop := f s.stop }

/-- The units of a dump in the order of the dump area: every tile, then the spine units (R293). -/
def dumpKeys (s : State) : List Nat := s.build.positions ++ (upto 13).map (0x1000 + ·)

/-- Where a unit's image lies in the area, in 4 KiB units, and how many of them it takes (R293). -/
def dumpPlace (s : State) (key : Nat) : Nat × Nat :=
  if key < 0x1000 then (key, 1) else (s.build.tiles + 16 * (key - 0x1000), 16)

/-- The registers from one offset to another, as reads return them. -/
def blockWords (s : State) (lo hi : Nat) : List Word := (upto ((hi - lo) / 8)).filterMap fun i => readReg s (lo + 8 * i)

/-- The newest trace entries of a core, oldest first. -/
def traceNewest (c : Core) (most : Nat) : List Word :=
  let k := min c.traceCount most
  (upto k).map fun i => sget 0 c.trace ((c.traceNext + 8192 - k + i) % 8192)

/-- Words up to an offset in words, filled with zeros, then more words. -/
def padTo (n : Nat) (a b : List Word) : List Word := a.take n ++ List.replicate (n - a.length) 0 ++ b

/-- What the image of a spine unit holds from offset 0x40 on, with the number of entries or words (R479). [DESIGN CHOICE, log entry 110] -/
def unitBody (s : State) (u : Nat) : Nat × List Word :=
  let regs (ws : List Word) : Nat × List Word := (ws.length, ws)
  match u with
  | 0 => regs (blockWords s 0x1000 0x1310 ++ blockWords s 0x010000 0x010500)
  | 1 => regs (blockWords s 0x050000 0x051800 ++ blockWords s 0x070000 0x070300)
  | 2 => regs (blockWords s 0x060000 0x060080)
  | 3 => regs (blockWords s 0x080000 0x080200)
  | 4 => regs (blockWords s 0x0A0000 0x0A0008 ++ blockWords s 0x0A0010 0x0A0018 ++ blockWords s 0x0A0020 0x0A0028 ++
      blockWords s 0x0A0100 0x0A0180)
  | 5 => regs (blockWords s 0x040000 0x043000)
  | 6 => regs (blockWords s 0x020000 0x020080 ++ blockWords s 0x021000 0x023000)
  | 11 => regs (blockWords s 0x090100 0x0901C0)
  | 12 => regs (blockWords s 0x0C0000 0x0C0140)
  | _ =>
    let n := u - 7
    let ws := traceNewest (core s n) 8064
    (ws.length, padTo 120 (blockWords s (0x0D0000 + 8 * n) (0x0D0008 + 8 * n) ++
      blockWords s (0x0D0040 + 8 * n) (0x0D0048 + 8 * n) ++ blockWords s (0x0D0060 + 8 * n) (0x0D0068 + 8 * n) ++
      blockWords s (0x0D0200 + 128 * n) (0x0D0280 + 128 * n)) ws)

/-- The same of a tile: counters, registers, event ring. [DESIGN CHOICE, log entry 110] -/
def tileBody (s : State) (n : Nat) : Nat × List Word :=
  let b := 0x100000 + 0x400 * n
  let es := (tile s n).obs.ring
  if riserUp s n then
    (es.length, padTo 248 (padTo 16 (blockWords s (b + 0x100) (b + 0x180)) (blockWords s b (b + 0x98))) (es.flatMap ringWords))
  else (0, [])

/-- The image of a unit as it stands (R479), without COMPLETE. Zeros at its end are left out. [DESIGN CHOICE, log entry 110] -/
def imageOf (s : State) (key : Nat) : List Word :=
  let (count, body) := if key < 0x1000 then tileBody s key else unitBody s (key - 0x1000)
  ([stamp s, pack [(32, 16, key), (0, 16, count)], 0, 0, 0, 0, 0, 0] ++ body).take (512 * (dumpPlace s key).2)

/-- The image of a unit is taken. [DEDUCED, log entry 109] -/
def takeImage (s : State) (key : Nat) : State := modStop s fun p => { p with images := sset [] p.images key (imageOf s key) }

/-- A unit has reached the marker (R291). [DEDUCED, log entry 109] -/
def atMarker (s : State) (key : Nat) : Bool :=
  if key < 0x1000 then s.stop.frozenTiles.contains key else s.stop.frozenUnits.contains (key - 0x1000)

/-! ### Reaching the marker -/

/-- A global stop starts (R291): QUIESCE, and a master tells its members. -/
def stopStart (s : State) : State :=
  if s.stop.state != 0 || s.fault.safe then s
  else
    let s := enterQuiesce (modStop s fun p => { state := 1, base := p.base, size := p.size }) true
    if isMaster s then casSend s 8 0xFF [] else s

/-- LADDER_CMD STOP (R291, R296). -/
def ladderStop (rq : Acc) (s : State) : State :=
  secure rq s <| if s.stop.state != 0 || s.fault.safe then raiseK s fcCmdIllegal rq 0x001208 else stopStart s

/-- The first marker accepted after the command is the stop marker. -/
def stopMarker (s : State) (code : Nat) : State :=
  if s.stop.state == 1 && !s.stop.marked then
    modStop s fun p => { p with marked := true, marker := code, mark := s.step.eng.marks }
  else s

/-- A channel stands at a 4 KiB boundary, is idle, or is paused (R291, R322). -/
def chanAtRest (s : State) (c : Nat) : Bool :=
  let ch := chan s c
  !ch.busy || ch.cur.state == 2 || (ch.req.isNone && ch.granule.isEmpty && atUnit ch.cur)

/-- Channel 1 has journal work and is not PAUSED (R322). -/
def journalWork (s : State) : Bool :=
  let ch := chan s 1
  !(ch.busy && ch.cur.state == 2) &&
    ((ch.busy && ch.cur.work == .journal) || (ch.queue ++ ch.waiting).any fun d => d.work == .journal)

/-- Whether a spine unit has no work left from before the marker. -/
def unitQuiet (s : State) (u : Nat) : Bool :=
  match u with
  | 1 => !(journalWork s) && (upto 8).all fun c => c == 0 || chanAtRest s c
  | 2 => chanAtRest s 3 && chanAtRest s 4
  | _ => true

/-- Whether every operation from before the marker has closed on a checker, with its verdict on the riser: those it screens, and
those of the host tiles it serves that it does not (R291). -/
def tileQuiet (s : State) (n : Nat) : Bool :=
  riserUp s n && ((tile s n).chk.ops.all fun o => decide (s.stop.mark ≤ o.mark)) &&
    s.tiles.all fun (m, t) => (m != n && counterOf s m != n) || t.port.opn.all fun o => decide (s.stop.mark ≤ o.mark)

/-- Units that have reached the marker freeze what their images hold; the ring of a tile and the trace of a core freeze (R291,
R361, R477). [DEDUCED, log entry 109] -/
def stopSettle (s : State) : State :=
  if s.stop.state != 1 || !s.stop.marked then s
  else
    let s := forEach ((upto 13).filter fun u => !(s.stop.frozenUnits.contains u) && unitQuiet s u) s fun s u =>
      let s := modStop (takeImage s (0x1000 + u)) fun p => { p with frozenUnits := u :: p.frozenUnits }
      if 7 ≤ u && u ≤ 10 then updCore s (u - 7) fun c => { c with traceFrozen := true } else s
    forEach (s.build.positions.filter fun n => !(s.stop.frozenTiles.contains n) && tileQuiet s n) s fun s n =>
      modStop (modObs (takeImage s n) n fun o => { o with frozen := true }) fun p =>
        { p with frozenTiles := n :: p.frozenTiles }

/-! ### The dump (R292–R294) -/

/-- An entry of the dump index. -/
def dumpEntryOf (s : State) (key : Nat) (skipped : Bool) : DumpEntry :=
  { unit := key, time := nthW (sget [] s.stop.images key) 0, complete := atMarker s key, skipped := skipped,
    offset := (dumpPlace s key).1 }

/-- A unit's part of the dump is over. [DESIGN CHOICE, log entry 112] -/
def indexAdd (s : State) (key : Nat) (skipped : Bool) : State :=
  modStop s fun p => { p with index := p.index ++ [dumpEntryOf s key skipped] }

/-- The bytes of an image. -/
def imageBytes (s : State) (key : Nat) : List Byte :=
  let ws := sget [] s.stop.images key
  let n := 4096 * (dumpPlace s key).2
  let bs := wordsBytes (setNth ws 1 (setFld (nthW ws 1) 63 63 (b2n (atMarker s key))))
  bs ++ List.replicate (n - bs.length) 0

/-- The next images are written, those beyond LADDER_DUMP_SIZE skipped. [DESIGN CHOICE, log entry 112] -/
def dumpWrite : List Nat → State → State
  | [], s => modStop s fun p => { p with due := [], cur := none }
  | k :: rest, s =>
    let (off, n) := dumpPlace s k
    if (off + n) * 4 > s.stop.size.toNat then dumpWrite rest (indexAdd s k true)
    else
      let dst := BitVec.ofNat 64 ((s.stop.base.toNat + 4096 * off) % 2 ^ 57)
      let bytes := imageBytes s k
      dmaPost 0 (pack [(60, 4, 2)]) dst (pack [(48, 8, 5), (40, 1, 1), (0, 40, 4096 * n)]) .dump bytes
        (modStop s fun p => { p with due := rest, cur := some k })

/-- A descriptor of the dump has ended; a bad part of it was skipped and marked (R293). -/
def dumpEnded (s : State) (d : DmaDesc) : State :=
  match s.stop.cur with
  | none => s
  | some k => dumpWrite s.stop.due (indexAdd s k (d.skipped || d.state != 3))

/-- The dump begins with the images not yet taken (R292): it is a cut where every unit has reached the marker. -/
def dumpBegins (crash : Bool) (s : State) : State :=
  let keys := dumpKeys s
  let s := updChan s 0 fun ch => { ch with skipSeen := false, skipAddr := 0 }
  let s := forEach (keys.filter fun k => (sget [] s.stop.images k).isEmpty) s takeImage
  let s := if keys.all (atMarker s) then s else raiseI s (fcode 7 1 6) 5
  dumpWrite keys (modStop s fun p => { p with state := 2, crash := crash, index := [], cur := none })

/-- STOP_TIMEOUT has passed since the command (R292). [DEDUCED, log entry 111] -/
def stopTimeout (s : State) : State := if s.stop.state == 1 then dumpBegins false s else s

/-- The contents of STOP_STATUS (R297), `busy` where the slot was locked. -/
def stopWord (s : State) (busy : Bool) : Word :=
  let p := s.stop
  pack [(62, 1, b2n (!p.crash && (dumpKeys s).all (atMarker s))), (61, 1, b2n busy), (60, 1, b2n p.crash),
    (56, 4, if p.crash then 0 else p.marker), (16, 16, (p.index.filter fun e => !e.complete).length),
    (0, 16, (p.index.filter fun e => e.skipped).length)]

/-- The header of the crash-dump slot (R307). [DESIGN CHOICE, log entry 112] -/
def crashHeaderOf (s : State) (status : Word) : List Word :=
  let entry (e : FaultEntry) : List Word := [e.info, e.addr, e.time]
  let ws := [stamp s, status, faultStatus s] ++ entry s.fault.first ++
    ((upto 16).flatMap fun i => entry (sget {} s.fault.hist i)) ++ [BitVec.ofNat 64 s.stop.index.length]
  ws ++ [grnTag s custGrn ws]

/-- The index is written to the granary and the slot locks; the result is posted and the stop ends (R293, R294, R297). -/
def stopEnds (s : State) : State :=
  let busy := s.gran.crashLocked
  let w := stopWord s busy
  let held := heldPostAll s.stopReg w 0 (stamp s)
  let status := setFld (setFld w 63 63 1) 47 32 (wrapAdd 16 s.stopReg.seq (s.stopReg.missed + 1))
  let s := if busy || s.supply.inhibit then s else modGran s fun g =>
    { g with
      crashHeader := crashHeaderOf s status, crashIndex := s.stop.index, crashLocked := true,
      genCrash := g.genCrash + 1, crashWrites := satAdd 16 g.crashWrites 1 }
  let s := ladderRec { s with stopReg := held } 6 [w]
  let s := forEach s.stop.frozenTiles s ringThaw
  let s := modStop s fun p => { base := p.base, size := p.size }
  let s := if s.mode.power == .quiesce && s.mode.quiesceByStop && !s.fault.safe then powerByLaw s else s
  forEach (upto 8) s fun s c => dmaGo c s

/-- DUMP_WRITTEN (R293): every image is written and the index can be. -/
def dumpWritten (s : State) : State :=
  if s.stop.state == 2 && s.stop.cur.isNone && !s.stop.crash && !s.supply.inhibit then stopEnds s else s

/-- What channel 0 still has of a dump is dropped. -/
def dumpDrop (s : State) : State := dropWork 0 (fun _ => true) s

/-- A rung's crash dump (R294): every unit as it stands now. -/
def crashDump (s : State) : State :=
  let s := if s.stop.state == 2 then dumpDrop s else s
  dumpBegins true s

/-- CRASH_DUMP_END (R294): the dump is written, or `cut` when its time is over; the rung's own request follows. [DEDUCED, log entry 111] -/
def crashDumpEnd (cut : Bool) (s : State) : State :=
  if s.stop.state != 2 || !s.stop.crash || (s.stop.cur.isSome && !cut) then s
  else
    let left := s.stop.cur.toList ++ s.stop.due
    let s := if left.isEmpty then s else dumpDrop s
    rungRequests (stopEnds (forEach left s fun s k => indexAdd s k true))

/-- STOP_ACK (R297). -/
def stopAck (rq : Acc) (v : Word) (s : State) : State := secure rq s { s with stopReg := heldAck s.stopReg v }

end Sys2Proof.Machine
end

