-- ==== Sys2Proof/Machine/Port.lean ====
section
/-! DEFINITION. The shell's NET port and the responses of KRP (R388–R391), and what a register access meets before it
reaches its register (R9, R14, R357, R389, R486). -/
namespace Sys2Proof.Machine

/-- Rewrite the shell. -/
def modShell (s : State) (f : Shell → Shell) : State := { s with shell := f s.shell }

/-! ### NET (R391) -/

/-- A message is transmitted. -/
def netSend (dst type : Nat) (words : List Word) (s : State) : State :=
  modShell (cnt s 5) fun h =>
    { h with net := h.net ++ [⟨h.netTag, dst, type, words⟩], netTag := wrapAdd 16 h.netTag 1 }

/-- A message has failed: its protocol is told. -/
def netFails (s : State) (m : NetMsg) : State :=
  let s := modShell s fun h => { h with net := h.net.filter fun x => x.tag != m.tag }
  if m.type == netAsk then askBackup s else s

/-- A capture of access type NET_SEND (R259). -/
def raiseNet (s : State) (code : Nat) (m : NetMsg) : State :=
  raise s { code := code, access := 5, master := m.dst, addr := m.type % 256 * 2 ^ 56 }

/-- The message that an acknowledgement or a timeout concerns. [DESIGN CHOICE, log entry 59] -/
def netMsg (s : State) (tag : Nat) : Option NetMsg := s.shell.net.find? fun m => m.tag == tag

/-- NET_ACK: an acknowledgement of no message is discarded; its payload is tag, status (R391, R407). [DEDUCED, log entry 124] -/
def netAckEff (tag : Nat) (unreachable : Bool) (s : State) : State :=
  match netMsg s tag with
  | none => raisePort s fcPortRange 8 0 (tag + b2n unreachable * 2 ^ 16)
  | some m =>
    if unreachable then netFails (raiseNet s (fcode 8 2 5) m) m
    else modShell s fun h => { h with net := h.net.filter fun x => x.tag != tag }

/-- NET_TIMEOUT. -/
def netLate (tag : Nat) (s : State) : State :=
  match netMsg s tag with
  | none => s
  | some m => netFails (raiseNet s (fcode 8 2 4) m) m

/-- NET_BEAT_TIMEOUT: a message under transmission or reception is abandoned. [DEDUCED, log entry 125] -/
def netBeatLate (tag : Nat) (s : State) : State :=
  let s := raisePort s fcPortTimeout 8 0 tag
  match netMsg s tag with
  | none => s
  | some m => netFails s m

/-! ### Register accesses -/

/-- A KRP access completes: 0 OK, 1 DENIED, 2 NOREG, 3 TIMEOUT. The response goes behind those that stand, at most eight: with
eight the port was not ready until the oldest of them had been taken (R388). [DEDUCED, log entry 123] -/
def krpDone (s : State) (id code : Nat) (data : Word) : State :=
  modShell (if code == 1 then cnt s 11 else s) fun h =>
    { h with krp := h.krp.drop (h.krp.length - 7) ++ [⟨code, id, data⟩] }

/-- krp_req_ready: fewer than eight requests are outstanding (R388). -/
def krpReady (s : State) : Bool := decide (s.shell.krp.length < 8)

/-- The payload of a KRP request: write, offset, secure, requester, data (R407). [DESIGN CHOICE, log entry 154] -/
def krpPayload (rq : Acc) (off : Nat) (write : Bool) (v : Word) : Nat :=
  b2n write + off * 2 + b2n rq.sec * 2 ^ 25 + rq.id * 2 ^ 26 + v.toNat * 2 ^ 42

/-- The payload of a KRP response: code, requester, data (R407). [DESIGN CHOICE, log entry 154] -/
def krpRspPayload (r : KrpRsp) : Nat := r.code + r.id * 2 ^ 2 + r.data.toNat * 2 ^ 18

/-- The blocks whose registers take writes from secure requesters only (R486). -/
def secureOnly (off : Nat) : Bool :=
  let b := off / 0x10000
  off == 0x1108 || (0x1200 ≤ off && off < 0x1400) || (b == 1 && off != 0x010038) || off == 0x020030 ||
  off == 0x020040 || b == 4 || b == 7 || b == 8 || (0x090100 ≤ off && off < 0x091000) ||
  (10 ≤ b && b ≤ 13)

/-- A register that is locked now (R9, R173, R200, R321, R461). -/
def lockedNow (s : State) (off : Nat) : Bool :=
  if off == 0x060008 then s.mirror.link == .hello || s.mirror.link == .keying || s.mirror.link == .paired
  else if off == 0x0C0008 then isArmed s && !(isMember s)
  else isArmed s && [0x050008, 0x050058, 0x050060, 0x050068, 0x060000, 0x060038, 0x060040, 0x060048, 0x070008, 0x070010].contains off

/-- The mailbox channel whose registers hold an offset. -/
def mailChannel (off : Nat) : Option Nat :=
  if 0x030000 ≤ off && off < 0x030800 then some ((off - 0x030000) / 0x100) else none

/-- An access that a rule refuses (R9, R364, R369, R486). [DEDUCED, log entry 122] -/
def deniedAt (s : State) (rq : Acc) (off : Nat) (write : Bool) : Bool :=
  match mailChannel off with
  | some c => !(mbAllowed rq c) || (write && !(isSq rq) && [0x18, 0x28, 0x30].contains (off % 0x100))
  | none => write && ((secureOnly off && !rq.sec) || lockedNow s off)

/-- What an access meets: 0 OK, 1 DENIED, 2 NOREG, 3 TIMEOUT. -/
def accessCode (s : State) (rq : Acc) (off : Nat) (write : Bool) : Nat :=
  if !(isReg s off) then 2
  else if riserStops s off then 3
  else if deniedAt s rq off write then 1
  else 0

/-- A KRP access (R388, R389): `v` is the data of a write, `f` what the access does where it completes with OK, and the data it
returns. The response echoes the requester. -/
def krpAccess (rq : Acc) (off : Nat) (write : Bool) (v : Word) (f : State → Word × State) (s : State) : State :=
  let s := cnt s 10
  if rq.id ≥ 0xFFF0 then krpDone (raisePort s fcPortRange 6 0 (krpPayload rq off write v)) rq.id 1 0
  else match accessCode s rq off write with
    | 0 => let (w, s) := f s; krpDone s rq.id 0 w
    | 3 => krpDone (raise s { code := fcPortTimeout, access := 1 + b2n write, master := rq.id, addr := off }) rq.id 3 0
    | c => krpDone s rq.id c 0

/-- A word of a command register: the command in [63:60] and its fields. -/
def cmdWord (cmd : Nat) (fields : List (Nat × Nat × Nat)) : Word := pack ((60, 4, cmd) :: fields)

/-- A register write by a command that has a row of its own: a KRP access that writes `v` and whose effect is `f`. -/
def regCmd (rq : Acc) (off : Nat) (v : Word) (f : State → State) (s : State) : State :=
  krpAccess rq off true v (fun s => (0, f s)) s

/-- KRP_GRANT_TIMEOUT. -/
def krpGrantLate (rq : Acc) (off : Nat) (write : Bool) (s : State) : State :=
  krpDone (raise (cnt s 10) { code := fcPortTimeout, access := 1 + b2n write, master := rq.id, addr := off }) rq.id 3 0

/-- KRP_RSP_TIMEOUT: the response that has waited longest is discarded. -/
def krpRspLate (s : State) : State :=
  match s.shell.krp with
  | [] => s
  | r :: rest => raisePort (modShell s fun h => { h with krp := rest }) fcPortTimeout 6 0 (krpRspPayload r)

end Sys2Proof.Machine
end

