-- ==== Sys2Proof/Machine/Drain.lean ====
section
/-! DEFINITION. One step of the block: the effect of a command, the work it raises between the units, and what settles
after it. -/
namespace Sys2Proof.Machine

/-! ### Work -/

/-- An owner's descriptor has ended (R313, R323). -/
def workDmaDone (ch : Nat) (d : DmaDesc) (s : State) : State :=
  match ch, d.work with
  | 0, .dump => dumpEnded s d
  | 1, .journal => commitGo (d.state != 3) s
  | 1, .notice => noticeDone s d
  | 1, .rankTable => recoverRanks (rankDone s d)
  | 1, .undoList => undoListEnded s d
  | 2, .undoCopy => undoCopied s d
  | 2, .undoRestore => undoRestored s d
  | 3, _ => mirDmaDone s d
  | 4, _ => mirDmaDone s d
  | 5, _ => mtIssue s
  | 6, .cert => certEnded s d
  | 6, .husk => huskEnded s d
  | 7, .pattern => patternDone s d
  | 7, .archive => archiveEnded s d
  | 7, .verify => archiveEnded s d
  | _, _ => s

/-- Bytes have come to an owner's buffer. -/
def workDmaData (ch : Nat) (work : DmaWork) (addr : Nat) (bytes : List Byte) (s : State) : State :=
  match ch, work with
  | 1, .notice => noticeData s bytes
  | 1, .rankTable => rankData s (addr - fld s.step.regs.rankTable 56 12 * 2 ^ 12) bytes
  | 1, .undoList => undoListData s bytes
  | 3, _ => mirData s work bytes
  | 4, _ => mirData s work bytes
  | 6, .cert => certData s bytes
  | 6, .husk => huskData s bytes
  | 7, .pattern => patternData s bytes
  | 7, .verify => verifyData s bytes
  | 7, .sequencer => seqSink s (addr / 2 ^ 57) (addr % 2 ^ 57) bytes
  | _, _ => s

/-- A descriptor has paused (R140, R323). -/
def workDmaPaused (ch : Nat) (d : DmaDesc) (s : State) : State :=
  match d.work with
  | .journal => commitGo true (jnlFails s (fcode 3 2 1))
  | .archive | .verify | .pattern => dmaAbandonCh ch s
  | _ => s

/-- Every channel goes on. -/
def dmaGoAll (s : State) : State := forEach (upto 8) s fun s c => dmaGo c s

/-- A region has become ACTIVE: its holders take it up (R304, R340, R341, R359, R430), and VACANT numbers look for spares (R226). -/
def workRegionActive (r : Nat) (s : State) : State :=
  if r ≥ 16 then
    vacantRetry (forEach (partPositions s (r - 16)) s fun s n => post (post s (.flush n)) (.regainChecker n)) (r - 16)
  else match r with
    | 1 => forEach (upto s.build.partitions) (mtIssue (dmaGoAll s)) vacantRetry
    | 2 => dropStale s
    | 5 => recorderTakes s
    | 6 => thermalTakes s
    | 7 => startCores s
    | _ => s

/-- A region has lost its content, or MICROCODE drains (R248, R341, R359, R492). -/
def workRegionDown (r : Nat) (s : State) : State :=
  if r ≥ 16 then post s (.loseCheckers (partPositions s (r - 16)))
  else match r with
    | 1 => mtIssue (dmaGoAll s)
    | 7 => haltCores s
    | _ => s

/-- The job has been disarmed: remaps that wait take effect, dumps are discarded (R216, R482). -/
def workDisarmed (s : State) : State := activation (dumpDiscard s)

/-- A marker has been accepted (R291, R481). -/
def workMarker (kind mb : Nat) (s : State) : State :=
  let s := stopMarker s kind
  dumpFire s kind (if isDecode s then mb else s.step.eng.number)

/-- A commit boundary (R216, R481). -/
def workBoundary (step : Nat) (committed : Bool) (s : State) : State :=
  let s := activation s
  if committed then dumpFire s 6 step else s

/-- eMRAM takes writes again: what was held back goes there (R306, R412, R438). -/
def workWritesAllowed (s : State) : State := lockRewrite (listFlush s)

/-- A work item is carried out. [DESIGN CHOICE, log entry 9] -/
def doWork (w : Work) (s : State) : State :=
  match w with
  | .capture c => capture snapReg c s
  | .record type flags master content => (postRec s type flags master content).2
  | .opClosed chk uid => opClosed chk uid s
  | .opDiscarded chk o => opDiscarded chk o s
  | .opJudged chk uid => opJudged chk uid s
  | .arbOpen host chk id forced => arbOpen host chk id forced s
  | .arbCheck host => arbCheck host s
  | .quarantine p reason => quarantine s p reason
  | .loseCheckers ps => loseCheckers s ps none
  | .regainChecker p => regainChecker s p
  | .rung r => rungAsked r s
  | .crashDump => crashDump s
  | .safe cause => enterSafe s cause
  | .require point audit mb reason => require point audit mb reason s
  | .journal r => journalPut r s
  | .net dst type words => netSend dst type words s
  | .tokens => gateLook s
  | .badGroup g => badGroup g s
  | .badGen id => badGen id s
  | .badOpen => badOpen s
  | .armed => mtAborts s
  | .disarmed => workDisarmed s
  | .activation => activation s
  | .commitBoundary step committed => workBoundary step committed s
  | .marker kind _ mb => workMarker kind mb s
  | .dmaDone ch d => workDmaDone ch d s
  | .dmaData ch work addr bytes => workDmaData ch work addr bytes s
  | .dmaPaused ch d => workDmaPaused ch d s
  | .detail seq words => setDetail s seq words false
  | .regionActive r => workRegionActive r s
  | .regionDown r => workRegionDown r s
  | .thermal => evalThermal s
  | .zeroise by_ => zeroise by_ s
  | .writesAllowed => workWritesAllowed s
  | .stop => stopStart s
  | .flushAll => forEach s.build.positions s fun s n => flushStore n s
  | .flush chk => flushStore chk s
  | .chkClear chk => chkClear chk s
  | .closeLost chk => closeLost chk s
  | .decision d => applyDecision d s
  | .tally => tally s
  | .armGo => armGo s
  | .testEnd p .arb code => arbSelfEnd p code s
  | .testEnd p by_ code => testEnded s p by_ code
  | .search => searchGo s
  | .searchArb n code => searchArb n code s
  | .searchDiff n => searchDiff n s

/-- The place of a capture among those that wait together: severity from FATAL down, then class, then index (R261). -/
def capRank (c : Cap) : Nat := (3 - fsev c.code) * 4096 + fcls c.code * 64 + fidx c.code

/-- The capture that the collector grants first, of one and those that wait with it (R261). -/
def firstCap (c : Cap) (l : List Work) : Cap :=
  l.foldl (fun b w => match w with
    | .capture d => if capRank d < capRank b then d else b
    | _ => b) c

/-- The work item that is carried out next, with the rest: the front one, but that captures are granted in the order of R261. -/
def nextWork : List Work → Option (Work × List Work)
  | [] => none
  | .capture c :: rest =>
    let d := firstCap c rest
    some (.capture d, (Work.capture c :: rest).erase (.capture d))
  | w :: rest => some (w, rest)

/-- Work items are carried out in the order in which they arose, captures in that of R261, at most as many as the fuel allows. [DESIGN CHOICE, log entry 9] -/
def drain : Nat → State → State
  | 0, s => s
  | f + 1, s => match nextWork s.work with
    | none => s
    | some (w, rest) => drain f (doWork w { s with work := rest })

/-- The items one step carries out at most. [DESIGN CHOICE, log entry 9] -/
def drainFuel : Nat := 65536

/-! ### Settling -/

/-- What follows a step without a command: overloads end, orphans are adopted, watches begin and end, tests that waited start,
self-tests begin their segments, tokens, groups and replay runs are judged (R149, R169, R215, R223, R246, R275, R360). -/
def settleUnits (s : State) : State :=
  let s := arbTests (spareSettle (watchSettle (adoptOrphans (overloadSettles s))))
  let s := forEach ((s.tiles.filter fun t => t.2.pos.selfTest.isSome).map (·.1)) s segmentTry
  judgeRuns (groupEnds (gateLook s))

/-- The axes that MODE_GEN counts by their change here (R236): the others count where they change. [DEDUCED, log entry 93] -/
def axesChanged (a b : State) : Nat :=
  b2n (a.step.eng.axMode != b.step.eng.axMode) + b2n (a.step.eng.axUndo != b.step.eng.axUndo) + b2n (mirMode a != mirMode b) + b2n (isArmed a != isArmed b) +
    b2n (a.fault.safe != b.fault.safe)

/-- MODE_GEN counts the axes changed, and a change of MODE_LEVEL_EFF that came with none (R236, R255). [DEDUCED, log entry 93] -/
def settleGen (a b : State) : State :=
  let b := forEach (upto (axesChanged a b)) b fun s _ => bumpGen s
  if levelEffWord a != levelEffWord b && a.mode.gen == b.mode.gen then bumpGen b else b

/-- The event lines that follow a change (R348). -/
def settleLatches (a b : State) : State :=
  let set (on : Bool) (n line : Nat) (s : State) : State := if on then latch s n line else s
  set (a.step.eng.marks != b.step.eng.marks && b.step.eng.marks != 0) 0 0 <|
  set (a.mode.gen != b.mode.gen) 0 4 <|
  set (a.step.cov.no != b.step.cov.no && b.step.cov.no != 0) 1 0 b

/-- A change of a fence enters the ring of the checker that counts for the position (R476). [DEDUCED, log entry 139] -/
def settleFences (a b : State) : State :=
  forEach ((b.tiles.filter fun t => fenced a t.1 != fenced b t.1).map (·.1)) b fun s n =>
    ring s (counterOf s n) 7 (counterOf s n != n) (b2n (fenced s n))

/-- A member tells the master of a change of its summary (R452). [DEDUCED, log entry 139] -/
def settleSummary (a b : State) : State := if isMember b && summaryOf a != summaryOf b then summarySend b else b

/-- The step from `a` has come to `b`: what follows (R236, R291, R348, R452, R476). A step that takes the block into reset or
out of it has none of the changes of a running block. -/
def settle (a b : State) : State :=
  let b := drain drainFuel (settleUnits b)
  if a.shell.blkRstLow != b.shell.blkRstLow || a.shell.porstLow != b.shell.porstLow then b
  else settleSummary a (settleLatches a (settleGen a (settleFences a (stopSettle b))))

/-! ### Steps -/

/-- Which commands can act: in reset the ports of the units that reset does not hold, in DARK the pins that judge the
supplies and the resets (R250, R253, R378, R379). [DESIGN CHOICE, log entry 6] -/
def acts (s : State) : Instr → Bool
  | .porstAssert | .porstRelease _ | .blkRstAssert | .blkRstRelease _ | .railOut _ | .railIn _ | .emramInterlock
  | .clusterVddcOut _ | .clusterVddcIn _ => true
  | .jtagIdcode | .jtagAccess | .jtagBypass | .instrumentInclude _ => s.mode.power != .dark
  | .droopWindow _ _ | .tamperN | .keySeed _ | .keySeedTimeout | .tsensReading _ _ | .onDieSensorRead _ _ | .sensorTimeout _
  | .sensorStuck _ | .sensorRecover _ => !s.shell.porstLow && s.mode.power != .dark
  | _ => !s.shell.porstLow && !s.shell.blkRstLow && s.mode.power != .dark

/-- What the last step sent over CAS and TRAY has been taken. [DEDUCED, log entry 123] -/
def clearSent (s : State) : State :=
  { s with
    cas := { s.cas with out := [] }
    shell := { s.shell with trayOut := [] } }

/-- The state in which a step ends whose command had the effect `e` on the state `a`: what the effect raises is carried
out, and what follows settles; in DARK nothing more completes (R250). The queue of waiting commands and the build are no
part of an effect. [DESIGN CHOICE, log entry 9] [DEDUCED, log entry 131] -/
def concluded (a e : State) : State :=
  let b := if e.mode.power == .dark then { e with work := [] } else settle a (drain drainFuel e)
  { b with pending := a.pending, build := a.build }

/-- A command with effect `f` is carried out. [DESIGN CHOICE, log entry 5] -/
def run (i : Instr) (f : State → State) (s : State) : Host.Outcome State Fault Refusal :=
  if !(wellFormed s.build i) then .fault .noSuchUnit
  else if !(acts s i) then .next s
  else .next (concluded (clearSent s) (f (clearSent s)))

end Sys2Proof.Machine
end

