-- ==== Sys2Proof/Machine/RegWrite.lean ====
section
/-! DEFINITION. Register writes by offset (R8–R10, R486): what a write that completes with OK does in each block, the writes
the safe state refuses for a whole register (R252), and what a sequencer may access (R357). -/
namespace Sys2Proof.Machine

/-! ### Data of a command that arrives as a plain register write

The buffer such a command reads, and the checks it makes on it, are free values. -/

/-- A free bit. [DESIGN CHOICE, log entry 18] -/
def freeBit (s : State) : Bool × State := let (n, s) := drawNext s; (Config.draw n % 2 == 1, s)

/-- Bytes of host memory. [DESIGN CHOICE, log entry 18] -/
def freeBytes (s : State) (addr len : Nat) : List Byte × State :=
  let (n, s) := drawNext s
  ((Config.hostBytes addr len n ++ List.replicate len 0).take len, s)

/-- With a free bit. [DESIGN CHOICE, log entry 18] -/
def withBit (f : Bool → State → State) (s : State) : State := let (b, s) := freeBit s; f b s

/-- With bytes of host memory. [DESIGN CHOICE, log entry 18] -/
def withBytes (addr len : Nat) (f : List Byte → State → State) (s : State) : State :=
  let (bs, s) := freeBytes s addr len; f bs s

/-- A command register that the safe state refuses (R252). -/
def unlessSafe (rq : Acc) (off cmd : Nat) (f : State → State) (s : State) : State :=
  if s.fault.safe then frozen s rq off 7 cmd else f s

/-! ### Blocks -/

/-- The GLOBAL block. -/
def writeGlobal (rq : Acc) (off : Nat) (v : Word) (s : State) : State :=
  let cmd := fld v 63 60
  match off with
  | 0x1000 => modTime s fun t => { t with lostSeen := t.lostSeen && !(bitOf v 1) }
  | 0x1108 => levelReqWrite rq v s
  | 0x1120 => modeCmd rq cmd s
  | 0x1130 => { s with mode := { s.mode with refused := heldAck s.mode.refused v } }
  | 0x1208 => match cmd with
    | 1 => ladderStop rq s
    | 2 => searchReplay rq v s
    | 3 => searchDone rq s
    | 4 => searchEnd rq s
    | _ => ladderBadCmd rq s
  | 0x1210 => modStop s fun p => { p with base := pack [(12, 45, fld v 56 12)] }
  | 0x1218 => modStop s fun p => { p with size := pack [(0, 32, fld v 31 0)] }
  | 0x1228 => hangAck rq v s
  | 0x1240 => stopAck rq v s
  | 0x1300 => match cmd with
    | 1 => riserTrain rq s
    | 2 => fuseReadCmd rq s
    | 3 => selftestAllCmd rq s
    | 4 => structAllCmd rq (fld v 3 0) s
    | _ => bringBadCmd rq cmd s
  | _ => s

/-- The FAULT block. -/
def writeFault (rq : Acc) (off : Nat) (v : Word) (s : State) : State :=
  match off with
  | 0x010008 => pendingWrite rq v s
  | 0x010028 => firstAck rq v s
  | 0x010030 => modFault s fun u => { u with irqSEn := pack [(16, 48, fld v 63 16)] }
  | 0x010038 => modFault s fun u => { u with irqNsEn := pack [(16, 48, fld v 63 16)] }
  | 0x010040 => faultCmd rq v s
  | 0x010048 => injectCmd rq v s
  | _ => s

/-- The RECORDER block. -/
def writeRecorder (rq : Acc) (off : Nat) (v : Word) (s : State) : State :=
  match off with
  | 0x020030 => recCmd rq v s
  | 0x020040 => modRcd s fun r => { r with archiveDst := pack [(12, 45, fld v 56 12)] }
  | 0x020048 => rdSelWrite v s
  | _ => s

/-- The registers of mailbox channel `c`, by offset in it. -/
def writeMail (rq : Acc) (c off : Nat) (v : Word) (s : State) : State :=
  match off with
  | 0x00 => mbInPost rq c v s
  | 0x08 => updMbox s c fun m => { m with inStaged := fld v 31 0 }
  | 0x10 => mbCollClear rq c false v s
  | 0x18 => mbInRx rq c v s
  | 0x20 => mbInDbSet rq c v s
  | 0x28 => mbInDbClear rq c v s
  | 0x30 => mbInMaskWrite rq c v s
  | 0x48 => mbCollClear rq c true v s
  | 0x50 => mbOutRx rq c v s
  | 0x58 => mbOutDbClear rq c v s
  | 0x60 => updMbox s c fun m => { m with outMask := fld v 31 0 }
  | 0x68 => updMbox s c fun m => { m with outArea := pack [(0, 57, fld v 56 0)] }
  | _ => s

/-- The supply registers. -/
def writeSupply (off : Nat) (v : Word) (s : State) : State :=
  match off with
  | 0x040800 => supplyClear v s
  | 0x040808 => modSup s fun p => { p with droopMv := droopStore v }
  | _ => s

/-- STEP_CMD. -/
def writeStepCmd (rq : Acc) (v : Word) (s : State) : State :=
  let step := fld v 31 0
  match fld v 63 60 with
  | 1 => skipCmd rq step s
  | 2 => haltCmd rq step s
  | 3 => disarmCmd rq step s
  | 4 => recoverCmd rq s
  | 5 => joinCmd rq step s
  | 6 => certCmd rq step s
  | 7 => fetchCmd rq step (fld v 47 32) s
  | 8 => revoteCmd rq step s
  | c => stepBadCmd rq c s

/-- The STEP block. -/
def writeStep (rq : Acc) (off : Nat) (v : Word) (s : State) : State :=
  match off with
  | 0x050000 => stepArm rq v s
  | 0x050008 => configWrite rq v s
  | 0x050038 => verdictAck v s
  | 0x050048 => decisionAck v s
  | 0x050050 => writeStepCmd rq v s
  | 0x050058 => modRegs (regWritten s 2) fun g => { g with jnlBase := pack [(21, 36, fld v 56 21)] }
  | 0x050060 => modRegs (regWritten s 4) fun g => { g with jnlSize := v }
  | 0x050068 => modRegs (regWritten s 8) fun g => { g with rankTable := pack [(12, 45, fld v 56 12)] }
  | 0x050070 => undoListWrite v s
  | 0x050090 => modRegs s fun g => { g with certReq := pack [(12, 45, fld v 56 12)] }
  | 0x0500A0 => modRegs s fun g => { g with fetchDst := pack [(8, 49, fld v 56 8)] }
  | 0x050810 => collAck v s
  | 0x050908 => covAck v s
  | _ => s

/-- A write of MIRROR_MODE (R200); in the safe state one that changes the axis is refused (R252). -/
def mirModeWrite (rq : Acc) (v : Word) (s : State) : State :=
  let w := mirModeStore v
  if s.fault.safe && fld w 1 0 != mirMode s then frozen s rq 0x060000 3 (fld w 1 0) else modMir s fun m => { m with modeReg := w }

/-- The MIRROR block. -/
def writeMirror (rq : Acc) (off : Nat) (v : Word) (s : State) : State :=
  let cmd := fld v 63 60
  match off with
  | 0x060000 => mirModeWrite rq v s
  | 0x060008 => modMir s fun m =>
    { m with peer := pack [(48, 16, fld v 63 48), (32, 16, fld v 47 32), (4, 5, fld v 8 4), (0, 1, fld v 0 0)] }
  | 0x060010 => unlessSafe rq 0x060010 cmd (fun s => match cmd with
    | 1 => pairCmd rq (fld v 31 0) s
    | 2 => repairCmd rq s
    | 3 => unpairCmd s
    | 4 => withBytes s.mirror.shardList.toNat 8192 (fun bs => pullCmd rq (fld v 31 0) (shardsOf (bytesWords bs))) s
    | 5 => abortPull rq s
    | _ => mirBadCmd rq s) s
  | 0x060038 => modMir s fun m => { m with shardList := pack [(12, 45, fld v 56 12)] }
  | 0x060040 => modMir s fun m => { m with rxBase := pack [(21, 36, fld v 56 21)] }
  | 0x060048 => modMir s fun m => { m with rxSize := pack [(0, 32, fld v 31 0)] }
  | 0x060058 => mirCheckAck v s
  | _ => s

/-- The DMA block. -/
def writeDma (rq : Acc) (off : Nat) (v : Word) (s : State) : State :=
  let cmd := fld v 63 60
  match off with
  | 0x070008 => modDma s fun d => { d with root := pack [(12, 40, fld v 51 12), (0, 1, fld v 0 0)] }
  | 0x070010 => modDma s fun d => { d with ctx := pack [(0, 16, fld v 15 0)] }
  | 0x070018 => match cmd with
    | 1 => invAll rq s
    | 2 => invRange rq v s
    | _ => raiseK s fcCmdIllegal rq off
  | 0x070020 => match cmd with
    | 1 => dmaResume rq (fld v 2 0) s
    | 2 => dmaAbandon rq (fld v 2 0) s
    | _ => raiseK s fcCmdIllegal rq off
  | _ => s

/-- The CONFIG block. -/
def writeConfig (rq : Acc) (off : Nat) (v : Word) (s : State) : State :=
  match off with
  | 0x080008 => match fld v 63 60 with
    | 1 => cfgBegin rq s
    | 2 => cfgReload rq (fld v 4 0) s
    | 3 => cfgEnd rq s
    | 4 => cfgAbort rq s
    | _ => cfgCmd rq false 0 (cfgIllegal rq) s
  | 0x080010 => loadData rq v s
  | 0x080020 => modLd s fun l => { l with ctl := storeCtl v }
  | 0x080038 => modLd s fun l => { l with event := heldAck l.event v }
  | _ => s

/-- The QUARANTINE, SPARES and TEST block. -/
def writeQrs (rq : Acc) (off : Nat) (v : Word) (s : State) : State :=
  let cmd := fld v 63 60
  let tag := fld v 47 32
  let n := fld v 15 0
  match off with
  | 0x090008 => unlessSafe rq 0x090008 cmd (match cmd with
    | 1 => qrsFence rq n tag
    | 2 => qrsStruct rq n tag
    | 3 => qrsSelftest rq n tag
    | 4 => qrsReturn rq n tag
    | 5 => qrsReconcile rq n tag
    | 6 => qrsCancel rq n tag
    | _ => qrsBadCmd rq tag n) s
  | 0x090028 => qrsAck v s
  | 0x090030 => modQrs s fun q => { q with testCfg := v }
  | 0x090038 => modQrs s fun q => { q with patternBase := pack [(12, 45, fld v 56 12)] }
  | 0x090100 => match cmd with
    | 1 => mtStart rq (fld v 59 56) s
    | 2 => mtAbort rq s
    | _ => mtBadCmd rq s
  | 0x090108 => modMt s fun m => { m with base := pack [(30, 22, fld v 51 30)] }
  | 0x090110 => modMt s fun m => { m with limit := pack [(30, 22, fld v 51 30)] }
  | _ => s

/-- SEC_CMD: what a command reads from host memory, the checks of signatures and tags, and whether the state word can be
written, are free. -/
def writeSecCmd (rq : Acc) (cmd : Nat) (s : State) : State :=
  let arg := s.sec.arg.toNat
  match cmd with
  | 1 => withBytes arg 11400 (fun bs => withBit fun ok => loadCert rq (bs.take 6768) ok (bs.drop 6768)) s
  | 2 => withBit (commitState rq) s
  | 3 => withBit (sealCmd rq) s
  | 4 => withBit (lockCmd rq) s
  | 5 => withBit (reprovision rq) s
  | 6 => zeroiseCmd rq s
  | 7 => withBytes arg 1624 (fun bs => withBit fun ok => unwrapCmd rq (bs.take 1576) ok (bs.drop 1576)) s
  | 8 => withBytes arg 4691 (fun bs => withBit fun b => loadPermit rq (bytesWords bs) b) s
  | 9 => clearPermits rq s
  | _ => secBadCmd rq cmd s

/-- The SECURITY block. In SEALED, writes to SEC_JOB_KEY are ignored (R437). -/
def writeSec (rq : Acc) (off : Nat) (v : Word) (s : State) : State :=
  if off == 0x0A0000 then modSec s fun u => { u with tamperSeen := u.tamperSeen && !(bitOf v 60) }
  else if off == 0x0A0008 then writeSecCmd rq (fld v 63 60) s
  else if off == 0x0A0018 then modSec s fun u => { u with arg := pack [(6, 51, fld v 56 6)] }
  else if 0x0A0040 ≤ off && off < 0x0A0060 then
    if secState s == .sealed_ then s else modSec s fun u => { u with jobKey := setNth u.jobKey ((off - 0x0A0040) / 8) v }
  else s

/-- The OBSERVE block. -/
def writeObs (rq : Acc) (off : Nat) (v : Word) (s : State) : State :=
  match off with
  | 0x0B0000 => cntCmd rq (fld v 63 60) (fld v 59 56) (fld v 47 32) (fld v 15 0) s
  | 0x0B0010 => ringSel rq v s
  | 0x0B0020 => modOb s fun o => { o with dumpList := pack [(12, 45, fld v 56 12)] }
  | 0x0B0028 => modOb s fun o => { o with dumpDst := pack [(12, 45, fld v 56 12)] }
  | 0x0B0030 => modOb s fun o => { o with dumpSize := pack [(0, 32, fld v 31 0)] }
  | 0x0B0038 => match fld v 63 60 with
    | 1 => withBytes s.obs.dumpList.toNat 512 (fun bs => dumpArmCmd rq (bytesWords bs)) s
    | 2 => dumpCancelCmd rq s
    | _ => dumpBadCmd rq s
  | 0x0B0048 => modOb s fun o => { o with result := heldAck o.result v }
  | _ => s

/-- The CASCADE block. CAS_CHIP is RO on members. -/
def writeCas (rq : Acc) (off : Nat) (v : Word) (s : State) : State :=
  match off with
  | 0x0C0008 => if isMember s then s else modCas s fun c => { c with chip := fld v 15 0 }
  | 0x0C0010 => if fld v 63 60 == 1 then retrain rq s else raiseK s fcCmdIllegal rq off
  | _ => s

/-- The SEQUENCERS block. -/
def writeSeq (rq : Acc) (off : Nat) (v : Word) (s : State) : State :=
  match off with
  | 0x0D0020 => match fld v 63 60 with
    | 1 => seqRestartCmd rq (fld v 1 0) s
    | 2 => seqFreezeCmd rq (fld v 1 0) s
    | 3 => seqThawCmd rq (fld v 1 0) s
    | _ => seqBadCmd rq s
  | 0x0D0028 => { s with seq := { s.seq with ctl := seqCtlStore v } }
  | 0x0D0080 => traceSel rq v s
  | _ => s

/-- The registers of tile window `n`, by offset in it. -/
def writeTile (n off : Nat) (v : Word) (s : State) : State :=
  match off with
  | 0x00 => resStatusWrite n v s
  | 0x18 => resAck n v s
  | 0x28 => pipStatusWrite n v s
  | 0x40 => pipAck n v s
  | _ => s

/-- A write that completes with OK; one of a register that takes none, or of an array entry the build does not have, is
ignored (R9, R486). -/
def writeReg (rq : Acc) (off : Nat) (v : Word) (s : State) : State :=
  if inTiles off then writeTile (tileAt off) ((off - 0x100000) % 0x400) v s
  else match off / 0x10000 with
    | 0 => writeGlobal rq off v s
    | 1 => writeFault rq off v s
    | 2 => writeRecorder rq off v s
    | 3 => match mailChannel off with
      | some c => writeMail rq c (off % 0x100) v s
      | none => s
    | 4 => writeSupply off v s
    | 5 => writeStep rq off v s
    | 6 => writeMirror rq off v s
    | 7 => writeDma rq off v s
    | 8 => writeConfig rq off v s
    | 9 => writeQrs rq off v s
    | 10 => writeSec rq off v s
    | 11 => writeObs rq off v s
    | 12 => writeCas rq off v s
    | 13 => writeSeq rq off v s
    | _ => s

/-- KRP_REQUEST (R388). -/
def krpRequestEff (rq : Acc) (off : Nat) (write : Bool) (v : Word) : State → State :=
  krpAccess rq off write v fun s => if write then (0, writeReg rq off v s) else ((readReg s off).getD 0, s)

/-! ### Sequencer accesses (R357) -/

/-- What R357 refuses a sequencer beside what any access meets: the registers of the SECURITY block to reads; SECURITY,
CONFIG, SEQUENCERS, FAULT_INJECT, FAULT_CMD and MODE_LEVEL_REQ to writes. [DEDUCED, log entry 122] -/
def seqRefused (off : Nat) (write : Bool) : Bool :=
  let b := off / 0x10000
  b == 10 || (write && (b == 8 || b == 13 || off == 0x010048 || off == 0x010040 || off == 0x1108))

/-- A register access of core `n`: a refused one is a core fault and has no effect; one that a riser stops answers
TIMEOUT (R388, R486), for which the manual states no value that a read brings. [DEDUCED, log entry 122] -/
def seqAccess (n : Nat) (write : Bool) (f : Core → Nat → Word → State → State) (c : Core) (w : Nat) (s : State) : State :=
  let off := (seqAddr c w).toNat
  if seqRefused off write then coreFault s n 4
  else match accessCode s (seqAcc n) off write with
    | 0 => retire (f c off ((readReg s off).getD 0) s) n w (c.pc + 1) 0
    | 3 =>
      let s := raise s { code := fcPortTimeout, access := 1 + b2n write, master := 0xFFF0 + n, addr := off }
      let (k, s) := if write then (0, s) else drawNext s
      retire (if write then s else updCore s n fun q => setSreg q (iRd w) (BitVec.ofNat 64 (Config.draw k))) n w (c.pc + 1) 0
    | _ => coreFault s n 4

/-- LDB (R351, R357). -/
def seqLdb (n : Nat) : State → State :=
  seqDo 0x0C n fun c w s => seqAccess n false (fun _ _ v s => updCore s n fun k => setSreg k (iRd w) v) c w s

/-- STB (R351, R357). -/
def seqStb (n : Nat) : State → State :=
  seqDo 0x0D n fun c w s => seqAccess n true (fun c off _ s => writeReg (seqAcc n) off (sreg c (iRd w)) s) c w s

end Sys2Proof.Machine
end

