-- ==== Sys2Proof/Machine/Units.lean ====
section
/-! DEFINITION. What is left of the units' effects: the arithmetic of the sequencer cores (R351), and memory responses,
which go to the channel or to the memory test (R390, R468). -/
namespace Sys2Proof.Machine

/-! ### Mailbox commands -/

/-- An effect on a mailbox channel that there is (R364). [DESIGN CHOICE, log entry 5] -/
def onChannel (c : Nat) (f : State → State) (s : State) : State := if c < 8 then f s else s

/-- A sequencer's write of a mailbox register; one of a channel that there is not completes with NOREG, which is a core fault of
the core that runs it (R355, R357). [DESIGN CHOICE, log entry 5] -/
def seqMail (c k : Nat) (f : State → State) (s : State) : State :=
  if c < 8 then f s else if (core s k).state == .run then coreFault s k 4 else s

/-! ### Sequencer arithmetic (R351) -/

/-- LDI. -/
def seqLdi (n : Nat) : State → State := seqAlu 0x01 n fun _ w _ => immS w
/-- SHI. -/
def seqShi (n : Nat) : State → State := seqAlu 0x02 n fun c w _ => sreg c (iRd w) <<< 19 + immZ w
/-- ADD. -/
def seqAdd (n : Nat) : State → State := seqAlu 0x03 n fun c w _ => sreg c (iRa w) + sreg c (iRb w)
/-- SUB. -/
def seqSub (n : Nat) : State → State := seqAlu 0x04 n fun c w _ => sreg c (iRa w) - sreg c (iRb w)
/-- AND. -/
def seqAnd (n : Nat) : State → State := seqAlu 0x05 n fun c w _ => sreg c (iRa w) &&& sreg c (iRb w)
/-- OR. -/
def seqOr (n : Nat) : State → State := seqAlu 0x06 n fun c w _ => sreg c (iRa w) ||| sreg c (iRb w)
/-- XOR. -/
def seqXor (n : Nat) : State → State := seqAlu 0x07 n fun c w _ => sreg c (iRa w) ^^^ sreg c (iRb w)
/-- SH. -/
def seqSh (n : Nat) : State → State := seqAlu 0x08 n fun c w _ => shiftOf w (sreg c (iRa w))
/-- ADDI. -/
def seqAddi (n : Nat) : State → State := seqAlu 0x09 n fun c w _ => sreg c (iRa w) + immS w
/-- CMP. -/
def seqCmp (n : Nat) : State → State :=
  seqAlu 0x0E n fun c w _ => BitVec.ofNat 64 (b2n (cmpHolds (w % 8) (sreg c (iRa w)) (sreg c (iRb w))))
/-- TIME. -/
def seqTime (n : Nat) : State → State := seqAlu 0x14 n fun _ _ s => stamp s

/-! ### Memory responses -/

/-- A response on MEM port n: the memory test's own, a descriptor's, or one that nothing waits for any more; with nothing
outstanding it raises PORT_RANGE (R390). -/
def memAnswer (n id status : Nat) (data : List Byte) (s : State) : State :=
  match memTaker s n id with
  | none => raisePort s fcPortRange 7 n (memPayload id status data)
  | some c => match (chan s c).req with
    | none => memLate c n id status s
    | some r =>
      if !(r.port == n && r.id == id) then memLate c n id status s
      else if mtOwns s c then mtResponse status data s
      else memTaken c status data r s

/-- No response in 50 µs: a finding of the memory test, or a fault of the channel. -/
def memNoAnswer (c : Nat) (s : State) : State :=
  if mtOwns s c && (chan s c).cut.isEmpty then mtOpDone (some 2) s else memTimeout c s

/-- A request that is not taken in 2 µs: the memory test logs it as a request that had no response. [DEDUCED, log entry 119] -/
def memNotTaken (c : Nat) (s : State) : State :=
  match mtOwns s c, (chan s c).req with
  | true, some r => mtOpDone (some 2) (raisePort s fcPortTimeout 7 r.port r.addr)
  | _, _ => memReqTimeout c s

end Sys2Proof.Machine
end

