-- ==== Sys2Proof/Machine/ExecArm.lean ====
section
/-! DEFINITION. The register commands of the STEP block. -/
namespace Sys2Proof.Machine

/-- STEP_ARM (R245): A STEP_ARM write checks the configuration and axes and arms the step engine or refuses. -/
def execStepArm (value : Word) (rq : Acc) (s : State) : Host.Outcome State Fault Refusal :=
  run (.stepArm value rq) (regCmd rq 0x050000 value (stepArm rq value)) s

/-- ARM_PAIR_WAIT_EXPIRY (R184): An arm or join has waited 1 ms for PAIRED without it; it is refused with MIRROR_NOT_PAIRED. -/
def execArmPairWaitExpiry (s : State) : Host.Outcome State Fault Refusal :=
  run .armPairWaitExpiry armPairLate s

/-- STEP_CONFIG_WRITE (R242): A STEP_CONFIG write stores the job parameters, and a change to DECODE demotes AUDIT requests. -/
def execStepConfigWrite (value : Word) (rq : Acc) (s : State) : Host.Outcome State Fault Refusal :=
  run (.stepConfigWrite value rq) (regCmd rq 0x050008 value (configWrite rq value)) s

/-- SKIP (R166): STEP_CMD SKIP ends a MODEL_NONFINITE step as skipped without changing EPOCH. -/
def execStepSkip (step : Nat) (rq : Acc) (s : State) : Host.Outcome State Fault Refusal :=
  run (.stepSkip step rq) (regCmd rq 0x050050 (cmdWord 1 [(0, 32, step)]) (skipCmd rq step)) s

/-- HALT (R166): STEP_CMD HALT holds the job at the step, keeps the gate closed and sets HALTED. -/
def execStepHalt (step : Nat) (rq : Acc) (s : State) : Host.Outcome State Fault Refusal :=
  run (.stepHalt step rq) (regCmd rq 0x050050 (cmdWord 2 [(0, 32, step)]) (haltCmd rq step)) s

/-- DISARM (R175): STEP_CMD DISARM disarms the engine in IDLE or HOLD and unlocks the RWL registers. -/
def execStepDisarm (step : Nat) (rq : Acc) (s : State) : Host.Outcome State Fault Refusal :=
  run (.stepDisarm step rq) (regCmd rq 0x050050 (cmdWord 3 [(0, 32, step)]) (disarmCmd rq step)) s

/-- RECOVER (R162): STEP_CMD RECOVER restores EPOCH from the journal and applies any decision missing after a chip reset. -/
def execStepRecover (rq : Acc) (s : State) : Host.Outcome State Fault Refusal :=
  run (.stepRecover rq) (regCmd rq 0x050050 (cmdWord 4 []) (recoverCmd rq)) s

/-- JOIN (R197): STEP_CMD JOIN arms a replacement chip for its rank at the held step in phase HOLD. -/
def execStepJoin (step : Nat) (rq : Acc) (s : State) : Host.Outcome State Fault Refusal :=
  run (.stepJoin step rq) (regCmd rq 0x050050 (cmdWord 5 [(0, 32, step)]) (joinCmd rq step)) s

/-- CERT (R171): STEP_CMD CERT starts a snapshot certificate of the last committed step. -/
def execStepCert (step : Nat) (rq : Acc) (s : State) : Host.Outcome State Fault Refusal :=
  run (.stepCert step rq) (regCmd rq 0x050050 (cmdWord 6 [(0, 32, step)]) (certCmd rq step)) s

/-- FETCH (R141): STEP_CMD FETCH decrypts a MICRO_BATCH record and writes its notice to STEP_FETCH_DST. -/
def execStepFetch (step : Nat) (mb : Nat) (rq : Acc) (s : State) : Host.Outcome State Fault Refusal :=
  run (.stepFetch step mb rq) (regCmd rq 0x050050 (cmdWord 7 [(32, 16, mb), (0, 32, step)]) (fetchCmd rq step mb)) s

/-- REVOTE (R160): STEP_CMD REVOTE sends the held verdict on the tree of the newly loaded POLICY. -/
def execStepRevote (step : Nat) (rq : Acc) (s : State) : Host.Outcome State Fault Refusal :=
  run (.stepRevote step rq) (regCmd rq 0x050050 (cmdWord 8 [(0, 32, step)]) (revoteCmd rq step)) s

/-- STEP_COLL_MISMATCH_ACK (R93): Writing the held SEQ consumes the collective conservation failure record. -/
def execCollMismatchAck (value : Word) (rq : Acc) (s : State) : Host.Outcome State Fault Refusal :=
  run (.collMismatchAck value rq) (regCmd rq 0x050810 value (collAck value)) s

/-- STEP_COV_ACK (R124): Writing the held SEQ consumes the coverage summary. -/
def execStepCovAck (value : Word) (rq : Acc) (s : State) : Host.Outcome State Fault Refusal :=
  run (.stepCovAck value rq) (regCmd rq 0x050908 value (covAck value)) s

/-- STEP_VERDICT_ACK (R174): Writing the held SEQ consumes STEP_VERDICT. -/
def execStepVerdictAck (value : Word) (rq : Acc) (s : State) : Host.Outcome State Fault Refusal :=
  run (.stepVerdictAck value rq) (regCmd rq 0x050038 value (verdictAck value)) s

/-- STEP_DECISION_ACK (R174): Writing the held SEQ consumes STEP_DECISION. -/
def execStepDecisionAck (value : Word) (rq : Acc) (s : State) : Host.Outcome State Fault Refusal :=
  run (.stepDecisionAck value rq) (regCmd rq 0x050048 value (decisionAck value)) s

end Sys2Proof.Machine
end

