-- ==== Sys2Proof/Machine/ExecCas.lean ====
section
/-! DEFINITION. The commands of the cascade. -/
namespace Sys2Proof.Machine

/-- RETRAIN (R451): CAS_CMD RETRAIN makes the master enumerate the cascade ring again. -/
def execCasRetrain (rq : Acc) (s : State) : Host.Outcome State Fault Refusal :=
  run (.casRetrain rq) (regCmd rq 0x0C0010 (cmdWord 1 []) (retrain rq)) s

/-- ENUM (R451): An ENUM message assigns a member its position, or returns to the master to raise RING_OK. -/
def execCasEnum (count : Nat) (s : State) : Host.Outcome State Fault Refusal :=
  run (.casEnum count) (enumGot count) s

/-- ENUM_TIMEOUT (R451): The master's ENUM does not return within 10 ms, raising CAS_LINK_DOWN. -/
def execEnumTimeout (s : State) : Host.Outcome State Fault Refusal :=
  run .enumTimeout enumLate s

/-- ROLE_ENUM_TIMEOUT (R450): A strap-low instance receives no ENUM within 10 ms and becomes STANDALONE. -/
def execRoleEnumTimeout (s : State) : Host.Outcome State Fault Refusal :=
  run .roleEnumTimeout roleLate s

/-- HEARTBEAT (R452): A member receives the master's HEARTBEAT and takes its chip number. -/
def execHeartbeat (gen : Nat) (chip : Nat) (s : State) : Host.Outcome State Fault Refusal :=
  run (.heartbeat gen chip) (heartbeatGot gen chip) s

/-- HEARTBEAT_TIMER (R452): The 10 us heartbeat interval elapses and the master sends HEARTBEAT. -/
def execHeartbeatTimer (s : State) : Host.Outcome State Fault Refusal :=
  run .heartbeatTimer heartbeatSend s

/-- HEARTBEAT_MISS (R459): A member misses HEARTBEAT for 50 us, raising CAS_MASTER_FAULT. -/
def execHeartbeatMiss (s : State) : Host.Outcome State Fault Refusal :=
  run .heartbeatMiss heartbeatMissed s

/-- CAS_HANDSHAKE_TIMEOUT (R452): A cascade handshake does not complete within 2 us, raising CAS_LINK_DOWN. -/
def execCasHandshakeTimeout (s : State) : Host.Outcome State Fault Refusal :=
  run .casHandshakeTimeout casTimeout s

/-- ARM_CHECK (R454): A member's arm parameters reach the master for comparison. -/
def execArmCheck (src : Nat) (params : ArmParams) (s : State) : Host.Outcome State Fault Refusal :=
  run (.armCheck src params) (armCheckGot src params) s

/-- ARM_OK (R454): The master's ARM_OK arrives and ARMED rises on the instance. -/
def execArmOk (job : Nat) (s : State) : Host.Outcome State Fault Refusal :=
  run (.armOk job) (armOkGot job) s

/-- ARM_REFUSED (R454): The master's ARM_REFUSED arrives and the instance stays unarmed. -/
def execArmRefused (job : Nat) (s : State) : Host.Outcome State Fault Refusal :=
  run (.armRefused job) (armRefusedGot job) s

/-- ARM_CHECK_TIMEOUT (R454): Not all ARM_CHECK messages arrive within 1 ms and the cascade is refused. -/
def execArmCheckTimeout (s : State) : Host.Outcome State Fault Refusal :=
  run .armCheckTimeout armCheckLate s

/-- CAS_VERDICT (R455): A member verdict reaches the master and is combined into the package vote. -/
def execCasVerdict (src : Nat) (verdict : Nat) (point : Nat) (nfRepro : Bool) (z : Nat) (step : Nat) (replayNo : Nat) (s : State) : Host.Outcome State Fault Refusal :=
  run (.casVerdict src verdict point nfRepro z step replayNo) (casVerdictGot src verdict point nfRepro z step replayNo) s

/-- CAS_VERDICT_TIMEOUT (R455): A member verdict is missing after VOTE_TIMEOUT; the package votes SUSPECT with CAS_MEMBER_LOST. -/
def execCasVerdictTimeout (s : State) : Host.Outcome State Fault Refusal :=
  run .casVerdictTimeout casVerdictLate s

/-- CAS_DECISION (R456): A member applies a decision forwarded by the master. -/
def execCasDecision (word : Word) (s : State) : Host.Outcome State Fault Refusal :=
  run (.casDecision word) (casDecisionGot word) s

/-- SUMMARY (R458): A member's SUMMARY reaches the master and updates CAS_MEMBER. -/
def execCasSummary (src : Nat) (pending : Nat) (safe : Bool) (validMax : Nat) (globalMax : Nat) (s : State) : Host.Outcome State Fault Refusal :=
  run (.casSummary src pending safe validMax globalMax) (summaryGot src pending safe validMax globalMax) s

/-- SUMMARY_TIMER (R452): 1 ms passes without a SUMMARY change and a member sends SUMMARY. -/
def execSummaryTimer (s : State) : Host.Outcome State Fault Refusal :=
  run .summaryTimer summarySend s

/-- CAS_STOP (R291): A member receives the master's forwarded STOP and starts a global stop. -/
def execCasStop (s : State) : Host.Outcome State Fault Refusal :=
  run .casStop casStopGot s

/-- HEARTBEAT_NOT_RETURNED (R459): The master's HEARTBEAT does not come back round the ring within 50 us, raising CAS_MEMBER_LOST, clearing RING_OK and failing every later package verdict until RETRAIN. -/
def execHeartbeatNotReturned (s : State) : Host.Outcome State Fault Refusal :=
  run .heartbeatNotReturned heartbeatLate s

end Sys2Proof.Machine
end

