-- ==== Sys2Proof/Machine/ExecConfig.lean ====
section
/-! DEFINITION. The commands of the configuration loader. -/
namespace Sys2Proof.Machine

/-- CONFIG_EVENT_ACK (R347): Writing the held SEQ consumes CONFIG_EVENT. -/
def execConfigEventAck (value : Word) (rq : Acc) (s : State) : Host.Outcome State Fault Refusal :=
  run (.configEventAck value rq) (regCmd rq 0x080038 value (writeConfig rq 0x080038 value)) s

/-- BEGIN (R336): CONFIG_CMD BEGIN opens a header load for a new bit-stream session. -/
def execConfigBegin (rq : Acc) (s : State) : Host.Outcome State Fault Refusal :=
  run (.configBegin rq) (regCmd rq 0x080008 (cmdWord 1 []) (cfgBegin rq)) s

/-- RELOAD (R336): CONFIG_CMD RELOAD moves a region to DRAINING for replacement. -/
def execConfigReload (value : Word) (rq : Acc) (s : State) : Host.Outcome State Fault Refusal :=
  run (.configReload value rq) (regCmd rq 0x080008 (setFld value 63 60 2) (cfgReload rq (fld value 4 0))) s

/-- CONFIG_END (R336): CONFIG_CMD END makes the pending table the active table. -/
def execConfigEnd (rq : Acc) (s : State) : Host.Outcome State Fault Refusal :=
  run (.configEnd rq) (regCmd rq 0x080008 (cmdWord 3 []) (cfgEnd rq)) s

/-- CONFIG_ABORT (R336): CONFIG_CMD ABORT discards an OPEN session in which no region has been reloaded. -/
def execConfigAbort (rq : Acc) (s : State) : Host.Outcome State Fault Refusal :=
  run (.configAbort rq) (regCmd rq 0x080008 (cmdWord 4 []) (cfgAbort rq)) s

/-- CONFIG_LOAD_DATA (R335): A word of the current load is digested and stored, or counted as stray. -/
def execConfigLoadData (word : Word) (rq : Acc) (s : State) : Host.Outcome State Fault Refusal :=
  run (.configLoadData word rq) (regCmd rq 0x080010 word (loadData rq word)) s

/-- HEADER_CHECK_DONE (R333): The header and signature checks finish, opening the session or rejecting the header. -/
def execHeaderCheckDone (sigOk : Bool) (fuse : Nat) (s : State) : Host.Outcome State Fault Refusal :=
  run (.headerCheckDone sigOk fuse) (headerDone sigOk fuse) s

/-- LOAD_TIMEOUT (R336): A header or region load does not finish within LOAD_TIMEOUT. -/
def execLoadTimeout (s : State) : Host.Outcome State Fault Refusal :=
  run .loadTimeout loadTimeout s

/-- DRAIN_END (R492): A DRAINING region's holder becomes idle or DRAIN_LIMIT is reached, and the region enters LOADING. -/
def execDrainEnd (region : Nat) (s : State) : Host.Outcome State Fault Refusal :=
  run (.drainEnd region) (drainEnd region) s

/-- REGION_VERIFY_DONE (R336): VERIFYING ends with the region ACTIVE or FENCED. -/
def execRegionVerifyDone (s : State) : Host.Outcome State Fault Refusal :=
  run .regionVerifyDone (fun s => regionVerified (isReg s) s) s

end Sys2Proof.Machine
end

