-- ==== Sys2Proof/Machine/ExecDma.lean ====
section
/-! DEFINITION. The commands of the DMA channels and of translation. -/
namespace Sys2Proof.Machine

/-- DMA_POST (R313): An owner posts a descriptor to its channel queue, which checks it and queues it. [DESIGN CHOICE, log entry 118] -/
def execDmaPost (ch : Nat) (src : Word) (dst : Word) (ctl : Word) (work : DmaWork) (buf : List Byte) (s : State) : Host.Outcome State Fault Refusal :=
  run (.dmaPost ch src dst ctl work buf) (dmaPost ch src dst ctl work buf) s

/-- MEM_RESPONSE (R315): A MEM response arrives and advances its descriptor towards DONE. -/
def execMemResponse (port : Nat) (id : Nat) (status : Nat) (data : List Byte) (s : State) : Host.Outcome State Fault Refusal :=
  run (.memResponse port id status data) (memAnswer port id status data) s

/-- MEM_TIMEOUT (R390): No MEM response arrives in 50 us, and the request fails to its channel. -/
def execMemTimeout (ch : Nat) (s : State) : Host.Outcome State Fault Refusal :=
  run (.memTimeout ch) (memNoAnswer ch) s

/-- MEM_REQ_TIMEOUT (R390): A MEM request held not ready for 2 us is withdrawn with PORT_TIMEOUT. -/
def execMemReqTimeout (ch : Nat) (s : State) : Host.Outcome State Fault Refusal :=
  run (.memReqTimeout ch) (memNotTaken ch) s

/-- DMA_RESUME (R323): DMA_CMD RESUME restarts a PAUSED descriptor at DONE. -/
def execDmaResume (ch : Nat) (rq : Acc) (s : State) : Host.Outcome State Fault Refusal :=
  run (.dmaResume ch rq) (regCmd rq 0x070020 (cmdWord 1 [(0, 3, ch)]) (dmaResume rq ch)) s

/-- DMA_ABANDON (R323): DMA_CMD ABANDON ends a PAUSED descriptor as ABANDONED. -/
def execDmaAbandon (ch : Nat) (rq : Acc) (s : State) : Host.Outcome State Fault Refusal :=
  run (.dmaAbandon ch rq) (regCmd rq 0x070020 (cmdWord 2 [(0, 3, ch)]) (dmaAbandon rq ch)) s

/-- XLATE_INV_ALL (R320): DMA_XLATE_INV ALL invalidates every cached translation entry. -/
def execXlateInvAll (rq : Acc) (s : State) : Host.Outcome State Fault Refusal :=
  run (.xlateInvAll rq) (regCmd rq 0x070018 (cmdWord 1 []) (invAll rq)) s

/-- XLATE_INV_RANGE (R320): DMA_XLATE_INV RANGE invalidates cached entries covering a range. -/
def execXlateInvRange (value : Word) (rq : Acc) (s : State) : Host.Outcome State Fault Refusal :=
  run (.xlateInvRange value rq) (regCmd rq 0x070018 (setFld value 63 60 2) (invRange rq value)) s

end Sys2Proof.Machine
end

