-- ==== Sys2Proof/Machine/ExecEnv.lean ====
section
/-! DEFINITION. The commands of the sensors, the supplies and the security unit. -/
namespace Sys2Proof.Machine

/-- TSENS_READING (R397): A host sensor reading arrives on TSENS and is range-checked. -/
def execTsensReading (id : Nat) (code : Nat) (s : State) : Host.Outcome State Fault Refusal :=
  run (.tsensReading id code) (tsens id code) s

/-- ON_DIE_SENSOR_READ (R422): An on-die cluster sensor is read over its riser every 100 us. -/
def execOnDieSensorRead (k : Nat) (code : Nat) (s : State) : Host.Outcome State Fault Refusal :=
  run (.onDieSensorRead k code) (onDie k code) s

/-- SENSOR_TIMEOUT (R424): A configured sensor has no accepted reading for 10 ms and becomes broken. -/
def execSensorTimeout (s_ : Nat) (s : State) : Host.Outcome State Fault Refusal :=
  run (.sensorTimeout s_) (sensorFails s_ 3) s

/-- SENSOR_STUCK (R424): A sensor accepts the same raw code for 1 s and becomes broken. -/
def execSensorStuck (s_ : Nat) (s : State) : Host.Outcome State Fault Refusal :=
  run (.sensorStuck s_) (sensorFails s_ 2) s

/-- SENSOR_RECOVER (R424): A broken sensor passes every check for 1 s and becomes valid again. -/
def execSensorRecover (s_ : Nat) (s : State) : Host.Outcome State Fault Refusal :=
  run (.sensorRecover s_) (sensorHeals s_) s

/-- KEY_SEED (R398): The device secret transfers on KEY_SEED after PORST_N and the keys are derived. -/
def execKeySeed (seed : List Nat) (s : State) : Host.Outcome State Fault Refusal :=
  run (.keySeed seed) (keySeedEff seed) s

/-- KEY_SEED_TIMEOUT (R398): No KEY_SEED transfer within 10 ms of ready, raising KEY_SEED_RANGE. -/
def execKeySeedTimeout (s : State) : Host.Outcome State Fault Refusal :=
  run .keySeedTimeout keySeedLate s

/-- FUSE_MAP_TRANSFER (R399): A defect-map word transfers on FUSE and is checked against PHYS_TILES. -/
def execFuseMapTransfer (word : Word) (s : State) : Host.Outcome State Fault Refusal :=
  run (.fuseMapTransfer word) (fuseTransfer word) s

/-- FUSE_TIMEOUT (R399): A fuse-map transfer waits 2 us and the read stops with PORT_TIMEOUT. -/
def execFuseTimeout (s : State) : Host.Outcome State Fault Refusal :=
  run .fuseTimeout fuseLate s

/-- TAMPER_N (R440): A filtered low on TAMPER_N zeroises keys and permits and raises TAMPER. -/
def execTamperN (s : State) : Host.Outcome State Fault Refusal :=
  run .tamperN tamper s

/-- RAIL_OUT (R416): A rail has been outside its range for 1 us and takes its excursion effect. -/
def execRailOut (r : Nat) (s : State) : Host.Outcome State Fault Refusal :=
  run (.railOut r) (railLeaves r) s

/-- RAIL_IN (R414): A rail has been back in range for 10 us and is judged in range. -/
def execRailIn (r : Nat) (s : State) : Host.Outcome State Fault Refusal :=
  run (.railIn r) (railReturns r) s

/-- EMRAM_INTERLOCK (R415): A rail leaves its range and the interlock blocks eMRAM write steps within 200 ns. -/
def execEmramInterlock (s : State) : Host.Outcome State Fault Refusal :=
  run .emramInterlock interlock s

/-- CLUSTER_VDDC_OUT (R417): A cluster's VDDC goes out of range; its checkers are treated as lost and the requirement becomes STEP. -/
def execClusterVddcOut (k : Nat) (s : State) : Host.Outcome State Fault Refusal :=
  run (.clusterVddcOut k) (clusterLeaves k) s

/-- CLUSTER_VDDC_IN (R417): A cluster's VDDC returns in range; its checkers flush, resume and adoptions end. -/
def execClusterVddcIn (k : Nat) (s : State) : Host.Outcome State Fault Refusal :=
  run (.clusterVddcIn k) (clusterReturns k) s

/-- DROOP_WINDOW (R418): A 10 us droop window ends, and a minimum below DROOP_MV raises DROOP. -/
def execDroopWindow (mins : List (Nat × Nat)) (rails : List Nat) (s : State) : Host.Outcome State Fault Refusal :=
  run (.droopWindow mins rails) (droopWindow mins rails) s

/-- LOAD_CERT (R442): SEC_CMD LOAD_CERT reads and verifies the attestation certificate, setting CERT_OK. -/
def execSecLoadCert (cert : List Byte) (sigOk : Bool) (sig : List Byte) (rq : Acc) (s : State) : Host.Outcome State Fault Refusal :=
  run (.secLoadCert cert sigOk sig rq) (regCmd rq 0x0A0008 (cmdWord 1 []) (loadCert rq cert sigOk sig)) s

/-- COMMIT_STATE (R439): SEC_CMD COMMIT_STATE moves PROVISION to OPEN or SEALED. -/
def execSecCommitState (written : Bool) (rq : Acc) (s : State) : Host.Outcome State Fault Refusal :=
  run (.secCommitState written rq) (regCmd rq 0x0A0008 (cmdWord 2 []) (commitState rq written)) s

/-- SEAL (R439): SEC_CMD SEAL moves OPEN to SEALED and clears permits. -/
def execSecSeal (written : Bool) (rq : Acc) (s : State) : Host.Outcome State Fault Refusal :=
  run (.secSeal written rq) (regCmd rq 0x0A0008 (cmdWord 3 []) (sealCmd rq written)) s

/-- LOCK (R439): SEC_CMD LOCK moves to LOCKED and zeroises keys. -/
def execSecLock (written : Bool) (rq : Acc) (s : State) : Host.Outcome State Fault Refusal :=
  run (.secLock written rq) (regCmd rq 0x0A0008 (cmdWord 4 []) (lockCmd rq written)) s

/-- REPROVISION (R439): SEC_CMD REPROVISION returns a LOCKED device to PROVISION. -/
def execSecReprovision (written : Bool) (rq : Acc) (s : State) : Host.Outcome State Fault Refusal :=
  run (.secReprovision written rq) (regCmd rq 0x0A0008 (cmdWord 5 []) (reprovision rq written)) s

/-- ZEROISE (R447): SEC_CMD ZEROISE zeroises keys as TAMPER_N does, raising ZEROISED. -/
def execSecZeroise (rq : Acc) (s : State) : Host.Outcome State Fault Refusal :=
  run (.secZeroise rq) (regCmd rq 0x0A0008 (cmdWord 6 []) (zeroiseCmd rq)) s

/-- UNWRAP (R437): SEC_CMD UNWRAP takes the job key, in clear or from a wrapped blob. -/
def execSecUnwrap (blob : List Byte) (tagOk : Bool) (key : List Byte) (rq : Acc) (s : State) : Host.Outcome State Fault Refusal :=
  run (.secUnwrap blob tagOk key rq) (regCmd rq 0x0A0008 (cmdWord 7 []) (unwrapCmd rq blob tagOk key)) s

/-- LOAD_PERMIT (R446): SEC_CMD LOAD_PERMIT verifies a dump permit and holds it. -/
def execSecLoadPermit (permit : List Word) (sigOk : Bool) (rq : Acc) (s : State) : Host.Outcome State Fault Refusal :=
  run (.secLoadPermit permit sigOk rq) (regCmd rq 0x0A0008 (cmdWord 8 []) (loadPermit rq permit sigOk)) s

/-- CLEAR_PERMITS (R446): SEC_CMD CLEAR_PERMITS frees every held permit. -/
def execSecClearPermits (rq : Acc) (s : State) : Host.Outcome State Fault Refusal :=
  run (.secClearPermits rq) (regCmd rq 0x0A0008 (cmdWord 9 []) (clearPermits rq)) s

/-- HUSK_DONE (R445): A husk part is fully encrypted and written, with its tag. -/
def execHuskDone (s : State) : Host.Outcome State Fault Refusal :=
  run .huskDone huskDone s

end Sys2Proof.Machine
end

