-- ==== Sys2Proof/Machine/ExecFault.lean ====
section
/-! DEFINITION. The commands of the mode arbiter, the fault collector, the ladder, the stop and the search. -/
namespace Sys2Proof.Machine

/-- MODE_LEVEL_REQ_WRITE (R243): A secure write sets requested levels per engine class, with DECODE demotion and encoding checks. -/
def execModeLevelReqWrite (value : Word) (rq : Acc) (s : State) : Host.Outcome State Fault Refusal :=
  run (.modeLevelReqWrite value rq) (regCmd rq 0x001108 value (levelReqWrite rq value)) s

/-- QUIESCE (R250): MODE_CMD QUIESCE moves the power state to QUIESCE with throttles at 255. -/
def execModeQuiesce (rq : Acc) (s : State) : Host.Outcome State Fault Refusal :=
  run (.modeQuiesce rq) (regCmd rq 0x001120 (cmdWord 1 []) (modeCmd rq 1)) s

/-- MODE_RESUME (R250): MODE_CMD RESUME returns from QUIESCE to RUN or THROTTLE under the thermal law. -/
def execModeResume (rq : Acc) (s : State) : Host.Outcome State Fault Refusal :=
  run (.modeResume rq) (regCmd rq 0x001120 (cmdWord 2 []) (modeCmd rq 2)) s

/-- MODE_REFUSED_ACK (R255): Writing the held SEQ consumes MODE_REFUSED. -/
def execModeRefusedAck (value : Word) (rq : Acc) (s : State) : Host.Outcome State Fault Refusal :=
  run (.modeRefusedAck value rq) (regCmd rq 0x001130 value (writeGlobal rq 0x1130 value)) s

/-- REACTION_TIMER_EXPIRY (R263): A class reaction timer expires and the ACTION rung is requested for its target. -/
def execReactionTimerExpiry (cls : Nat) (s : State) : Host.Outcome State Fault Refusal :=
  run (.reactionTimerExpiry cls) (fun s => reactExpires s cls) s

/-- FAULT_PENDING_WRITE (R266): A secure W1C write clears WARN and ERROR pending bits and stops their reaction timers. -/
def execFaultPendingWrite (value : Word) (rq : Acc) (s : State) : Host.Outcome State Fault Refusal :=
  run (.faultPendingWrite value rq) (regCmd rq 0x010008 value (pendingWrite rq value)) s

/-- FAULT_FIRST_ACK (R260): Writing the held SEQ consumes the first-error record. -/
def execFaultFirstAck (value : Word) (rq : Acc) (s : State) : Host.Outcome State Fault Refusal :=
  run (.faultFirstAck value rq) (regCmd rq 0x010028 value (firstAck rq value)) s

/-- ESCALATE (R271): FAULT_CMD ESCALATE requests the named rung for the named target. -/
def execFaultEscalate (value : Word) (rq : Acc) (s : State) : Host.Outcome State Fault Refusal :=
  run (.faultEscalate value rq) (regCmd rq 0x010040 value (faultCmd rq value)) s

/-- FAULT_INJECT (R272): A write to FAULT_INJECT raises the written code with access type INJECT. -/
def execFaultInject (value : Word) (rq : Acc) (s : State) : Host.Outcome State Fault Refusal :=
  run (.faultInject value rq) (regCmd rq 0x010048 value (injectCmd rq value)) s

/-- COLLECTOR_PARITY (R268): A parity error or copy disagreement in the collector is found, and the safe state is entered. -/
def execCollectorParity (s : State) : Host.Outcome State Fault Refusal :=
  run .collectorParity collectorParity s

/-- COLLECTOR_GRANT_TIMEOUT (R268): A capture is not granted within 2 us, raising COLLECTOR_MISMATCH and entering the safe state. -/
def execCollectorGrantTimeout (cap : Cap) (s : State) : Host.Outcome State Fault Refusal :=
  run (.collectorGrantTimeout cap) (captureLost snapReg cap) s

/-- ENG_RST_ACK (R280): An engine or context reset acknowledgement echoing the request completes the CONTEXT or ENGINE rung. -/
def execEngRstAck (scope : Nat) (id : Nat) (s : State) : Host.Outcome State Fault Refusal :=
  run (.engRstAck scope id) (engRstAckEff scope id) s

/-- PART_RST_ACK (R280): A partition reset acknowledgement completes the PARTITION rung and resets its checkers. -/
def execPartRstAck (part : Nat) (trained : List Nat) (s : State) : Host.Outcome State Fault Refusal :=
  run (.partRstAck part trained) (partRstAckEff part trained) s

/-- RESET_ENG_TIMEOUT (R280): A CONTEXT or ENGINE rung is not acknowledged in 10 ms and is promoted. -/
def execResetEngTimeout (s : State) : Host.Outcome State Fault Refusal :=
  run .resetEngTimeout resetEngLate s

/-- RESET_PART_TIMEOUT (R280): A PARTITION rung is not acknowledged in 100 ms and is promoted to CHIP. -/
def execResetPartTimeout (s : State) : Host.Outcome State Fault Refusal :=
  run .resetPartTimeout resetPartLate s

/-- RESET_CHIP_TIMEOUT (R284): BLK_RST_N is not asserted within 1 s of CHIP_RST_REQ and the POWER rung follows. -/
def execResetChipTimeout (s : State) : Host.Outcome State Fault Refusal :=
  run .resetChipTimeout resetChipLate s

/-- RST_REQ_NOT_TAKEN (R401): A reset request is not taken within 2 us; PORT_TIMEOUT is raised and the request stays offered. -/
def execRstReqNotTaken (group : Nat) (s : State) : Host.Outcome State Fault Refusal :=
  run (.rstReqNotTaken group) (rstNotTaken group) s

/-- CRASH_DUMP_END (R294): The crash rung's smear dump ends, within 20 ms, and CHIP_RST_REQ or the POWER request follows. -/
def execCrashDumpEnd (cut : Bool) (s : State) : Host.Outcome State Fault Refusal :=
  run (.crashDumpEnd cut) (crashDumpEnd cut) s

/-- POWER_CYCLE_ACK (R285): The tray controller acknowledges the power-cycle request and PWRCYC_REQ_N is asserted. -/
def execPowerCycleAck (s : State) : Host.Outcome State Fault Refusal :=
  run .powerCycleAck powerCycleAckEff s

/-- TRAY_ACK_TIMEOUT (R285): 100 ms pass without the tray acknowledgement and PWRCYC_REQ_N is asserted anyway. -/
def execTrayAckTimeout (s : State) : Host.Outcome State Fault Refusal :=
  run .trayAckTimeout trayLate s

/-- BLK_RST_N_ASSERT (R284): BLK_RST_N is asserted; the spine enters reset and the CHIP timer stops. -/
def execBlkRstAssert (s : State) : Host.Outcome State Fault Refusal :=
  run .blkRstAssert blkAssert s

/-- BLK_RST_N_RELEASE (R284): BLK_RST_N is released; the chip-level reset completes and the spine restarts. -/
def execBlkRstRelease (strap : Bool) (s : State) : Host.Outcome State Fault Refusal :=
  run (.blkRstRelease strap) (blkRelease strap) s

/-- PORST_N_ASSERT (R250): PORST_N is asserted and the whole block resets. -/
def execPorstAssert (s : State) : Host.Outcome State Fault Refusal :=
  run .porstAssert porstAssert s

/-- PORST_N_RELEASE (R253): PORST_N is released; every axis takes its value after PORST_N and key_seed_ready rises. -/
def execPorstRelease (strap : Bool) (s : State) : Host.Outcome State Fault Refusal :=
  run (.porstRelease strap) (porstRelease strap) s

/-- HANG_EVENT_ACK (R297): Writing the held SEQ consumes HANG_EVENT. -/
def execHangEventAck (value : Word) (rq : Acc) (s : State) : Host.Outcome State Fault Refusal :=
  run (.hangEventAck value rq) (regCmd rq 0x001228 value (hangAck rq value)) s

/-- STOP_ACK (R297): Writing the held SEQ consumes STOP_STATUS. -/
def execStopAck (value : Word) (rq : Acc) (s : State) : Host.Outcome State Fault Refusal :=
  run (.stopAck value rq) (regCmd rq 0x001240 value (stopAck rq value)) s

/-- LADDER_STOP (R291): LADDER_CMD STOP starts a global stop and QUIESCE. -/
def execLadderStop (rq : Acc) (s : State) : Host.Outcome State Fault Refusal :=
  run (.ladderStop rq) (regCmd rq 0x001208 (cmdWord 1 []) (ladderStop rq)) s

/-- STOP_TIMEOUT (R292): STOP_TIMEOUT after STOP, the dump is written as a cut or a smear. -/
def execStopTimeout (s : State) : Host.Outcome State Fault Refusal :=
  run .stopTimeout stopTimeout s

/-- DUMP_WRITTEN (R293): The dump and its index are written, the stop ends and its result is posted. -/
def execDumpWritten (s : State) : Host.Outcome State Fault Refusal :=
  run .dumpWritten dumpWritten s

/-- SEARCH_REPLAY (R286): LADDER_CMD SEARCH_REPLAY starts the solo replay of one suspect at forced AUDIT. -/
def execSearchReplay (value : Word) (rq : Acc) (s : State) : Host.Outcome State Fault Refusal :=
  run (.searchReplay value rq) (regCmd rq 0x001208 (setFld value 63 60 2) (searchReplay rq value)) s

/-- SEARCH_DONE (R287): LADDER_CMD SEARCH_DONE ends a suspect replay and decides its result. -/
def execSearchDone (rq : Acc) (s : State) : Host.Outcome State Fault Refusal :=
  run (.searchDone rq) (regCmd rq 0x001208 (cmdWord 3 []) (searchDone rq)) s

/-- SEARCH_END (R296): LADDER_CMD SEARCH_END ends the search as ABANDONED and starts the next queued search. -/
def execSearchEnd (rq : Acc) (s : State) : Host.Outcome State Fault Refusal :=
  run (.searchEnd rq) (regCmd rq 0x001208 (cmdWord 4 []) (searchEnd rq)) s

end Sys2Proof.Machine
end

