-- ==== Sys2Proof/Machine/ExecMirror.lean ====
section
/-! DEFINITION. The commands of the partner link, the mirror and the pull. -/
namespace Sys2Proof.Machine

/-- MIRROR_CHECK_ACK (R202): Writing the held SEQ consumes MIRROR_CHECK. -/
def execMirrorCheckAck (value : Word) (rq : Acc) (s : State) : Host.Outcome State Fault Refusal :=
  run (.mirrorCheckAck value rq) (regCmd rq 0x060058 value (mirCheckAck value)) s

/-- PAIR (R182): MIRROR_CMD PAIR starts the partner link from DOWN, sending HELLO every 1 ms. -/
def execMelPair (arg : Nat) (rq : Acc) (s : State) : Host.Outcome State Fault Refusal :=
  run (.melPair arg rq) (regCmd rq 0x060010 (cmdWord 1 [(0, 32, arg)]) (unlessSafe rq 0x060010 1 (pairCmd rq arg))) s

/-- REPAIR (R183): MIRROR_CMD REPAIR returns a MISWIRED or INCOMPATIBLE link to HELLO. -/
def execMelRepair (rq : Acc) (s : State) : Host.Outcome State Fault Refusal :=
  run (.melRepair rq) (regCmd rq 0x060010 (cmdWord 2 []) (unlessSafe rq 0x060010 2 (repairCmd rq))) s

/-- UNPAIR (R182): MIRROR_CMD UNPAIR takes the link to DOWN and zeroises the pair keys. -/
def execMelUnpair (rq : Acc) (s : State) : Host.Outcome State Fault Refusal :=
  run (.melUnpair rq) (regCmd rq 0x060010 (cmdWord 3 []) (unlessSafe rq 0x060010 3 unpairCmd)) s

/-- PULL (R196): MIRROR_CMD PULL makes a sprout request the shard of a held step from its partner. -/
def execMelPull (arg : Nat) (shards : List Shard) (rq : Acc) (s : State) : Host.Outcome State Fault Refusal :=
  run (.melPull arg shards rq)
    (regCmd rq 0x060010 (cmdWord 4 [(0, 32, arg)]) (unlessSafe rq 0x060010 4 (pullCmd rq arg shards))) s

/-- ABORT_PULL (R201): MIRROR_CMD ABORT_PULL stops a running pull, leaving PULL_DONE at 0. -/
def execMelAbortPull (rq : Acc) (s : State) : Host.Outcome State Fault Refusal :=
  run (.melAbortPull rq) (regCmd rq 0x060010 (cmdWord 5 []) (unlessSafe rq 0x060010 5 (abortPull rq))) s

/-- HELLO (R179): A received HELLO goes through the pairing checks and moves the link to KEYING or MISWIRED/INCOMPATIBLE. -/
def execMelHello (hello : Hello) (nbrId : Option Nat) (s : State) : Host.Outcome State Fault Refusal :=
  run (.melHello hello nbrId) (helloGot hello nbrId) s

/-- KEY (R181): Slot 1 receives the ML-KEM ciphertext and derives the direction keys. -/
def execMelKey (ct : Nat) (pairSeq : Nat) (tagOk : Bool) (s : State) : Host.Outcome State Fault Refusal :=
  run (.melKey ct pairSeq tagOk) (keyGot ct pairSeq tagOk) s

/-- FINISH (R181): A FINISH message is checked, and the link becomes PAIRED when both are checked. -/
def execMelFinish (pairSeq : Nat) (tagOk : Bool) (transcriptOk : Bool) (s : State) : Host.Outcome State Fault Refusal :=
  run (.melFinish pairSeq tagOk transcriptOk) (finishGot pairSeq tagOk transcriptOk) s

/-- BEAT (R182): A partner BEAT is accepted while PAIRED, restarting the link-loss watch. -/
def execMelBeat (phase : Nat) (step : Nat) (pairSeq : Nat) (tagOk : Bool) (s : State) : Host.Outcome State Fault Refusal :=
  run (.melBeat phase step pairSeq tagOk) (beatGot pairSeq tagOk) s

/-- NOTICE (R185): A partner's micro-batch notice is stored encrypted in the receive area. -/
def execMelNotice (step : Nat) (mb : Nat) (words : List Word) (pairSeq : Nat) (tagOk : Bool) (s : State) : Host.Outcome State Fault Refusal :=
  run (.melNotice step mb words pairSeq tagOk) (noticeGot step mb words pairSeq tagOk) s

/-- COMMITTED (R187): The partner's COMMITTED message arrives and the post-commit check of the step is decided. -/
def execMelCommitted (com : Committed) (pairSeq : Nat) (tagOk : Bool) (s : State) : Host.Outcome State Fault Refusal :=
  run (.melCommitted com pairSeq tagOk) (committedGot com pairSeq tagOk) s

/-- NOT_COMMITTED (R187): The partner reports a non-commit decision, and the check of the step fails. -/
def execMelNotCommitted (step : Nat) (decision : Nat) (pairSeq : Nat) (tagOk : Bool) (s : State) : Host.Outcome State Fault Refusal :=
  run (.melNotCommitted step decision pairSeq tagOk) (notCommittedGot step pairSeq tagOk) s

/-- AUDIT_SIG (R189): A partner signature of a UPD operation is compared with the instance's own. -/
def execMelAuditSig (id : OpId) (sig : Word) (pairSeq : Nat) (tagOk : Bool) (s : State) : Host.Outcome State Fault Refusal :=
  run (.melAuditSig id sig pairSeq tagOk) (auditGot id sig pairSeq tagOk) s

/-- COPY_CHUNK (R192): An inbound state chunk is checked, re-encrypted under the storage key and written to the receive slot. -/
def execCopyChunk (step : Nat) (chunk : Nat) (bytes : List Byte) (pairSeq : Nat) (tagOk : Bool) (s : State) : Host.Outcome State Fault Refusal :=
  run (.copyChunk step chunk bytes pairSeq tagOk) (chunkGot step chunk bytes pairSeq tagOk) s

/-- COPY_ACK (R191): The receiver acknowledges a chunk of the outbound copy. -/
def execCopyAck (step : Nat) (chunk : Nat) (pairSeq : Nat) (tagOk : Bool) (s : State) : Host.Outcome State Fault Refusal :=
  run (.copyAck step chunk pairSeq tagOk) (ackGot step chunk pairSeq tagOk) s

/-- COPY_NACK (R191): The receiver refuses a chunk, and the sender sends it again or abandons the copy. -/
def execCopyNack (step : Nat) (chunk : Nat) (pairSeq : Nat) (tagOk : Bool) (s : State) : Host.Outcome State Fault Refusal :=
  run (.copyNack step chunk pairSeq tagOk) (nackGot step chunk pairSeq tagOk) s

/-- COPY_END (R192): The sender's digest arrives; the filled slot becomes the held copy or is discarded. -/
def execCopyEnd (step : Nat) (chunks : Nat) (digest : Nat) (pairSeq : Nat) (tagOk : Bool) (s : State) : Host.Outcome State Fault Refusal :=
  run (.copyEnd step chunks digest pairSeq tagOk) (endGot step chunks digest pairSeq tagOk) s

/-- COPY_DONE (R193): The receiver confirms the outbound copy's digest, completing the sender's side of the check. -/
def execCopyDone (step : Nat) (digest : Nat) (pairSeq : Nat) (tagOk : Bool) (s : State) : Host.Outcome State Fault Refusal :=
  run (.copyDone step digest pairSeq tagOk) (doneGot step digest pairSeq tagOk) s

/-- PULL_REQ (R196): The partner serves a sprout's pull request, or answers PULL_REFUSE. -/
def execPullReq (step : Nat) (lens : List Nat) (pairSeq : Nat) (tagOk : Bool) (s : State) : Host.Outcome State Fault Refusal :=
  run (.pullReq step lens pairSeq tagOk) (pullReqGot step lens pairSeq tagOk) s

/-- PULL_CHUNK (R196): The sprout writes a pulled chunk to the epoch-0 addresses of its shard list. -/
def execPullChunk (step : Nat) (chunk : Nat) (bytes : List Byte) (pairSeq : Nat) (tagOk : Bool) (s : State) : Host.Outcome State Fault Refusal :=
  run (.pullChunk step chunk bytes pairSeq tagOk) (pullChunkGot step chunk bytes pairSeq tagOk) s

/-- PULL_END (R197): The pull's final digest arrives and the sprout sets PULL_DONE if it matches. -/
def execPullEnd (step : Nat) (chunks : Nat) (digest : Nat) (notices : List Notice) (pairSeq : Nat) (tagOk : Bool) (s : State) : Host.Outcome State Fault Refusal :=
  run (.pullEnd step chunks digest notices pairSeq tagOk) (pullEndGot step chunks digest notices pairSeq tagOk) s

/-- PULL_REFUSE (R196): The partner refuses the pull; the sprout sets PULL_FAILED and raises MIRROR_PULL_FAIL. -/
def execPullRefuse (cause : Nat) (pairSeq : Nat) (tagOk : Bool) (s : State) : Host.Outcome State Fault Refusal :=
  run (.pullRefuse cause pairSeq tagOk) (pullRefused cause pairSeq tagOk) s

/-- HELLO_TIMER (R182): The 1 ms HELLO interval elapses in state HELLO and a HELLO is sent. -/
def execHelloTimer (s : State) : Host.Outcome State Fault Refusal :=
  run .helloTimer helloSend s

/-- BEAT_TIMER (R182): The 1 ms BEAT interval elapses while PAIRED and a BEAT is sent. -/
def execBeatTimer (s : State) : Host.Outcome State Fault Refusal :=
  run .beatTimer beatSend s

/-- MEL_PAIR_TIMEOUT (R182): 10 s pass in HELLO without an acceptable HELLO, and the link returns to DOWN. -/
def execMelPairTimeout (s : State) : Host.Outcome State Fault Refusal :=
  run .melPairTimeout pairTimeout s

/-- KEYING_TIMEOUT (R182): KEYING does not complete in 5 ms; it retries, or goes to MISWIRED on the third try. -/
def execKeyingTimeout (s : State) : Host.Outcome State Fault Refusal :=
  run .keyingTimeout keyingTimeoutEff s

/-- MEL_LINK_LOST (R182): 5 ms pass without an accepted message while PAIRED; the link goes LOST and keys are zeroised. -/
def execMelLinkLost (s : State) : Host.Outcome State Fault Refusal :=
  run .melLinkLost linkLost s

/-- CHUNK_ACK_TIMEOUT (R191): A chunk is not acknowledged within 5 ms; it is sent again or the copy is abandoned. -/
def execChunkAckTimeout (s : State) : Host.Outcome State Fault Refusal :=
  run .chunkAckTimeout chunkFailed s

/-- MIRROR_CHECK_TIMEOUT (R187): The partner's COMMITTED or first chunk does not arrive in time, and the check fails. -/
def execMirrorCheckTimeout (s : State) : Host.Outcome State Fault Refusal :=
  run .mirrorCheckTimeout checkTimeout s

/-- COPY_GAP_TIMEOUT (R193): More than 20 ms pass without an accepted chunk during an inbound copy, and the check fails. -/
def execCopyGapTimeout (s : State) : Host.Outcome State Fault Refusal :=
  run .copyGapTimeout gapTimeout s

end Sys2Proof.Machine
end

