-- ==== Sys2Proof/Machine/ExecObs.lean ====
section
/-! DEFINITION. The commands of observability and of the sideband. -/
namespace Sys2Proof.Machine

/-- OBS_DUMP_RESULT_ACK (R484): Writing the held SEQ consumes OBS_DUMP_RESULT. -/
def execObsDumpResultAck (value : Word) (rq : Acc) (s : State) : Host.Outcome State Fault Refusal :=
  run (.obsDumpResultAck value rq) (regCmd rq 0x0B0048 value (writeObs rq 0x0B0048 value)) s

/-- CLEAR_START (R474): OBS_CNT_CMD CLEAR_START zeroes and starts counters under a new TAG. -/
def execCntClearStart (scope : Nat) (tag : Nat) (target : Nat) (rq : Acc) (s : State) : Host.Outcome State Fault Refusal :=
  run (.cntClearStart scope tag target rq)
    (regCmd rq 0x0B0000 (cmdWord 1 [(56, 4, scope), (32, 16, tag), (0, 16, target)]) (cntCmd rq 1 scope tag target)) s

/-- CNT_FREEZE (R474): OBS_CNT_CMD FREEZE stops counters under a new TAG. -/
def execCntFreeze (scope : Nat) (tag : Nat) (target : Nat) (rq : Acc) (s : State) : Host.Outcome State Fault Refusal :=
  run (.cntFreeze scope tag target rq)
    (regCmd rq 0x0B0000 (cmdWord 2 [(56, 4, scope), (32, 16, tag), (0, 16, target)]) (cntCmd rq 2 scope tag target)) s

/-- CNT_RUN (R474): OBS_CNT_CMD RUN resumes counters under a new TAG. -/
def execCntRun (scope : Nat) (tag : Nat) (target : Nat) (rq : Acc) (s : State) : Host.Outcome State Fault Refusal :=
  run (.cntRun scope tag target rq)
    (regCmd rq 0x0B0000 (cmdWord 3 [(56, 4, scope), (32, 16, tag), (0, 16, target)]) (cntCmd rq 3 scope tag target)) s

/-- CNT_CMD_DONE (R474): Every tile of the scope has applied the counter command and BUSY clears. -/
def execCntCmdDone (s : State) : Host.Outcome State Fault Refusal :=
  run .cntCmdDone cntDone s

/-- OBS_RING_SEL (R478): A write to OBS_RING_SEL loads eight ring entries of a tile. -/
def execObsRingSel (value : Word) (rq : Acc) (s : State) : Host.Outcome State Fault Refusal :=
  run (.obsRingSel value rq) (regCmd rq 0x0B0010 value (ringSel rq value)) s

/-- DUMP_ARM (R480): OBS_DUMP_CMD ARM reads a dump list and holds its entries. -/
def execDumpArm (list : List Word) (rq : Acc) (s : State) : Host.Outcome State Fault Refusal :=
  run (.dumpArm list rq) (regCmd rq 0x0B0038 (cmdWord 1 []) (dumpArmCmd rq list)) s

/-- DUMP_CANCEL (R482): OBS_DUMP_CMD CANCEL discards entries not yet fired. -/
def execDumpCancel (rq : Acc) (s : State) : Host.Outcome State Fault Refusal :=
  run (.dumpCancel rq) (regCmd rq 0x0B0038 (cmdWord 2 []) (dumpCancelCmd rq)) s

/-- STATUS_REQUEST (R402): The tray controller requests STATUS over MCTP and the block answers. -/
def execStatusRequest (s : State) : Host.Outcome State Fault Refusal :=
  run .statusRequest statusRequestEff s

/-- MCTP_CONTROL (R402): An MCTP control command is served on the TRAY endpoint. -/
def execMctpControl (cmd : MctpCtl) (arg : Nat) (s : State) : Host.Outcome State Fault Refusal :=
  run (.mctpControl cmd arg) (mctpControlEff cmd arg) s

/-- I3C_CCC (R402): An I3C common command code is served by the TRAY target. -/
def execI3cCcc (code : Ccc) (arg : Nat) (s : State) : Host.Outcome State Fault Refusal :=
  run (.i3cCcc code arg) (i3cCccEff code arg) s

/-- IDCODE (R406): JTAG instruction IDCODE selects the identification register. -/
def execJtagIdcode (s : State) : Host.Outcome State Fault Refusal :=
  run .jtagIdcode (jtagLoad 0x01) s

/-- IJTAG_ACCESS (R406): JTAG instruction IJTAG_ACCESS selects the IEEE 1687 network. -/
def execJtagAccess (s : State) : Host.Outcome State Fault Refusal :=
  run .jtagAccess (jtagLoad 0x20) s

/-- BYPASS (R406): JTAG instruction BYPASS, or any other code, selects the bypass register. -/
def execJtagBypass (s : State) : Host.Outcome State Fault Refusal :=
  run .jtagBypass (jtagLoad 0xFF) s

/-- INSTRUMENT_INCLUDE (R444): An attempt to include an IEEE 1687 instrument, refused for disabled instruments with SEC_ACCESS_DENIED. -/
def execInstrumentInclude (inst : Instrument) (s : State) : Host.Outcome State Fault Refusal :=
  run (.instrumentInclude inst) (instrInclude inst) s

end Sys2Proof.Machine
end

