-- ==== Sys2Proof/Machine/ExecPort.lean ====
section
/-! DEFINITION. The commands of the mailboxes, KRP and NET. -/
namespace Sys2Proof.Machine

/-- MB_IN_PTR (R365): A write to MB_IN_PTR posts an inbound message with the staged epoch. At the offset that a ninth channel would
have stands MB_BLOCK_EPOCH, which ignores writes (R9, R375). -/
def execMbInPtr (ch : Nat) (value : Word) (rq : Acc) (s : State) : Host.Outcome State Fault Refusal :=
  run (.mbInPtr ch value rq) (regCmd rq (0x030000 + 0x100 * ch) value (onChannel ch (mbInPost rq ch value))) s

/-- MB_IN_DB (R368): A W1S write sets inbound doorbells and signals SQ3. -/
def execMbInDb (ch : Nat) (value : Word) (rq : Acc) (s : State) : Host.Outcome State Fault Refusal :=
  run (.mbInDb ch value rq) (regCmd rq (0x030020 + 0x100 * ch) value (mbInDbSet rq ch value)) s

/-- MB_IN_RX_DONE (R369): A sequencer writes the consumed inbound SEQ, emptying the slot. -/
def execMbInRxDone (ch : Nat) (value : Word) (core : Nat) (s : State) : Host.Outcome State Fault Refusal :=
  run (.mbInRxDone ch value core) (seqMail ch core (mbInRx (seqAcc core) ch value)) s

/-- MB_IN_DB_CLR (R369): A sequencer clears inbound doorbells. -/
def execMbInDbClr (ch : Nat) (value : Word) (core : Nat) (s : State) : Host.Outcome State Fault Refusal :=
  run (.mbInDbClr ch value core) (seqMail ch core (mbInDbClear (seqAcc core) ch value)) s

/-- MB_OUT_RX_DONE (R366): The host writes the consumed outbound SEQ, emptying the slot and signalling SQ3. -/
def execMbOutRxDone (ch : Nat) (value : Word) (rq : Acc) (s : State) : Host.Outcome State Fault Refusal :=
  run (.mbOutRxDone ch value rq) (regCmd rq (0x030050 + 0x100 * ch) value (mbOutRx rq ch value)) s

/-- MB_OUT_DB (R368): A W1C write by the host clears outbound doorbells and may lower IRQ_S or IRQ_NS. -/
def execMbOutDb (ch : Nat) (value : Word) (rq : Acc) (s : State) : Host.Outcome State Fault Refusal :=
  run (.mbOutDb ch value rq) (regCmd rq (0x030058 + 0x100 * ch) value (mbOutDbClear rq ch value)) s

/-- COLLISION_CLEAR (R367): A W1C write clears a slot's COLLISION bit. -/
def execCollisionClear (ch : Nat) (outbound : Bool) (value : Word) (rq : Acc) (s : State) : Host.Outcome State Fault Refusal :=
  run (.collisionClear ch outbound value rq)
    (regCmd rq (0x030010 + 0x38 * b2n outbound + 0x100 * ch) value (mbCollClear rq ch outbound value)) s

/-- OUT_ACK_WAIT_TIMEOUT (R371): The block has waited 10 ms for an outbound acknowledgement and continues without it. -/
def execOutAckWaitTimeout (ch : Nat) (s : State) : Host.Outcome State Fault Refusal :=
  run (.outAckWaitTimeout ch) (outWaitEnds ch) s

/-- KRP_REQUEST (R388): A KRP request is granted and answered OK, DENIED, NOREG or TIMEOUT. -/
def execKrpRequest (id : Nat) (addr : Nat) (write : Bool) (data : Word) (secure : Bool) (s : State) :
    Host.Outcome State Fault Refusal :=
  run (.krpRequest id addr write data secure) (krpRequestEff ⟨id, secure⟩ addr write data) s

/-- KRP_GRANT_TIMEOUT (R388): A KRP target does not grant within 2 us; the access answers TIMEOUT with PORT_TIMEOUT. -/
def execKrpGrantTimeout (id : Nat) (addr : Nat) (write : Bool) (data : Word) (secure : Bool) (s : State) :
    Host.Outcome State Fault Refusal :=
  run (.krpGrantTimeout id addr write data secure) (krpGrantLate ⟨id, secure⟩ addr write) s

/-- KRP_RSP_TIMEOUT (R388): A KRP response is not taken within 2 us and is discarded with PORT_TIMEOUT. -/
def execKrpRspTimeout (s : State) : Host.Outcome State Fault Refusal :=
  run .krpRspTimeout krpRspLate s

/-- REGISTER_WRITE (R9): A write to a register that has no row of its own acts under its access code. -/
def execRegisterWrite (addr : Nat) (data : Word) (rq : Acc) (s : State) : Host.Outcome State Fault Refusal :=
  run (.registerWrite addr data rq) (krpRequestEff rq addr true data) s

/-- NET_ACK (R391): A NET delivery acknowledgement arrives; UNREACHABLE raises NET_ERROR. -/
def execNetAck (tag : Nat) (unreachable : Bool) (s : State) : Host.Outcome State Fault Refusal :=
  run (.netAck tag unreachable) (netAckEff tag unreachable) s

/-- NET_TIMEOUT (R391): A transmitted NET message is unacknowledged after 5 ms. -/
def execNetTimeout (tag : Nat) (s : State) : Host.Outcome State Fault Refusal :=
  run (.netTimeout tag) (netLate tag) s

/-- NET_BEAT_TIMEOUT (R391): A NET beat is held not ready for 2 us, and the message is abandoned with PORT_TIMEOUT. -/
def execNetBeatTimeout (tag : Nat) (s : State) : Host.Outcome State Fault Refusal :=
  run (.netBeatTimeout tag) (netBeatLate tag) s

end Sys2Proof.Machine
end

