-- ==== Sys2Proof/Machine/ExecQrs.lean ====
section
/-! DEFINITION. The commands of quarantine, spares, field tests and bring-up. -/
namespace Sys2Proof.Machine

/-- QRS_EVENT_ACK (R231): Writing the held SEQ consumes QRS_EVENT. -/
def execQrsEventAck (value : Word) (rq : Acc) (s : State) : Host.Outcome State Fault Refusal :=
  run (.qrsEventAck value rq) (regCmd rq 0x090028 value (qrsAck value)) s

/-- FENCE (R217): QRS_CMD FENCE quarantines a logical number with reason HOST_CMD. -/
def execQrsFence (logical : Nat) (tag : Nat) (rq : Acc) (s : State) : Host.Outcome State Fault Refusal :=
  run (.qrsFence logical tag rq)
    (regCmd rq 0x090008 (cmdWord 1 [(32, 16, tag), (0, 16, logical)]) (unlessSafe rq 0x090008 1 (qrsFence rq logical tag))) s

/-- STRUCT (R210): QRS_CMD STRUCT starts a structural test of a position. -/
def execQrsStruct (tile : Nat) (tag : Nat) (rq : Acc) (s : State) : Host.Outcome State Fault Refusal :=
  run (.qrsStruct tile tag rq)
    (regCmd rq 0x090008 (cmdWord 2 [(32, 16, tag), (0, 16, tile)]) (unlessSafe rq 0x090008 2 (qrsStruct rq tile tag))) s

/-- SELFTEST (R215): QRS_CMD SELFTEST starts a checker self-test of a position. -/
def execQrsSelftest (tile : Nat) (tag : Nat) (rq : Acc) (s : State) : Host.Outcome State Fault Refusal :=
  run (.qrsSelftest tile tag rq)
    (regCmd rq 0x090008 (cmdWord 3 [(32, 16, tag), (0, 16, tile)]) (unlessSafe rq 0x090008 3 (qrsSelftest rq tile tag))) s

/-- RETURN_CHECKER (R225): QRS_CMD RETURN_CHECKER runs a self-test on a FAILED checker to return it to service. -/
def execQrsReturnChecker (tile : Nat) (tag : Nat) (rq : Acc) (s : State) : Host.Outcome State Fault Refusal :=
  run (.qrsReturnChecker tile tag rq)
    (regCmd rq 0x090008 (cmdWord 4 [(32, 16, tag), (0, 16, tile)]) (unlessSafe rq 0x090008 4 (qrsReturn rq tile tag))) s

/-- RECONCILE (R227): QRS_CMD RECONCILE judges every position from fuses, tests and overrides and assigns logical numbers and spares. -/
def execQrsReconcile (word : QrsWord) (rq : Acc) (s : State) : Host.Outcome State Fault Refusal :=
  run (.qrsReconcile word rq)
    (regCmd rq 0x090008 (cmdWord 5 [(32, 16, word.tag), (0, 16, word.tile)]) (unlessSafe rq 0x090008 5 (qrsReconcile rq word.tile word.tag))) s

/-- QRS_CANCEL (R230): QRS_CMD CANCEL stops the running STRUCT, SELFTEST or RETURN_CHECKER with ABORTED. -/
def execQrsCancel (word : QrsWord) (rq : Acc) (s : State) : Host.Outcome State Fault Refusal :=
  run (.qrsCancel word rq)
    (regCmd rq 0x090008 (cmdWord 6 [(32, 16, word.tag), (0, 16, word.tile)]) (unlessSafe rq 0x090008 6 (qrsCancel rq word.tile word.tag))) s

/-- STRUCT_TEST_DONE (R209): A structural test finishes; its signature is compared and a FAIL quarantines the position. -/
def execStructTestDone (pos : Nat) (responses : List (BitVec 32)) (s : State) : Host.Outcome State Fault Refusal :=
  run (.structTestDone pos responses) (structDone pos responses) s

/-- STRUCT_TEST_TIMEOUT (R209): A structural test passes STRUCT_TIMEOUT and ends with TIMEOUT. -/
def execStructTestTimeout (pos : Nat) (s : State) : Host.Outcome State Fault Refusal :=
  run (.structTestTimeout pos) (fun s => structEnds s pos 4) s

/-- SELFTEST_DONE (R214): A checker self-test finishes, passing or making the checker FAILED. -/
def execSelftestDone (pos : Nat) (clean injected : List Nat) (s : State) : Host.Outcome State Fault Refusal :=
  run (.selftestDone pos clean injected) (selfDone pos clean injected) s

/-- SELFTEST_TIMEOUT (R215): A self-test passes SELFTEST_TIMEOUT and ends INCOMPLETE. -/
def execSelftestTimeout (pos : Nat) (s : State) : Host.Outcome State Fault Refusal :=
  run (.selftestTimeout pos) (fun s => selfEnds s pos 6 0) s

/-- SPARE_TEST_INTERVAL (R210): SPARE_INTERVAL elapses and automatic tests of a spare start. -/
def execSpareTestInterval (pos : Nat) (s : State) : Host.Outcome State Fault Refusal :=
  run (.spareTestInterval pos) (spareInterval pos) s

/-- RISER_TRAIN (R464): BRINGUP_CMD RISER_TRAIN trains every riser that is down. -/
def execRiserTrain (rq : Acc) (s : State) : Host.Outcome State Fault Refusal :=
  run (.riserTrain rq) (regCmd rq 0x001300 (cmdWord 1 []) (riserTrain rq)) s

/-- FUSE_READ (R464): BRINGUP_CMD FUSE_READ reads the fuse map again. -/
def execFuseRead (rq : Acc) (s : State) : Host.Outcome State Fault Refusal :=
  run (.fuseRead rq) (regCmd rq 0x001300 (cmdWord 2 []) (fuseReadCmd rq)) s

/-- SELFTEST_ALL (R464): BRINGUP_CMD SELFTEST_ALL runs the self-test on every checker. -/
def execSelftestAll (rq : Acc) (s : State) : Host.Outcome State Fault Refusal :=
  run (.selftestAll rq) (regCmd rq 0x001300 (cmdWord 3 []) (selftestAllCmd rq)) s

/-- STRUCT_ALL (R464): BRINGUP_CMD STRUCT_ALL runs structural tests on a partition or all positions. -/
def execStructAll (part : Nat) (rq : Acc) (s : State) : Host.Outcome State Fault Refusal :=
  run (.structAll part rq) (regCmd rq 0x001300 (cmdWord 4 [(0, 4, part)]) (structAllCmd rq part)) s

/-- BRINGUP_DONE (R464): A running bring-up command completes and reports its counts. -/
def execBringupDone (trained : List Nat) (s : State) : Host.Outcome State Fault Refusal :=
  run (.bringupDone trained) (bringDone trained) s

/-- MEMTEST_START (R467): MEMTEST_CMD START starts a March test of the named range. -/
def execMemtestStart (suite : Nat) (rq : Acc) (s : State) : Host.Outcome State Fault Refusal :=
  run (.memtestStart suite rq) (regCmd rq 0x090100 (cmdWord 1 [(56, 4, suite)]) (mtStart rq suite)) s

/-- MEMTEST_ABORT (R468): MEMTEST_CMD ABORT ends the running memory test with ABORTED. -/
def execMemtestAbort (rq : Acc) (s : State) : Host.Outcome State Fault Refusal :=
  run (.memtestAbort rq) (regCmd rq 0x090100 (cmdWord 2 []) (mtAbort rq)) s

/-- MEMTEST_PAUSE_END (R468): A retention pause ends and the retention read begins. -/
def execMemtestPauseEnd (s : State) : Host.Outcome State Fault Refusal :=
  run .memtestPauseEnd mtPauseEnd s

/-- MEMTEST_DONE (R468): The memory test ends with PASS or FAIL. -/
def execMemtestDone (s : State) : Host.Outcome State Fault Refusal :=
  run .memtestDone mtDone s

end Sys2Proof.Machine
end

