-- ==== Sys2Proof/Machine/ExecRecorder.lean ====
section
/-! DEFINITION. The commands of the event recorder. -/
namespace Sys2Proof.Machine

/-- DETAIL_TIMEOUT (R301): SQ2 has not written a FAULT record's detail within 100 us; the record is written RAW. -/
def execDetailTimeout (seq : Nat) (s : State) : Host.Outcome State Fault Refusal :=
  run (.detailTimeout seq) (fun s => setDetail s seq [] true) s

/-- EMRAM_WRITE_DONE (R306): A granary slot write completes and is read back; a repeated difference raises GRANARY_WRITE_FAIL. -/
def execEmramWriteDone (ok : Written) (s : State) : Host.Outcome State Fault Refusal :=
  run (.emramWriteDone ok) (emramDone ok.last ok.first) s

/-- GRANARY_SCAN_DONE (R308): The restart scan ends; numbering resumes past LAST_FOUND and a BOOT record is written. -/
def execGranaryScanDone (s : State) : Host.Outcome State Fault Refusal :=
  run .granaryScanDone scanDone s

/-- RECORDER_RD_SEL (R309): A write to RECORDER_RD_SEL loads the named granary slot into RECORDER_RD_DATA. -/
def execRecorderRdSel (value : Word) (rq : Acc) (s : State) : Host.Outcome State Fault Refusal :=
  run (.recorderRdSel value rq) (regCmd rq 0x020048 value (rdSelWrite value)) s

/-- ARCHIVE (R310): RECORDER_CMD ARCHIVE copies a granary area verbatim to RECORDER_ARCHIVE_DST. -/
def execRecArchive (value : Word) (rq : Acc) (s : State) : Host.Outcome State Fault Refusal :=
  run (.recArchive value rq) (regCmd rq 0x020030 (setFld value 63 60 1) (recCmd rq (setFld value 63 60 1))) s

/-- VERIFY (R310): RECORDER_CMD VERIFY checks every record of an archive for validity and chain breaks. -/
def execRecVerify (value : Word) (rq : Acc) (s : State) : Host.Outcome State Fault Refusal :=
  run (.recVerify value rq) (regCmd rq 0x020030 (setFld value 63 60 2) (recCmd rq (setFld value 63 60 2))) s

/-- CLEAR (R310): RECORDER_CMD CLEAR clears INDEX, FIRST or CRASH given a matching archive token. -/
def execRecClear (value : Word) (rq : Acc) (s : State) : Host.Outcome State Fault Refusal :=
  run (.recClear value rq) (regCmd rq 0x020030 (setFld value 63 60 3) (recCmd rq (setFld value 63 60 3))) s

/-- RECORDER_CMD_DONE (R310): A running recorder command completes with DONE or FAILED. -/
def execRecorderCmdDone (s : State) : Host.Outcome State Fault Refusal :=
  run .recorderCmdDone recCmdDone s

end Sys2Proof.Machine
end

