-- ==== Sys2Proof/Machine/ExecSeq.lean ====
section
/-! DEFINITION. The instructions and commands of the sequencer cores. -/
namespace Sys2Proof.Machine

/-- LDI (R351): Sequencer instruction: load a sign-extended immediate. -/
def execLdi (core : Nat) (s : State) : Host.Outcome State Fault Refusal :=
  run (.ldi core) (seqLdi core) s

/-- SHI (R351): Sequencer instruction: shift in 19 immediate bits. -/
def execShi (core : Nat) (s : State) : Host.Outcome State Fault Refusal :=
  run (.shi core) (seqShi core) s

/-- ADD (R351): Sequencer instruction: add registers modulo 2^64. -/
def execAdd (core : Nat) (s : State) : Host.Outcome State Fault Refusal :=
  run (.add core) (seqAdd core) s

/-- SUB (R351): Sequencer instruction: subtract registers modulo 2^64. -/
def execSub (core : Nat) (s : State) : Host.Outcome State Fault Refusal :=
  run (.sub core) (seqSub core) s

/-- AND (R351): Sequencer instruction: bitwise AND of registers. -/
def execAndR (core : Nat) (s : State) : Host.Outcome State Fault Refusal :=
  run (.andR core) (seqAnd core) s

/-- OR (R351): Sequencer instruction: bitwise OR of registers. -/
def execOrR (core : Nat) (s : State) : Host.Outcome State Fault Refusal :=
  run (.orR core) (seqOr core) s

/-- XOR (R351): Sequencer instruction: bitwise XOR of registers. -/
def execXorR (core : Nat) (s : State) : Host.Outcome State Fault Refusal :=
  run (.xorR core) (seqXor core) s

/-- SH (R351): Sequencer instruction: shift a register left or right by an immediate. -/
def execSh (core : Nat) (s : State) : Host.Outcome State Fault Refusal :=
  run (.sh core) (seqSh core) s

/-- ADDI (R351): Sequencer instruction: add an immediate. -/
def execAddi (core : Nat) (s : State) : Host.Outcome State Fault Refusal :=
  run (.addi core) (seqAddi core) s

/-- LD (R351): Sequencer instruction: load a data-store word. -/
def execLd (core : Nat) (s : State) : Host.Outcome State Fault Refusal :=
  run (.ld core) (seqLd core) s

/-- ST (R351): Sequencer instruction: store a data-store word. -/
def execSt (core : Nat) (s : State) : Host.Outcome State Fault Refusal :=
  run (.st core) (seqSt core) s

/-- LDB (R357): Sequencer instruction: read a block register as a secure requester. -/
def execLdb (core : Nat) (s : State) : Host.Outcome State Fault Refusal :=
  run (.ldb core) (seqLdb core) s

/-- STB (R357): Sequencer instruction: write a block register as a secure requester. -/
def execStb (core : Nat) (s : State) : Host.Outcome State Fault Refusal :=
  run (.stb core) (seqStb core) s

/-- CMP (R351): Sequencer instruction: compare two registers under a condition. -/
def execCmp (core : Nat) (s : State) : Host.Outcome State Fault Refusal :=
  run (.cmp core) (seqCmp core) s

/-- BR (R351): Sequencer instruction: conditional relative branch. -/
def execBr (core : Nat) (s : State) : Host.Outcome State Fault Refusal :=
  run (.br core) (seqBr core) s

/-- JAL (R351): Sequencer instruction: jump and link by an offset. -/
def execJal (core : Nat) (s : State) : Host.Outcome State Fault Refusal :=
  run (.jal core) (seqJal core) s

/-- JR (R351): Sequencer instruction: jump to a register and link. -/
def execJr (core : Nat) (s : State) : Host.Outcome State Fault Refusal :=
  run (.jr core) (seqJr core) s

/-- WAIT (R353): Sequencer instruction: wait for an event latch of a mask. -/
def execWaitR (core : Nat) (s : State) : Host.Outcome State Fault Refusal :=
  run (.waitR core) (seqWait core) s

/-- WAIT_RETURN (R353): A latch in the WAIT mask is set; WAIT returns its number and clears it. -/
def execWaitReturn (core : Nat) (s : State) : Host.Outcome State Fault Refusal :=
  run (.waitReturn core) (seqWaitReturn core) s

/-- SQ_TIMER (R354): Sequencer instruction TIMER: arm or disarm one of the core's timers. -/
def execSqTimer (core : Nat) (s : State) : Host.Outcome State Fault Refusal :=
  run (.sqTimer core) (seqTimerArm core) s

/-- SQ_TIME (R351): Sequencer instruction TIME: read the current block time. -/
def execSqTime (core : Nat) (s : State) : Host.Outcome State Fault Refusal :=
  run (.sqTime core) (seqTime core) s

/-- POST (R351): Sequencer instruction: offer a record CONTENT to the recorder. -/
def execPost (core : Nat) (s : State) : Host.Outcome State Fault Refusal :=
  run (.post core) (seqPost core) s

/-- MBOX (R365): Sequencer instruction: post an outbound mailbox pointer and set doorbells. -/
def execMbox (core : Nat) (s : State) : Host.Outcome State Fault Refusal :=
  run (.mbox core) (seqMbox core) s

/-- ESC (R351): Sequencer instruction: request a reset rung as FAULT_CMD ESCALATE does. -/
def execEsc (core : Nat) (s : State) : Host.Outcome State Fault Refusal :=
  run (.esc core) (seqEsc core) s

/-- SQ_DMA (R351): Sequencer instruction DMA: post a descriptor to channel 7. -/
def execSqDma (core : Nat) (s : State) : Host.Outcome State Fault Refusal :=
  run (.sqDma core) (seqDmaPost core) s

/-- RAISE (R351): Sequencer instruction: raise a fault code with access type INTERNAL. -/
def execRaiseR (core : Nat) (s : State) : Host.Outcome State Fault Refusal :=
  run (.raiseR core) (seqRaise core) s

/-- SQ_TIMER_EXPIRY (R354): A sequencer timer expires and sets its event latch. -/
def execSqTimerExpiry (core : Nat) (n : Nat) (s : State) : Host.Outcome State Fault Refusal :=
  run (.sqTimerExpiry core n) (seqExpire core n) s

/-- SQ_STALL (R356): A core retires nothing for 1 ms, or no WAIT within WATCHDOG, and halts with SQ_STALL. -/
def execSqStall (core : Nat) (watchdog : Bool) (s : State) : Host.Outcome State Fault Refusal :=
  run (.sqStall core watchdog) (seqStallEff core watchdog) s

/-- CONTROL_OVERLOAD (R360): A latch of a core's mask stays set for SEQ_CTL.OVERLOAD, raising CONTROL_OVERLOAD. -/
def execControlOverload (core : Nat) (latch : Nat) (s : State) : Host.Outcome State Fault Refusal :=
  run (.controlOverload core latch) (seqOverload core latch) s

/-- RESTART (R356): SEQ_CMD RESTART reinitialises and restarts a halted core. -/
def execSeqRestart (core : Nat) (rq : Acc) (s : State) : Host.Outcome State Fault Refusal :=
  run (.seqRestart core rq) (regCmd rq 0x0D0020 (cmdWord 1 [(0, 2, core)]) (seqRestartCmd rq core)) s

/-- SEQ_FREEZE (R361): SEQ_CMD FREEZE freezes a core's trace ring. -/
def execSeqFreeze (core : Nat) (rq : Acc) (s : State) : Host.Outcome State Fault Refusal :=
  run (.seqFreeze core rq) (regCmd rq 0x0D0020 (cmdWord 2 [(0, 2, core)]) (seqFreezeCmd rq core)) s

/-- THAW (R361): SEQ_CMD THAW thaws a frozen trace ring. -/
def execSeqThaw (core : Nat) (rq : Acc) (s : State) : Host.Outcome State Fault Refusal :=
  run (.seqThaw core rq) (regCmd rq 0x0D0020 (cmdWord 3 [(0, 2, core)]) (seqThawCmd rq core)) s

/-- SEQ_TRACE_SEL (R363): A write to SEQ_TRACE_SEL loads 32 trace entries into SEQ_TRACE_DATA. -/
def execSeqTraceSel (value : Word) (rq : Acc) (s : State) : Host.Outcome State Fault Refusal :=
  run (.seqTraceSel value rq) (regCmd rq 0x0D0080 value (traceSel rq value)) s

end Sys2Proof.Machine
end

