-- ==== Sys2Proof/Machine/ExecStep.lean ====
section
/-! DEFINITION. The commands of the step engine: markers, scalars, votes and decisions, the update, the token gate, coverage and collectives. -/
namespace Sys2Proof.Machine

/-- FWD_MARKER (R129): A FWD marker arrives on STEP, opening a micro-batch or token group and journaling its notice. -/
def execFwdMarker (mb : Nat) (replay : Bool) (arg : Nat) (s : State) : Host.Outcome State Fault Refusal :=
  run (.fwdMarker mb replay arg) (marker .fwd replay mb arg) s

/-- BWD_MARKER (R129): A BWD marker arrives on STEP for a micro-batch. -/
def execBwdMarker (mb : Nat) (item : MarkArg) (s : State) : Host.Outcome State Fault Refusal :=
  run (.bwdMarker mb item) (marker .bwd item.replay mb item.arg) s

/-- EXCH_MARKER (R145): An EXCH marker arrives; under UNDO the undo copy starts. -/
def execExchMarker (item : MarkItem) (s : State) : Host.Outcome State Fault Refusal :=
  run (.exchMarker item) (marker .exch item.replay item.mb item.arg) s

/-- UPD_MARKER (R143): An UPD marker arrives; the run may now open its update. -/
def execUpdMarker (item : MarkItem) (s : State) : Host.Outcome State Fault Refusal :=
  run (.updMarker item) (marker .upd item.replay item.mb item.arg) s

/-- END_MARKER (R150): The step-end marker arrives; VOTE begins, the update falls, and open operations close INCOMPLETE. -/
def execEndMarker (item : MarkItem) (s : State) : Host.Outcome State Fault Refusal :=
  run (.endMarker item) (marker .fin item.replay item.mb item.arg) s

/-- COVERAGE_SUMMARY (R122): A coverage summary is ready, posted as a record and kept in the journal. -/
def execCoverageSummary (s : State) : Host.Outcome State Fault Refusal :=
  run .coverageSummary coverageSummary s

/-- LOSS_SCALAR (R164): A loss scalar for a micro-batch arrives on STEP and is checked for non-finite values. -/
def execLossScalar (mb : Nat) (bits : Nat) (s : State) : Host.Outcome State Fault Refusal :=
  run (.lossScalar mb bits) (lossScalar mb bits) s

/-- GRAD_NORM_SCALAR (R164): The gradient-norm scalar of a run arrives on STEP and is checked for non-finite values. -/
def execGradNormScalar (item : ScalarItem) (s : State) : Host.Outcome State Fault Refusal :=
  run (.gradNormScalar item) (gradScalar item.mb item.arg) s

/-- NONFINITE_FLAG (R164): The host sets the NONFINITE flag; the gates close and NONFINITE is latched for the run. -/
def execNonfiniteFlag (s : State) : Host.Outcome State Fault Refusal :=
  run .nonfiniteFlag nonfiniteFlag s

/-- STEP_VERDICT (R150): The step verdict forms once the last verdicts are in, and the vote is sent to the parent. -/
def execStepVerdict (s : State) : Host.Outcome State Fault Refusal :=
  run .stepVerdict stepVerdict s

/-- VOTE_MSG (R154): A vote message arrives at an aggregator or the arbiter and is combined into the subtree vote. -/
def execVoteMsg (vote : Vote) (revote : Bool) (auth : Bool) (src : Nat) (s : State) : Host.Outcome State Fault Refusal :=
  run (.voteMsg vote revote auth src) (voteGot vote revote auth src) s

/-- VOTE_ABSENT_TIMEOUT (R153): A node's timer of (D − d) × VOTE_TIMEOUT expires, and unheard children are counted ABSENT. -/
def execVoteAbsentTimeout (s : State) : Host.Outcome State Fault Refusal :=
  run .voteAbsentTimeout voteAbsent s

/-- BACKUP_ACK (R156): The backup's acknowledgement of a recorded decision arrives, and the arbiter broadcasts the decision. -/
def execBackupAck (job : Nat) (step : Nat) (replayNo : Nat) (auth : Bool) (src : Nat) (s : State) : Host.Outcome State Fault Refusal :=
  run (.backupAck job step replayNo auth src) (backupAck job step replayNo auth src) s

/-- BACKUP_WAIT_EXPIRY (R156): BACKUP_WAIT passes without acknowledgement; a non-COMMIT decision is broadcast, and a COMMIT becomes HOLD with reason BACKUP. -/
def execBackupWaitExpiry (s : State) : Host.Outcome State Fault Refusal :=
  run .backupWaitExpiry backupWait s

/-- DECISION_MSG (R158): A decision arrives at a chip and is applied if it names the chip's job, step and replay number. -/
def execDecisionMsg (dec : Decision) (record : Bool) (auth : Bool) (src : Nat) (s : State) : Host.Outcome State Fault Refusal :=
  run (.decisionMsg dec record auth src) (decisionGot dec record auth src) s

/-- DECISION_TIMEOUT (R159): DECISION_TIMEOUT passes without a decision, and the chip re-votes on the tree rooted at the backup. -/
def execDecisionTimeout (s : State) : Host.Outcome State Fault Refusal :=
  run .decisionTimeout decisionTimeout s

/-- VOTE_LOST (R160): No decision arrives one DECISION_TIMEOUT after the re-vote; the chip sets HALTED and raises VOTE_LOST. -/
def execVoteLost (s : State) : Host.Outcome State Fault Refusal :=
  run .voteLost voteLost s

/-- DECISION_QUERY (R156): The arbiter or backup answers a query for the decision of one of the job's last two steps. -/
def execDecisionQuery (job : Nat) (step : Nat) (src : Nat) (auth : Bool) (s : State) : Host.Outcome State Fault Refusal :=
  run (.decisionQuery job step src auth) (decisionQuery job step src auth) s

/-- COLL_REPORT (R85): A COLL report arrives; it is chained and the hop checks it completes are made. -/
def execCollReport (rep : Report) (s : State) : Host.Outcome State Fault Refusal :=
  run (.collReport rep) (collReport rep) s

/-- UNDO_COPY_DONE (R145): The copy of every listed page into the slot's undo area completes. -/
def execUndoCopyDone (s : State) : Host.Outcome State Fault Refusal :=
  run .undoCopyDone undoCopyDone s

/-- UNDO_RESTORE_DONE (R146): The restore of every undo page completes, and the next update may open. -/
def execUndoRestoreDone (s : State) : Host.Outcome State Fault Refusal :=
  run .undoRestoreDone undoRestoreDone s

/-- UPD_OPEN (R143): Every condition for opening the update holds, and EPOCH_UPD_OPEN rises. -/
def execUpdOpen (s : State) : Host.Outcome State Fault Refusal :=
  run .updOpen updOpens s

/-- TOKEN_PRESENT (R167): The host presents a token with GROUP and TAG at TOKEN_GATE, and the gate holds it. -/
def execTokenPresent (group : Nat) (tag : Nat) (s : State) : Host.Outcome State Fault Refusal :=
  run (.tokenPresent group tag) (tokenPresent group tag) s

/-- TOKEN_RELEASE (R168): Every operation of a held token's group has closed clean, and the token is released. -/
def execTokenRelease (s : State) : Host.Outcome State Fault Refusal :=
  run .tokenRelease tokenRelease s

/-- TOKEN_OUT_TIMEOUT (R395): A token outcome is not taken within 2 us; PORT_TIMEOUT is raised once and the outcome stays offered. -/
def execTokenOutTimeout (s : State) : Host.Outcome State Fault Refusal :=
  run .tokenOutTimeout tokenOutTimeout s

/-- CERT_DIGEST_DONE (R171): The shard digests of a certificate request complete and the signed certificate is written. -/
def execCertDigestDone (u : Unit) (s : State) : Host.Outcome State Fault Refusal :=
  run (.certDigestDone u) certDigestDone s

end Sys2Proof.Machine
end

