-- ==== Sys2Proof/Machine/ExecTap.lean ====
section
/-! DEFINITION. The commands of the taps and the screening checkers. -/
namespace Sys2Proof.Machine

/-- TAP_DESC_WORD (R381): A descriptor word transfers on TAP_DESC and is assembled into the tile's current descriptor. -/
def execTapDescWord (tile : Nat) (word : Word) (last : Bool) (s : State) : Host.Outcome State Fault Refusal :=
  run (.tapDescWord tile word last) (tapDescWord tile word last) s

/-- TAP_BEAT (R384): A beat arrives on TAP_A, TAP_B or TAP_C; it is attributed by opseq, ingested, captured and folded. -/
def execTapBeat (tile : Nat) (stream : Stream) (opseq : Nat) (data : Beat) (scale : Word) (last : Bool) (droppedAt : List Nat) (skippedAt : List Nat) (s : State) : Host.Outcome State Fault Refusal :=
  run (.tapBeat tile stream opseq data scale last droppedAt skippedAt) (tapBeat tile stream opseq data scale last droppedAt skippedAt) s

/-- PIP_OUTCOME (R105): The reference unit finishes a pip and decides MATCH, MISMATCH, WITHIN_BOUND or UNDECIDABLE. -/
def execPipOutcome (tile : Nat) (s : State) : Host.Outcome State Fault Refusal :=
  run (.pipOutcome tile) (pipOutcome tile) s

/-- VERDICT_LATE (R25): An operation, step or DECODE-group verdict passes its deadline; VERDICT_LATE is counted and raised. -/
def execVerdictLate (kind : Nat) (tile : Nat) (s : State) : Host.Outcome State Fault Refusal :=
  run (.verdictLate kind tile) (verdictLate kind tile) s

/-- BEACON_SAMPLE (R275): A TAP_PROG beacon value arrives and is judged as an advance or a range fault. -/
def execBeaconSample (tile : Nat) (value : Nat) (s : State) : Host.Outcome State Fault Refusal :=
  run (.beaconSample tile value) (beaconSample tile value) s

/-- HANG (R278): A busy host tile passes HANG_WINDOW without an advance; ENGINE_HANG is raised and the suspect set frozen. -/
def execHang (tile : Nat) (s : State) : Host.Outcome State Fault Refusal :=
  run (.hang tile) (hang tile) s

/-- TILE_RST_REQ (R387): tile_rst_req rises; the tile's open operations are discarded and tile_rst_ack is raised. -/
def execTileRstReq (tile : Nat) (s : State) : Host.Outcome State Fault Refusal :=
  run (.tileRstReq tile) (tileRstReq tile) s

/-- TILE_RST_REQ_FALL (R387): tile_rst_req falls; tile_rst_ack is lowered and descriptor numbering restarts. -/
def execTileRstReqFall (tile : Nat) (s : State) : Host.Outcome State Fault Refusal :=
  run (.tileRstReqFall tile) (tileRstEnds tile) s

/-- RES_MISMATCH_ACK (R92): Writing the held SEQ consumes RES_MISMATCH. -/
def execResMismatchAck (tile : Nat) (value : Word) (rq : Acc) (s : State) : Host.Outcome State Fault Refusal :=
  run (.resMismatchAck tile value rq) (regCmd rq (0x100018 + 0x400 * tile) value (resAck tile value)) s

/-- PIP_MISMATCH_ACK (R126): Writing the held SEQ consumes PIP_MISMATCH. -/
def execPipMismatchAck (tile : Nat) (value : Word) (rq : Acc) (s : State) : Host.Outcome State Fault Refusal :=
  run (.pipMismatchAck tile value rq) (regCmd rq (0x100040 + 0x400 * tile) value (pipAck tile value)) s

end Sys2Proof.Machine
end

