-- ==== Sys2Proof/Machine/ExecTime.lean ====
section
/-! DEFINITION. The time, rate and riser commands (R14, R18, R23). -/
namespace Sys2Proof.Machine

/-- TIME_SAMPLE (R23): A TIME sample arrives; it is accepted as an advance or discarded, and time-keeping moves between APPROX, TRACKING and LOST. -/
def execTimeSample (value : Word) (osc : Nat) (s : State) : Host.Outcome State Fault Refusal :=
  run (.timeSample value osc) (timeSampleEff value osc) s

/-- TIME_LOST (R23): No TIME advance for 10 us; the block enters TIME_LOST and measures timeouts on its oscillator. -/
def execTimeLost (osc : Nat) (s : State) : Host.Outcome State Fault Refusal :=
  run (.timeLost osc) (timeLostEff osc) s

/-- RATE_WINDOW_END (R32): A 10 us rate window ends, and GLOBAL_RATE is updated as a whole from the replica stage chains. -/
def execRateWindowEnd (spine : Nat) (slowest : Nat) (cluster : Nat) (s : State) : Host.Outcome State Fault Refusal :=
  run (.rateWindowEnd spine slowest cluster) (rateWindow spine slowest cluster) s

/-- RISER_DOWN (R14): A riser handshake does not complete within 2 us; the riser goes down and its column's checkers count as failed. -/
def execRiserDown (col : Nat) (s : State) : Host.Outcome State Fault Refusal :=
  run (.riserDown col) (riserDownEff col) s

end Sys2Proof.Machine
end

