-- ==== Sys2Proof/Machine/Dispatch.lean ====
section
/-! DEFINITION. The dispatch: one arm per command. -/
namespace Sys2Proof.Machine

/-- What a command does to everything but the queue of waiting commands. -/
def exec (i : Instr) (s : State) : Host.Outcome State Fault Refusal :=
  match i with
  | .timeSample value osc => Sys2Proof.Machine.execTimeSample value osc s
  | .timeLost osc => Sys2Proof.Machine.execTimeLost osc s
  | .rateWindowEnd spine slowest cluster => Sys2Proof.Machine.execRateWindowEnd spine slowest cluster s
  | .riserDown col => Sys2Proof.Machine.execRiserDown col s
  | .tapDescWord tile word last => Sys2Proof.Machine.execTapDescWord tile word last s
  | .tapBeat tile stream opseq data scale last droppedAt skippedAt => Sys2Proof.Machine.execTapBeat tile stream opseq data scale last droppedAt skippedAt s
  | .pipOutcome tile => Sys2Proof.Machine.execPipOutcome tile s
  | .verdictLate kind tile => Sys2Proof.Machine.execVerdictLate kind tile s
  | .beaconSample tile value => Sys2Proof.Machine.execBeaconSample tile value s
  | .hang tile => Sys2Proof.Machine.execHang tile s
  | .tileRstReq tile => Sys2Proof.Machine.execTileRstReq tile s
  | .tileRstReqFall tile => Sys2Proof.Machine.execTileRstReqFall tile s
  | .fwdMarker mb replay arg => Sys2Proof.Machine.execFwdMarker mb replay arg s
  | .bwdMarker mb item => Sys2Proof.Machine.execBwdMarker mb item s
  | .exchMarker item => Sys2Proof.Machine.execExchMarker item s
  | .updMarker item => Sys2Proof.Machine.execUpdMarker item s
  | .endMarker item => Sys2Proof.Machine.execEndMarker item s
  | .coverageSummary => Sys2Proof.Machine.execCoverageSummary s
  | .lossScalar mb bits => Sys2Proof.Machine.execLossScalar mb bits s
  | .gradNormScalar item => Sys2Proof.Machine.execGradNormScalar item s
  | .nonfiniteFlag => Sys2Proof.Machine.execNonfiniteFlag s
  | .stepVerdict => Sys2Proof.Machine.execStepVerdict s
  | .voteMsg vote revote auth src => Sys2Proof.Machine.execVoteMsg vote revote auth src s
  | .voteAbsentTimeout => Sys2Proof.Machine.execVoteAbsentTimeout s
  | .backupAck job step replayNo auth src => Sys2Proof.Machine.execBackupAck job step replayNo auth src s
  | .backupWaitExpiry => Sys2Proof.Machine.execBackupWaitExpiry s
  | .decisionMsg dec record auth src => Sys2Proof.Machine.execDecisionMsg dec record auth src s
  | .decisionTimeout => Sys2Proof.Machine.execDecisionTimeout s
  | .voteLost => Sys2Proof.Machine.execVoteLost s
  | .decisionQuery job step src auth => Sys2Proof.Machine.execDecisionQuery job step src auth s
  | .collReport rep => Sys2Proof.Machine.execCollReport rep s
  | .undoCopyDone => Sys2Proof.Machine.execUndoCopyDone s
  | .undoRestoreDone => Sys2Proof.Machine.execUndoRestoreDone s
  | .updOpen => Sys2Proof.Machine.execUpdOpen s
  | .tokenPresent group tag => Sys2Proof.Machine.execTokenPresent group tag s
  | .tokenRelease => Sys2Proof.Machine.execTokenRelease s
  | .tokenOutTimeout => Sys2Proof.Machine.execTokenOutTimeout s
  | .certDigestDone u => Sys2Proof.Machine.execCertDigestDone u s
  | .stepArm value rq => Sys2Proof.Machine.execStepArm value rq s
  | .armPairWaitExpiry => Sys2Proof.Machine.execArmPairWaitExpiry s
  | .stepConfigWrite value rq => Sys2Proof.Machine.execStepConfigWrite value rq s
  | .stepSkip step rq => Sys2Proof.Machine.execStepSkip step rq s
  | .stepHalt step rq => Sys2Proof.Machine.execStepHalt step rq s
  | .stepDisarm step rq => Sys2Proof.Machine.execStepDisarm step rq s
  | .stepRecover rq => Sys2Proof.Machine.execStepRecover rq s
  | .stepJoin step rq => Sys2Proof.Machine.execStepJoin step rq s
  | .stepCert step rq => Sys2Proof.Machine.execStepCert step rq s
  | .stepFetch step mb rq => Sys2Proof.Machine.execStepFetch step mb rq s
  | .stepRevote step rq => Sys2Proof.Machine.execStepRevote step rq s
  | .resMismatchAck tile value rq => Sys2Proof.Machine.execResMismatchAck tile value rq s
  | .pipMismatchAck tile value rq => Sys2Proof.Machine.execPipMismatchAck tile value rq s
  | .collMismatchAck value rq => Sys2Proof.Machine.execCollMismatchAck value rq s
  | .stepCovAck value rq => Sys2Proof.Machine.execStepCovAck value rq s
  | .stepVerdictAck value rq => Sys2Proof.Machine.execStepVerdictAck value rq s
  | .stepDecisionAck value rq => Sys2Proof.Machine.execStepDecisionAck value rq s
  | .mirrorCheckAck value rq => Sys2Proof.Machine.execMirrorCheckAck value rq s
  | .qrsEventAck value rq => Sys2Proof.Machine.execQrsEventAck value rq s
  | .modeRefusedAck value rq => Sys2Proof.Machine.execModeRefusedAck value rq s
  | .faultFirstAck value rq => Sys2Proof.Machine.execFaultFirstAck value rq s
  | .hangEventAck value rq => Sys2Proof.Machine.execHangEventAck value rq s
  | .stopAck value rq => Sys2Proof.Machine.execStopAck value rq s
  | .configEventAck value rq => Sys2Proof.Machine.execConfigEventAck value rq s
  | .obsDumpResultAck value rq => Sys2Proof.Machine.execObsDumpResultAck value rq s
  | .melPair arg rq => Sys2Proof.Machine.execMelPair arg rq s
  | .melRepair rq => Sys2Proof.Machine.execMelRepair rq s
  | .melUnpair rq => Sys2Proof.Machine.execMelUnpair rq s
  | .melPull arg shards rq => Sys2Proof.Machine.execMelPull arg shards rq s
  | .melAbortPull rq => Sys2Proof.Machine.execMelAbortPull rq s
  | .melHello hello nbrId => Sys2Proof.Machine.execMelHello hello nbrId s
  | .melKey ct pairSeq tagOk => Sys2Proof.Machine.execMelKey ct pairSeq tagOk s
  | .melFinish pairSeq tagOk transcriptOk => Sys2Proof.Machine.execMelFinish pairSeq tagOk transcriptOk s
  | .melBeat phase step pairSeq tagOk => Sys2Proof.Machine.execMelBeat phase step pairSeq tagOk s
  | .melNotice step mb words pairSeq tagOk => Sys2Proof.Machine.execMelNotice step mb words pairSeq tagOk s
  | .melCommitted com pairSeq tagOk => Sys2Proof.Machine.execMelCommitted com pairSeq tagOk s
  | .melNotCommitted step decision pairSeq tagOk => Sys2Proof.Machine.execMelNotCommitted step decision pairSeq tagOk s
  | .melAuditSig id sig pairSeq tagOk => Sys2Proof.Machine.execMelAuditSig id sig pairSeq tagOk s
  | .copyChunk step chunk bytes pairSeq tagOk => Sys2Proof.Machine.execCopyChunk step chunk bytes pairSeq tagOk s
  | .copyAck step chunk pairSeq tagOk => Sys2Proof.Machine.execCopyAck step chunk pairSeq tagOk s
  | .copyNack step chunk pairSeq tagOk => Sys2Proof.Machine.execCopyNack step chunk pairSeq tagOk s
  | .copyEnd step chunks digest pairSeq tagOk => Sys2Proof.Machine.execCopyEnd step chunks digest pairSeq tagOk s
  | .copyDone step digest pairSeq tagOk => Sys2Proof.Machine.execCopyDone step digest pairSeq tagOk s
  | .pullReq step lens pairSeq tagOk => Sys2Proof.Machine.execPullReq step lens pairSeq tagOk s
  | .pullChunk step chunk bytes pairSeq tagOk => Sys2Proof.Machine.execPullChunk step chunk bytes pairSeq tagOk s
  | .pullEnd step chunks digest notices pairSeq tagOk => Sys2Proof.Machine.execPullEnd step chunks digest notices pairSeq tagOk s
  | .pullRefuse cause pairSeq tagOk => Sys2Proof.Machine.execPullRefuse cause pairSeq tagOk s
  | .helloTimer => Sys2Proof.Machine.execHelloTimer s
  | .beatTimer => Sys2Proof.Machine.execBeatTimer s
  | .melPairTimeout => Sys2Proof.Machine.execMelPairTimeout s
  | .keyingTimeout => Sys2Proof.Machine.execKeyingTimeout s
  | .melLinkLost => Sys2Proof.Machine.execMelLinkLost s
  | .chunkAckTimeout => Sys2Proof.Machine.execChunkAckTimeout s
  | .mirrorCheckTimeout => Sys2Proof.Machine.execMirrorCheckTimeout s
  | .copyGapTimeout => Sys2Proof.Machine.execCopyGapTimeout s
  | .qrsFence logical tag rq => Sys2Proof.Machine.execQrsFence logical tag rq s
  | .qrsStruct tile tag rq => Sys2Proof.Machine.execQrsStruct tile tag rq s
  | .qrsSelftest tile tag rq => Sys2Proof.Machine.execQrsSelftest tile tag rq s
  | .qrsReturnChecker tile tag rq => Sys2Proof.Machine.execQrsReturnChecker tile tag rq s
  | .qrsReconcile word rq => Sys2Proof.Machine.execQrsReconcile word rq s
  | .qrsCancel word rq => Sys2Proof.Machine.execQrsCancel word rq s
  | .structTestDone pos responses => Sys2Proof.Machine.execStructTestDone pos responses s
  | .structTestTimeout pos => Sys2Proof.Machine.execStructTestTimeout pos s
  | .selftestDone pos clean injected => Sys2Proof.Machine.execSelftestDone pos clean injected s
  | .selftestTimeout pos => Sys2Proof.Machine.execSelftestTimeout pos s
  | .spareTestInterval pos => Sys2Proof.Machine.execSpareTestInterval pos s
  | .modeLevelReqWrite value rq => Sys2Proof.Machine.execModeLevelReqWrite value rq s
  | .modeQuiesce rq => Sys2Proof.Machine.execModeQuiesce rq s
  | .modeResume rq => Sys2Proof.Machine.execModeResume rq s
  | .reactionTimerExpiry cls => Sys2Proof.Machine.execReactionTimerExpiry cls s
  | .faultPendingWrite value rq => Sys2Proof.Machine.execFaultPendingWrite value rq s
  | .faultEscalate value rq => Sys2Proof.Machine.execFaultEscalate value rq s
  | .faultInject value rq => Sys2Proof.Machine.execFaultInject value rq s
  | .collectorParity => Sys2Proof.Machine.execCollectorParity s
  | .collectorGrantTimeout cap => Sys2Proof.Machine.execCollectorGrantTimeout cap s
  | .engRstAck scope id => Sys2Proof.Machine.execEngRstAck scope id s
  | .partRstAck part trained => Sys2Proof.Machine.execPartRstAck part trained s
  | .resetEngTimeout => Sys2Proof.Machine.execResetEngTimeout s
  | .resetPartTimeout => Sys2Proof.Machine.execResetPartTimeout s
  | .resetChipTimeout => Sys2Proof.Machine.execResetChipTimeout s
  | .rstReqNotTaken group => Sys2Proof.Machine.execRstReqNotTaken group s
  | .crashDumpEnd cut => Sys2Proof.Machine.execCrashDumpEnd cut s
  | .powerCycleAck => Sys2Proof.Machine.execPowerCycleAck s
  | .trayAckTimeout => Sys2Proof.Machine.execTrayAckTimeout s
  | .blkRstAssert => Sys2Proof.Machine.execBlkRstAssert s
  | .blkRstRelease strap => Sys2Proof.Machine.execBlkRstRelease strap s
  | .porstAssert => Sys2Proof.Machine.execPorstAssert s
  | .porstRelease strap => Sys2Proof.Machine.execPorstRelease strap s
  | .ladderStop rq => Sys2Proof.Machine.execLadderStop rq s
  | .stopTimeout => Sys2Proof.Machine.execStopTimeout s
  | .dumpWritten => Sys2Proof.Machine.execDumpWritten s
  | .searchReplay value rq => Sys2Proof.Machine.execSearchReplay value rq s
  | .searchDone rq => Sys2Proof.Machine.execSearchDone rq s
  | .searchEnd rq => Sys2Proof.Machine.execSearchEnd rq s
  | .detailTimeout seq => Sys2Proof.Machine.execDetailTimeout seq s
  | .emramWriteDone ok => Sys2Proof.Machine.execEmramWriteDone ok s
  | .granaryScanDone => Sys2Proof.Machine.execGranaryScanDone s
  | .recorderRdSel value rq => Sys2Proof.Machine.execRecorderRdSel value rq s
  | .recArchive value rq => Sys2Proof.Machine.execRecArchive value rq s
  | .recVerify value rq => Sys2Proof.Machine.execRecVerify value rq s
  | .recClear value rq => Sys2Proof.Machine.execRecClear value rq s
  | .recorderCmdDone => Sys2Proof.Machine.execRecorderCmdDone s
  | .dmaPost ch src dst ctl work buf => Sys2Proof.Machine.execDmaPost ch src dst ctl work buf s
  | .memResponse port id status data => Sys2Proof.Machine.execMemResponse port id status data s
  | .memTimeout ch => Sys2Proof.Machine.execMemTimeout ch s
  | .memReqTimeout ch => Sys2Proof.Machine.execMemReqTimeout ch s
  | .dmaResume ch rq => Sys2Proof.Machine.execDmaResume ch rq s
  | .dmaAbandon ch rq => Sys2Proof.Machine.execDmaAbandon ch rq s
  | .xlateInvAll rq => Sys2Proof.Machine.execXlateInvAll rq s
  | .xlateInvRange value rq => Sys2Proof.Machine.execXlateInvRange value rq s
  | .configBegin rq => Sys2Proof.Machine.execConfigBegin rq s
  | .configReload value rq => Sys2Proof.Machine.execConfigReload value rq s
  | .configEnd rq => Sys2Proof.Machine.execConfigEnd rq s
  | .configAbort rq => Sys2Proof.Machine.execConfigAbort rq s
  | .configLoadData word rq => Sys2Proof.Machine.execConfigLoadData word rq s
  | .headerCheckDone sigOk fuse => Sys2Proof.Machine.execHeaderCheckDone sigOk fuse s
  | .loadTimeout => Sys2Proof.Machine.execLoadTimeout s
  | .drainEnd region => Sys2Proof.Machine.execDrainEnd region s
  | .regionVerifyDone => Sys2Proof.Machine.execRegionVerifyDone s
  | .ldi core => Sys2Proof.Machine.execLdi core s
  | .shi core => Sys2Proof.Machine.execShi core s
  | .add core => Sys2Proof.Machine.execAdd core s
  | .sub core => Sys2Proof.Machine.execSub core s
  | .andR core => Sys2Proof.Machine.execAndR core s
  | .orR core => Sys2Proof.Machine.execOrR core s
  | .xorR core => Sys2Proof.Machine.execXorR core s
  | .sh core => Sys2Proof.Machine.execSh core s
  | .addi core => Sys2Proof.Machine.execAddi core s
  | .ld core => Sys2Proof.Machine.execLd core s
  | .st core => Sys2Proof.Machine.execSt core s
  | .ldb core => Sys2Proof.Machine.execLdb core s
  | .stb core => Sys2Proof.Machine.execStb core s
  | .cmp core => Sys2Proof.Machine.execCmp core s
  | .br core => Sys2Proof.Machine.execBr core s
  | .jal core => Sys2Proof.Machine.execJal core s
  | .jr core => Sys2Proof.Machine.execJr core s
  | .waitR core => Sys2Proof.Machine.execWaitR core s
  | .waitReturn core => Sys2Proof.Machine.execWaitReturn core s
  | .sqTimer core => Sys2Proof.Machine.execSqTimer core s
  | .sqTime core => Sys2Proof.Machine.execSqTime core s
  | .post core => Sys2Proof.Machine.execPost core s
  | .mbox core => Sys2Proof.Machine.execMbox core s
  | .esc core => Sys2Proof.Machine.execEsc core s
  | .sqDma core => Sys2Proof.Machine.execSqDma core s
  | .raiseR core => Sys2Proof.Machine.execRaiseR core s
  | .sqTimerExpiry core n => Sys2Proof.Machine.execSqTimerExpiry core n s
  | .sqStall core watchdog => Sys2Proof.Machine.execSqStall core watchdog s
  | .controlOverload core latch => Sys2Proof.Machine.execControlOverload core latch s
  | .seqRestart core rq => Sys2Proof.Machine.execSeqRestart core rq s
  | .seqFreeze core rq => Sys2Proof.Machine.execSeqFreeze core rq s
  | .seqThaw core rq => Sys2Proof.Machine.execSeqThaw core rq s
  | .seqTraceSel value rq => Sys2Proof.Machine.execSeqTraceSel value rq s
  | .mbInPtr ch value rq => Sys2Proof.Machine.execMbInPtr ch value rq s
  | .mbInDb ch value rq => Sys2Proof.Machine.execMbInDb ch value rq s
  | .mbInRxDone ch value core => Sys2Proof.Machine.execMbInRxDone ch value core s
  | .mbInDbClr ch value core => Sys2Proof.Machine.execMbInDbClr ch value core s
  | .mbOutRxDone ch value rq => Sys2Proof.Machine.execMbOutRxDone ch value rq s
  | .mbOutDb ch value rq => Sys2Proof.Machine.execMbOutDb ch value rq s
  | .collisionClear ch outbound value rq => Sys2Proof.Machine.execCollisionClear ch outbound value rq s
  | .outAckWaitTimeout ch => Sys2Proof.Machine.execOutAckWaitTimeout ch s
  | .krpRequest id addr write data secure => Sys2Proof.Machine.execKrpRequest id addr write data secure s
  | .krpGrantTimeout id addr write data secure => Sys2Proof.Machine.execKrpGrantTimeout id addr write data secure s
  | .krpRspTimeout => Sys2Proof.Machine.execKrpRspTimeout s
  | .registerWrite addr data rq => Sys2Proof.Machine.execRegisterWrite addr data rq s
  | .netAck tag unreachable => Sys2Proof.Machine.execNetAck tag unreachable s
  | .netTimeout tag => Sys2Proof.Machine.execNetTimeout tag s
  | .netBeatTimeout tag => Sys2Proof.Machine.execNetBeatTimeout tag s
  | .tsensReading id code => Sys2Proof.Machine.execTsensReading id code s
  | .onDieSensorRead k code => Sys2Proof.Machine.execOnDieSensorRead k code s
  | .sensorTimeout s_ => Sys2Proof.Machine.execSensorTimeout s_ s
  | .sensorStuck s_ => Sys2Proof.Machine.execSensorStuck s_ s
  | .sensorRecover s_ => Sys2Proof.Machine.execSensorRecover s_ s
  | .keySeed seed => Sys2Proof.Machine.execKeySeed seed s
  | .keySeedTimeout => Sys2Proof.Machine.execKeySeedTimeout s
  | .fuseMapTransfer word => Sys2Proof.Machine.execFuseMapTransfer word s
  | .fuseTimeout => Sys2Proof.Machine.execFuseTimeout s
  | .tamperN => Sys2Proof.Machine.execTamperN s
  | .railOut r => Sys2Proof.Machine.execRailOut r s
  | .railIn r => Sys2Proof.Machine.execRailIn r s
  | .emramInterlock => Sys2Proof.Machine.execEmramInterlock s
  | .clusterVddcOut k => Sys2Proof.Machine.execClusterVddcOut k s
  | .clusterVddcIn k => Sys2Proof.Machine.execClusterVddcIn k s
  | .droopWindow mins rails => Sys2Proof.Machine.execDroopWindow mins rails s
  | .secLoadCert cert sigOk sig rq => Sys2Proof.Machine.execSecLoadCert cert sigOk sig rq s
  | .secCommitState written rq => Sys2Proof.Machine.execSecCommitState written rq s
  | .secSeal written rq => Sys2Proof.Machine.execSecSeal written rq s
  | .secLock written rq => Sys2Proof.Machine.execSecLock written rq s
  | .secReprovision written rq => Sys2Proof.Machine.execSecReprovision written rq s
  | .secZeroise rq => Sys2Proof.Machine.execSecZeroise rq s
  | .secUnwrap blob tagOk key rq => Sys2Proof.Machine.execSecUnwrap blob tagOk key rq s
  | .secLoadPermit permit sigOk rq => Sys2Proof.Machine.execSecLoadPermit permit sigOk rq s
  | .secClearPermits rq => Sys2Proof.Machine.execSecClearPermits rq s
  | .huskDone => Sys2Proof.Machine.execHuskDone s
  | .casRetrain rq => Sys2Proof.Machine.execCasRetrain rq s
  | .casEnum count => Sys2Proof.Machine.execCasEnum count s
  | .enumTimeout => Sys2Proof.Machine.execEnumTimeout s
  | .roleEnumTimeout => Sys2Proof.Machine.execRoleEnumTimeout s
  | .heartbeat gen chip => Sys2Proof.Machine.execHeartbeat gen chip s
  | .heartbeatTimer => Sys2Proof.Machine.execHeartbeatTimer s
  | .heartbeatMiss => Sys2Proof.Machine.execHeartbeatMiss s
  | .casHandshakeTimeout => Sys2Proof.Machine.execCasHandshakeTimeout s
  | .armCheck src params => Sys2Proof.Machine.execArmCheck src params s
  | .armOk job => Sys2Proof.Machine.execArmOk job s
  | .armRefused job => Sys2Proof.Machine.execArmRefused job s
  | .armCheckTimeout => Sys2Proof.Machine.execArmCheckTimeout s
  | .casVerdict src verdict point nfRepro z step replayNo => Sys2Proof.Machine.execCasVerdict src verdict point nfRepro z step replayNo s
  | .casVerdictTimeout => Sys2Proof.Machine.execCasVerdictTimeout s
  | .casDecision word => Sys2Proof.Machine.execCasDecision word s
  | .casSummary src pending safe validMax globalMax => Sys2Proof.Machine.execCasSummary src pending safe validMax globalMax s
  | .summaryTimer => Sys2Proof.Machine.execSummaryTimer s
  | .casStop => Sys2Proof.Machine.execCasStop s
  | .riserTrain rq => Sys2Proof.Machine.execRiserTrain rq s
  | .fuseRead rq => Sys2Proof.Machine.execFuseRead rq s
  | .selftestAll rq => Sys2Proof.Machine.execSelftestAll rq s
  | .structAll part rq => Sys2Proof.Machine.execStructAll part rq s
  | .bringupDone trained => Sys2Proof.Machine.execBringupDone trained s
  | .memtestStart suite rq => Sys2Proof.Machine.execMemtestStart suite rq s
  | .memtestAbort rq => Sys2Proof.Machine.execMemtestAbort rq s
  | .memtestPauseEnd => Sys2Proof.Machine.execMemtestPauseEnd s
  | .memtestDone => Sys2Proof.Machine.execMemtestDone s
  | .cntClearStart scope tag target rq => Sys2Proof.Machine.execCntClearStart scope tag target rq s
  | .cntFreeze scope tag target rq => Sys2Proof.Machine.execCntFreeze scope tag target rq s
  | .cntRun scope tag target rq => Sys2Proof.Machine.execCntRun scope tag target rq s
  | .cntCmdDone => Sys2Proof.Machine.execCntCmdDone s
  | .obsRingSel value rq => Sys2Proof.Machine.execObsRingSel value rq s
  | .dumpArm list rq => Sys2Proof.Machine.execDumpArm list rq s
  | .dumpCancel rq => Sys2Proof.Machine.execDumpCancel rq s
  | .statusRequest => Sys2Proof.Machine.execStatusRequest s
  | .mctpControl cmd arg => Sys2Proof.Machine.execMctpControl cmd arg s
  | .i3cCcc code arg => Sys2Proof.Machine.execI3cCcc code arg s
  | .jtagIdcode => Sys2Proof.Machine.execJtagIdcode s
  | .jtagAccess => Sys2Proof.Machine.execJtagAccess s
  | .jtagBypass => Sys2Proof.Machine.execJtagBypass s
  | .instrumentInclude inst => Sys2Proof.Machine.execInstrumentInclude inst s
  | .heartbeatNotReturned => Sys2Proof.Machine.execHeartbeatNotReturned s

end Sys2Proof.Machine
end

