-- ==== Sys2Proof/Machine/Step.lean ====
section
/-! DEFINITION. One step: the command at the front of the queue is carried out; with no command waiting the block idles.
Time passes only as commands tell: an event of time, such as the expiry of a timer, is a command of its own. -/
namespace Sys2Proof.Machine

/-- The step. The queue is first in, first out, and no command touches it. [DESIGN CHOICE, log entry 1] -/
def step (s : State) : Host.Outcome State Fault Refusal :=
  match s.pending with
  | [] => .next s
  | i :: rest => exec i { s with pending := rest }

/-- `s` with the command that a word spells at the front of the queue: `s`, since no word spells one. [DESIGN CHOICE, log entry 4] -/
def State.withFetchWord (s : State) (nbits w : Nat) : State :=
  match decodeTableWord nbits w with
  | some i => { s with pending := i :: s.pending }
  | none => s

end Sys2Proof.Machine
end

