-- ==== Sys2Proof/Safety.lean ====
section
/-! DEFINITION. What a sound state, a running block and a safe run are, and what it means that a command ends with an
effect. -/
namespace Sys2Proof

open Machine

/-- A sound state: the build is a legal one (R3), and every command that waits can happen on it. -/
def Sound (s : State) : Prop := s.build.ok = true ∧ ∀ i ∈ s.pending, wellFormed s.build i = true

/-- A run of `k` steps from `s` is safe: it ends in no fault and in no refusal. -/
def SafeRun (k : Nat) (s : State) : Prop := ∃ t, core.run k s = .next t

/-- No reset is asserted and the part is not DARK: every command can act (R250, R253). -/
abbrev Running (s : State) : Prop := s.shell.porstLow = false ∧ s.shell.blkRstLow = false ∧ s.mode.power ≠ .dark

/-- A requester on KRP whose number is no sequencer's (R357, R389). -/
abbrev Requester (rq : Acc) : Prop := rq.id < 0xFFF0

/-- Such a requester with the secure attribute (R9). -/
abbrev Secure (rq : Acc) : Prop := rq.id < 0xFFF0 ∧ rq.sec = true

/-- Command `c` completes from `s`: exec answers a next state, the one that its own effect `f` on `s` (what the step before
sent having been taken) concludes in. -/
def Does (c : Instr) (s : State) (f : State → State) : Prop :=
  exec c s = .next (concluded (clearSent s) (f (clearSent s)))

/-- The requester whose access a command with a row of its own is; the response echoes it (R388). -/
def requester : Instr → Nat
  | .stepArm _ q | .stepConfigWrite _ q | .stepSkip _ q | .stepHalt _ q | .stepDisarm _ q | .stepRecover q | .stepJoin _ q
  | .stepCert _ q | .stepFetch _ _ q | .stepRevote _ q | .resMismatchAck _ _ q | .pipMismatchAck _ _ q
  | .collMismatchAck _ q | .stepCovAck _ q | .stepVerdictAck _ q | .stepDecisionAck _ q | .mirrorCheckAck _ q
  | .qrsEventAck _ q | .modeRefusedAck _ q | .faultFirstAck _ q | .hangEventAck _ q | .stopAck _ q | .configEventAck _ q
  | .obsDumpResultAck _ q | .melPair _ q | .melRepair q | .melUnpair q | .melPull _ _ q | .melAbortPull q | .qrsFence _ _ q
  | .qrsStruct _ _ q | .qrsSelftest _ _ q | .qrsReturnChecker _ _ q | .qrsReconcile _ q | .qrsCancel _ q
  | .modeLevelReqWrite _ q | .modeQuiesce q | .modeResume q | .faultPendingWrite _ q | .faultEscalate _ q
  | .faultInject _ q | .ladderStop q | .searchReplay _ q | .searchDone q | .searchEnd q | .recorderRdSel _ q
  | .recArchive _ q | .recVerify _ q | .recClear _ q | .dmaResume _ q | .dmaAbandon _ q | .xlateInvAll q
  | .xlateInvRange _ q | .configBegin q | .configReload _ q | .configEnd q | .configAbort q | .configLoadData _ q
  | .seqRestart _ q | .seqFreeze _ q | .seqThaw _ q | .seqTraceSel _ q | .mbInPtr _ _ q | .mbInDb _ _ q
  | .mbOutRxDone _ _ q | .mbOutDb _ _ q | .collisionClear _ _ _ q | .registerWrite _ _ q | .secLoadCert _ _ _ q
  | .secCommitState _ q | .secSeal _ q | .secLock _ q | .secReprovision _ q | .secZeroise q | .secUnwrap _ _ _ q
  | .secLoadPermit _ _ q | .secClearPermits q | .casRetrain q | .riserTrain q | .fuseRead q | .selftestAll q
  | .structAll _ q | .memtestStart _ q | .memtestAbort q | .cntClearStart _ _ _ q | .cntFreeze _ _ _ q | .cntRun _ _ _ q
  | .obsRingSel _ q | .dumpArm _ q | .dumpCancel q => q.id
  | _ => 0

/-- Register write `c` completes from `s` with the response OK and the effect `f`; the access is counted (R388, R473). -/
def Writes (c : Instr) (s : State) (f : State → State) : Prop :=
  Does c s fun a => krpDone (f (cnt a 10)) (requester c) 0 0

/-- Protected messages with sequence number `q` are taken: the link is judged good, the receive key is held and `q` is new
(R182, R183). -/
def TakesSeq (s : State) (q : Nat) : Prop :=
  s.mirror.link ≠ .miswired ∧ s.mirror.link ≠ .incompatible ∧ s.mirror.rxKey.isSome = true ∧
    ∀ r, s.mirror.rxSeq = some r → r < q

/-- A protected message has been taken: it is counted and its sequence number is the last one (R182, R389, R473). -/
def taken (s : State) (q : Nat) : State := modMir (netGot s) fun m => { m with rxSeq := some q }

/-- Core `n` runs, stands in no global stop, and the legal instruction `w` of opcode `op` is at its PC, in a word that its store
reads without an error (R291, R349, R351, R355). -/
def Issues (s : State) (n op w : Nat) : Prop :=
  (Machine.core s n).state = .run ∧ seqFrozen s n = false ∧ (Machine.core s n).codeErr.contains (Machine.core s n).pc = false ∧
    seqWord (Machine.core s n) = w ∧ instrLegal w = true ∧ iOp w = op

/-- The commands that write a register which takes writes from secure requesters only, or a secure mailbox channel's, with
their requester (R364, R486). -/
def secureCmd : Instr → Option Acc
  | .casRetrain q | .configEventAck _ q | .configBegin q | .configReload _ q | .configEnd q | .configAbort q
  | .configLoadData _ q | .dmaResume _ q | .dmaAbandon _ q | .xlateInvAll q | .xlateInvRange _ q | .secLoadCert _ _ _ q
  | .secCommitState _ q | .secSeal _ q | .secLock _ q | .secReprovision _ q | .secZeroise q | .secUnwrap _ _ _ q
  | .secLoadPermit _ _ q | .secClearPermits q | .modeLevelReqWrite _ q | .faultPendingWrite _ q | .faultFirstAck _ q
  | .faultEscalate _ q | .faultInject _ q | .hangEventAck _ q | .stopAck _ q | .ladderStop q | .searchReplay _ q
  | .searchDone q | .searchEnd q | .obsDumpResultAck _ q | .cntClearStart _ _ _ q | .cntFreeze _ _ _ q | .cntRun _ _ _ q
  | .obsRingSel _ q | .dumpArm _ q | .dumpCancel q | .riserTrain q | .fuseRead q | .selftestAll q | .structAll _ q
  | .memtestStart _ q | .memtestAbort q | .recArchive _ q | .recVerify _ q | .recClear _ q | .seqRestart _ q
  | .seqFreeze _ q | .seqThaw _ q | .seqTraceSel _ q => some q
  | .mbInPtr c _ q | .mbInDb c _ q | .mbOutRxDone c _ q | .mbOutDb c _ q | .collisionClear c _ _ q =>
    if c < 4 then some q else none
  | _ => none

/-- The commands of the units that a reset does not hold: the reset pins, the supervisor and JTAG (R378, R379). -/
def outsideSpine : Instr → Bool
  | .porstAssert | .porstRelease _ | .blkRstAssert | .blkRstRelease _ | .railOut _ | .railIn _ | .emramInterlock
  | .clusterVddcOut _ | .clusterVddcIn _ | .jtagIdcode | .jtagAccess | .jtagBypass | .instrumentInclude _
  | .droopWindow _ _ | .tamperN | .keySeed _ | .keySeedTimeout | .tsensReading _ _ | .onDieSensorRead _ _
  | .sensorTimeout _ | .sensorStuck _ | .sensorRecover _ => true
  | _ => false

/-- The watch of a tile stands as it should: on while the tile is busy and watched, off otherwise; one that has hung stays off
(R275, R278). -/
def watchSettled (s : State) (n : Nat) : Bool :=
  let w := (tile s n).watch
  let due := tileBusy s n && watched s n
  if w.on then due else !due || w.hung

/-- A quiet block: no work is left over, no unit is about to go on by itself, and the tiles are in their canonical form. -/
def Quiet (s : State) : Prop :=
  s.work = [] ∧ s.step.gate.held = [] ∧ s.step.eng.runs = [] ∧
  (∀ t ∈ s.tiles, watchSettled s t.1 = true ∧ t.2.pos.orphan = false ∧ t.2.pos.selfTest = none ∧ t.2.pos.autoWait = false ∧
    (t.2.arb.state == .selfTest && !t.2.arb.tested) = false) ∧
  (∀ n, n < 4 → (Machine.core s n).overloadRaised = false) ∧
  (isArmed s && isDecode s && s.step.eng.phase == .fwd && groupDone s) = false ∧
  (s.stop.state ≠ 1 ∨ s.stop.marked = false) ∧ swf {} s.tiles = true

end Sys2Proof
end

