-- ==== Sys2Proof/Certificates/Slice0/Obligations.lean ====
section
/-! DEFINITION. The statements for the provers. `Does c s f` says that command `c` completes from `s` with the effect `f`;
`Writes` says the same of a register write, with its access counted and answered OK. -/

open Sys2Proof Sys2Proof.Machine

/-- R18, R23, R14: an accepted sample becomes TIME and ends the oscillator's estimate; after 10 µs without an advance block
time runs on the oscillator at 4/5, the first advance after that is held, and the second of two successive ones brings TRACKING
back with a record of the lost interval; a window below 1.5 G tokens/s raises RATE_LOW once; a riser that goes down is taken out of
GLOBAL_RISER_UP, raises RISER_DOWN, and every checker of its column is lost. It uses definitions with conventions of the model: log entry 8. -/
def Obligations.TimeKeeping : Prop :=
  (∀ s v osc, Running s → s.time.state = .tracking → bitOf v 63 = false → s.time.time < v.toNat →
    v.toNat ≤ s.time.time + 1000000 → Does (.timeSample v osc) s fun a =>
      { a with time := { a.time with
        time := v.toNat, osc := 0, discarding := false, elapsed := a.time.elapsed + 5 * (v.toNat - a.time.time) } }) ∧
  (∀ s osc, Running s → s.time.state = .tracking → Does (.timeLost osc) s fun a =>
      raisePort (cnt { a with time := { a.time with
        state := .lost, lostSeen := true, lostFrom := a.time.time, heard := a.time.time, good := 0, osc := osc,
        elapsed := a.time.elapsed + 4 * osc } } 14) (fcode 9 2 0) 12 0 s.time.time) ∧
  (∀ s v osc, Running s → s.time.state = .lost → s.time.good = 0 → bitOf v 63 = false → s.time.heard < v.toNat →
    Does (.timeSample v osc) s fun a =>
      { a with time := { a.time with
        heard := v.toNat, good := 1, discarding := false, osc := osc, elapsed := a.time.elapsed + 4 * (osc - a.time.osc) } }) ∧
  (∀ s v osc, Running s → s.time.state = .lost → s.time.good ≠ 0 → bitOf v 63 = false → s.time.heard < v.toNat →
    Does (.timeSample v osc) s fun a =>
      let b : State := { a with time := { a.time with
        state := .tracking, time := v.toNat, good := 0, discarding := false, osc := 0,
        elapsed := a.time.elapsed + 4 * (osc - a.time.osc) } }
      record b 9 5 [BitVec.ofNat 64 s.time.lostFrom, stamp b]) ∧
  (∀ s spine slowest k, Running s → s.time.slow = false → (spine < 1500 ∨ slowest < 1500) →
    Does (.rateWindowEnd spine slowest k) s fun a =>
      let w := pack [(32, 8, part s (s.build.clusterFirst k)), (16, 16, slowest), (0, 16, spine)]
      raiseI { a with time := { a.time with rate := w, slow := true } } (fcode 9 1 2) 5 w.toNat) ∧
  (∀ s c, Running s → c < s.build.cols → c ∈ s.time.risers → Does (.riserDown c) s fun a =>
      post (raiseI { a with time := { a.time with risers := a.time.risers.filter (· != c) } } (fcode 5 2 10) 5 c)
        (.loseCheckers (s.build.positions.filter fun n => s.build.col n == c)))

/-- R422–R424, R397: a legal reading of a configured sensor is taken, the neighbour condition is applied to it and the law is
evaluated; a judged sensor that times out or sticks becomes broken with its CAUSE, is recorded, raises SENSOR_BROKEN and counts in
BREAKS; a broken one that has passed every check for 1 s is valid again. It uses definitions with conventions of the model: log entries 130, 152. -/
def Obligations.SensorReadings : Prop :=
  (∀ s i code, Running s → i < 256 → 192 ≤ code → code ≤ 1712 → sensOn s (256 + i) = true →
    Does (.tsensReading i code) s fun a =>
      post (judgeNear (updSensor a (256 + i) fun r => { r with raw := code, read := true }) (256 + i)) .thermal) ∧
  (∀ s k code, Running s → k < s.build.clusters → 192 ≤ code → code ≤ 1712 → sensOn s k = true →
    k ∉ s.supply.clustersOut → riserUp s (s.build.clusterFirst k) = true → Does (.onDieSensorRead k code) s fun a =>
      post (judgeNear (updSensor a k fun r => { r with raw := code, read := true }) k) .thermal) ∧
  (∀ s x, Running s → x < 512 → judged s x = true → Does (.sensorTimeout x) s fun a =>
      post (raise (envRecord 5 x (sensor s x).raw (updSensor a x fun r =>
          { r with broken := true, cause := 3, breaks := min (r.breaks + 1) 65535 }))
        { code := fcode 9 1 3, access := 9, master := 0x200 + x, addr := (sensor s x).raw, part := sensPartKnown s x })
        .thermal) ∧
  (∀ s x, Running s → x < 512 → judged s x = true → (sensor s x).read = true → Does (.sensorStuck x) s fun a =>
      post (raise (envRecord 5 x (sensor s x).raw (updSensor a x fun r =>
          { r with broken := true, cause := 2, breaks := min (r.breaks + 1) 65535 }))
        { code := fcode 9 1 3, access := 9, master := 0x200 + x, addr := (sensor s x).raw, part := sensPartKnown s x })
        .thermal) ∧
  (∀ s x, Running s → x < 512 → (sensor s x).broken = true → sensMasked s x = false → Does (.sensorRecover x) s fun a =>
      post (envRecord 6 x (sensor s x).raw (updSensor a x fun r => { r with broken := false })) .thermal)

/-- R414–R418, R300: an excursion and its end are recorded; VDDIO or VDDNV out of range inhibits eMRAM writes and raises RAIL_RANGE; VDDS or VDDA takes the block to DARK
with its gates closed and its keys gone; a rail back in range ends the inhibition once every rail and cluster is in range; a cluster's excursion
counts, raises RAIL_RANGE, loses its checkers and makes the requirement STEP with REASON 14 (in DECODE it discards the open
groups' tokens); its return gives the checkers back; a window below DROOP_MV counts and raises DROOP. It uses definitions with conventions of the model: log entry 152. -/
def Obligations.SupplyEvents : Prop :=
  (∀ s r, Running s → (r = 2 ∨ r = 4) → (rail s r).out = false → Does (.railOut r) s fun a =>
      raise (envRecord 3 r (rail s r).now (updRail (modSup (cutWrite a) fun p => { p with inhibit := true }) r fun x =>
          { x with out := true, seen := true }))
        { code := fcode 9 2 6, access := 9, master := 0x100 + r, addr := (rail s r).now }) ∧
  (∀ s r, Running s → (r = 1 ∨ r = 3) → (rail s r).out = false → Does (.railOut r) s fun a =>
      keysLost (setPower (modSup (modGate (modEng (updRail (modSup (cutWrite a) fun p => { p with inhibit := true }) r fun x =>
        { x with out := true, seen := true }) fun e => { e with commitClosed := true }) fun g => { g with closed := true })
        fun p => { p with inhibit := true }) .dark)) ∧
  (∀ s r, Running s → 1 ≤ r → r < 5 → Does (.railIn r) s fun a =>
      let b := updRail a r fun x => { x with out := false }
      let b := if allInRange b && s.supply.inhibit then post (modSup b fun p => { p with inhibit := false }) .writesAllowed else b
      if (rail s r).out then envRecord 4 r (rail b r).now b else b) ∧
  (∀ s, Running s → Does .emramInterlock s fun a => modSup (cutWrite a) fun p => { p with inhibit := true }) ∧
  (∀ s k, Running s → k < s.build.clusters → k ∉ s.supply.clustersOut →
    Does (.clusterVddcOut k) s fun a =>
      post (post (raise (envRecord 1 k (sget {} s.supply.droops k).last (updRail (modSup (modSup (cutWrite a) fun p =>
            { p with inhibit := true }) fun p =>
            { p with clustersOut := insertNat p.clustersOut k, excursions := min (p.excursions + 1) 65535 }) 0 fun r =>
            { r with seen := true }))
          { code := fcode 9 2 6, access := 9, master := k, addr := (sget {} s.supply.droops k).last,
            part := partOf s (s.build.clusterFirst k) }) (.loseCheckers (clusterPositions s k))) (if isDecode s then .badOpen else .require 4 false none 14)) ∧
  (∀ s k, Running s → k < s.build.clusters → k ∈ s.supply.clustersOut → Does (.clusterVddcIn k) s fun a =>
      let b := modSup a fun p => { p with clustersOut := p.clustersOut.filter (· != k) }
      (clusterPositions s k).foldl (fun b n => post b (.regainChecker n))
        (envRecord 2 k (sget {} s.supply.droops k).last
          (if allInRange b && s.supply.inhibit then post (modSup b fun p => { p with inhibit := false }) .writesAllowed else b))) ∧
  (∀ s k mv, Running s → k < s.build.clusters → mv < droopLimit s → Does (.droopWindow [(k, mv)] []) s fun a =>
      railReading (modSup (raise (modSup a fun p => { p with droops := supd {} p.droops k fun d =>
          { below := min (d.below + 1) 65535, last := mv, read := true, min := if d.read then min d.min mv else mv } })
          { code := fcode 9 1 5, access := 9, master := k, addr := mv, part := partOf s (s.build.clusterFirst k) })
        fun p => { p with minCluster := k, minMv := mv }) 0 mv)

/-- R398, R399, R434, R435, R440: the first KEY_SEED makes the granary, attestation, KEM and pip keys and the state word is
read; none in 10 ms raises KEY_SEED_RANGE; the 128th good word completes the fuse map, a late one stops it; TAMPER_N raises
TAMPER, marks LOCK_PENDING where TAMPER_LOCK asks for it, and zeroises. It uses definitions with conventions of the model: log entries 11, 132. -/
def Obligations.SeedFuseAndTamper : Prop :=
  (∀ s seed, Running s → s.shell.keySeedReady = true →
    let v := leNat (wordsBytes ((upto 4).map fun i => BitVec.ofNat 64 (nthN seed i)))
    v ≠ 0 → v ≠ 2 ^ 256 - 1 → Does (.keySeed seed) s fun a =>
      readState { a with
        shell := { a.shell with keySeedReady := false }
        sec := { a.sec with
          seed := some v, grn := some (derive v 1 []), att := some (derive v 2 []), kem := some (kemSeed v),
          pip := some (derive v 5 [Config.draw s.sec.bootSalt]) } }) ∧
  (∀ s, Running s → s.shell.keySeedReady = true → Does .keySeedTimeout s fun a =>
      raisePort { a with shell := { a.shell with keySeedReady := false } } (fcode 12 3 2) 14 0 0) ∧
  (∀ s w, Running s → s.shell.fuseReading = true → s.shell.fuseBuf.length < 127 →
    fuseWordBad s s.shell.fuseBuf.length w = false → Does (.fuseMapTransfer w) s fun a =>
      { a with shell := { a.shell with fuseBuf := a.shell.fuseBuf ++ [w] } }) ∧
  (∀ s w, Running s → s.shell.fuseReading = true → s.shell.fuseBuf.length = 127 →
    fuseWordBad s 127 w = false → s.bring.busy = false → Does (.fuseMapTransfer w) s fun a =>
      { a with
        shell := { a.shell with fuseReading := false, fuseBuf := [], fuseWords := s.shell.fuseBuf ++ [w] }
        bring := { a.bring with fuseOk := true } }) ∧
  (∀ s, Running s → s.shell.fuseReading = true → Does .fuseTimeout s fun a =>
      raisePort { a with shell := { a.shell with fuseReading := false, fuseBuf := [] } } fcPortTimeout 14 1 0) ∧
  (∀ s, Running s → tamperLock s = true → s.sec.state.isSome = true → secState s ≠ .locked → s.supply.inhibit = false →
    Does .tamperN s fun a =>
      post (raiseI (modSec (putState (modSec a fun u => { u with tamperSeen := true }) (secState s) true s.sec.provisions)
        fun u => { u with lockPending := true }) (fcode 12 3 0) 4) (.zeroise 0))

/-- R437, R439, R442, R446, R447: each security command, secure and outside the safe state, in a state that allows it, does
what the tables of R439 and R447 give it and ends with DONE. It uses definitions with conventions of the model: log entries 11, 128. -/
def Obligations.SecurityCommands : Prop :=
  ∀ s rq, Running s → Secure rq → s.fault.safe = false →
  (∀ cert sigOk sig, secState s ≠ .locked → s.sec.att.isSome = true → s.sec.kem.isSome = true →
    cert.length = 6768 → sig.length = 4632 → leNat (cert.take 8) = 1 →
    s.sec.att.map Config.attPublic = some ((cert.drop 16).take 2592) →
    s.sec.kem.map Config.kemPublic = some ((cert.drop 2608).take 1568) → leNat ((cert.drop 8).take 8) = Config.sha3_384 ((cert.drop 16).take 2592) % 2 ^ 64 →
    secBlank s = false → Config.sha3_384 ((cert.drop 4176).take 2592) = attRoot s → sigOk = true →
    Writes (.secLoadCert cert sigOk sig rq) s fun a =>
      secResult (modSec a fun u => { u with certOk := true, cert := cert ++ sig }) 1 1) ∧
  (secState s = .provision → s.sec.state.isSome = true → s.sec.certOk = true → (secTarget s = 1 ∨ secTarget s = 2) →
    s.supply.inhibit = false → Writes (.secCommitState true rq) s fun a =>
      let b := bumpGen (putState a (secOf (secTarget s)) s.sec.lockPending s.sec.provisions)
      secResult (modGran (modSec { b with shell := scanPath (secOf (secTarget s)) a.shell } fun u =>
        { u with state := some (secOf (secTarget s)), lockPending := s.sec.lockPending, provisions := s.sec.provisions })
        fun g => { g with deviceId := deviceId s }) 2 1) ∧
  (secState s = .open_ → isArmed s = false → s.supply.inhibit = false → Writes (.secSeal true rq) s fun a =>
      let b := bumpGen (putState a .sealed_ s.sec.lockPending s.sec.provisions)
      secResult (modSec { b with shell := scanPath .sealed_ a.shell } fun u =>
        { u with state := some .sealed_, permits := [] }) 3 1) ∧
  (secState s ≠ .locked → s.supply.inhibit = false → Writes (.secLock true rq) s fun a =>
      let b := bumpGen (putState a .locked s.sec.lockPending s.sec.provisions)
      secResult (post (modSec { b with shell := scanPath .locked a.shell } fun u =>
        { u with state := some .locked }) (.zeroise 2)) 4 1) ∧
  (secState s = .locked → s.sec.state.isSome = true → reprovisionId s ≠ 0 → reprovisionId s = deviceId s →
    s.supply.inhibit = false → Writes (.secReprovision true rq) s fun a =>
      let b := bumpGen (putState a .provision s.sec.lockPending (min (s.sec.provisions + 1) 65535))
      secResult (modSec { b with shell := scanPath .provision a.shell } fun u =>
        { u with state := some .provision, provisions := min (s.sec.provisions + 1) 65535 }) 5 1) ∧
  Writes (.secZeroise rq) s (fun a => secResult (post (raiseI a (fcode 12 0 3) 4) (.zeroise 1)) 6 1) ∧
  (∀ blob key kem, (secState s = .open_ ∨ secState s = .sealed_) → s.sec.arg ≠ 0 → s.sec.kem = some kem →
    let shared := Config.kem kem (leNat ((blob.drop 8).take 1568))
    let k := leNat (Config.openBytes (Config.kmac 256 shared custJobKey [leNat (blob.take 8)]) 0 (key.take 32))
    Writes (.secUnwrap blob true key rq) s fun a => secResult (modSec a fun u =>
      { u with
        job := some k, jobId := leNat (blob.take 4), jobUsed := false,
        step := if u.spent then none else some (Config.kmac 256 k custKdf [8, leNat (blob.take 4)]) }) 7 1) ∧
  (∀ ws i, secState s = .sealed_ → (upto 16).find? (fun i => (sget {} s.sec.permits i).uses == 0) = some i →
    secBlank s = false → fld (nthW ws 0) 7 0 = 1 → fld (nthW ws 0) 15 8 = instNo s → fld (nthW ws 0) 31 16 = chipNo s →
    fld (nthW ws 0) 47 32 ≠ 0 → permitHeld s (nthW ws 5) = false → Writes (.secLoadPermit ws true rq) s fun a =>
      secResult (modSec a fun u => { u with permits := sset {} u.permits i (Permit.mk (nthW ws 1) (nthW ws 2)
        (nthW ws 3) (nthW ws 4) (nthW ws 5) (fld (nthW ws 0) 47 32)) }) 8 1) ∧
  (secState s = .sealed_ → Writes (.secClearPermits rq) s fun a =>
    secResult (modSec a fun u => { u with permits := [] }) 9 1)

/-- R250, R253, R284, R398: PORST_N resets the whole block but what the granary and the supplies hold, and its release raises
key_seed_ready, draws a BOOT_SALT and ends DARK; BLK_RST_N resets all but the supervisor's units, and its release starts the
spine. It uses definitions with conventions of the model: log entries 20, 75, 106, 108, 128. -/
def Obligations.ResetPins : Prop :=
  (∀ s, s.shell.porstLow = false → Does .porstAssert s fun a =>
      { build := a.build, gran := a.gran, mode := { power := a.mode.power }, sec := { drawn := a.sec.drawn },
        ladder := { pwrCyc := a.ladder.pwrCyc }, supply := a.supply,
        shell := scanPath .locked { porstLow := true, blkRstLow := a.shell.blkRstLow, jtag := a.shell.jtag, included := a.shell.included, denied := a.shell.denied } }) ∧
  (∀ s strap, s.shell.porstLow = true → s.shell.blkRstLow = false → Does (.porstRelease strap) s fun a =>
      spineRelease strap { a with
        shell := { a.shell with porstLow := false, keySeedReady := true }, ladder := {}, supply := supplyKept a,
        mode := { a.mode with power := .run }, sec := { a.sec with drawn := a.sec.drawn + 1, bootSalt := a.sec.drawn } }) ∧
  (∀ s, s.shell.porstLow = false → s.shell.blkRstLow = false → Does .blkRstAssert s fun a =>
      { chipReset a with shell := { (chipReset a).shell with blkRstLow := true } }) ∧
  (∀ s strap, s.shell.porstLow = false → s.shell.blkRstLow = true → s.mode.power ≠ .dark →
    Does (.blkRstRelease strap) s fun a => spineRelease strap { a with shell := { a.shell with blkRstLow := false } })

/-- R242, R250, R251, R254: outside the safe state a write of MODE_LEVEL_REQ with legal levels stores each field; QUIESCE
ends RUN or THROTTLE; RESUME ends QUIESCE as the law has it; writing the held SEQ consumes MODE_REFUSED. -/
def Obligations.ModeCommands : Prop :=
  ∀ s rq, Running s → Requester rq →
  (∀ v, rq.sec = true → s.fault.safe = false → isDecode s = false → (∀ c < 16, fld v (3 * c + 2) (3 * c) < 6) →
    Writes (.modeLevelReqWrite v rq) s fun a =>
      { a with mode := { a.mode with
        levelReq := (upto 16).foldl (fun w c => setFld w (3 * c + 2) (3 * c) (fld v (3 * c + 2) (3 * c))) a.mode.levelReq } }) ∧
  (s.fault.safe = false → recovery s < 3 → (s.mode.power = .run ∨ s.mode.power = .throttle) →
    Writes (.modeQuiesce rq) s fun a =>
      { setPower a .quiesce with mode := { (setPower a .quiesce).mode with quiesceByStop := false } }) ∧
  (s.fault.safe = false → recovery s < 3 → s.mode.power = .quiesce → s.stop.state = 0 →
    Writes (.modeResume rq) s fun a => setPower a (if lawActive a then .throttle else .run)) ∧
  (∀ v, s.mode.refused.valid = true → fld v 15 0 = s.mode.refused.seq → Writes (.modeRefusedAck v rq) s fun a =>
      { a with mode := { a.mode with refused := { a.mode.refused with valid := false } } })

/-- R258, R260, R263, R266, R268, R270–R272: a secure write of FAULT_PENDING clears the WARN and ERROR bits it names and stops the
timers of the ERROR bits; the held sequence number consumes the first-error record; ESCALATE asks for its rung; FAULT_INJECT
presents a capture of the code it names; an expired reaction timer asks for its action; bits of one copy of a word of the collector turn (which copy, word and bits are
free values: log entries 12, 149) and both copies and their parity are then checked; a capture it could not take, which is
counted and recorded, is a collector fault. It uses definitions with conventions of the model: log entries 94, 149. -/
def Obligations.FaultCommands : Prop :=
  (∀ s rq v, Running s → Secure rq → Writes (.faultPendingWrite v rq) s fun a =>
      let hit := BitVec.ofNat 64 (fld v 47 16 * 2 ^ 16) &&& a.fault.pending
      (upto 16).foldl (fun b c => if bitOf hit (32 + c) then reactStop b c else b)
        { a with fault := { a.fault with pending := a.fault.pending ^^^ hit } }) ∧
  (∀ s rq v, Running s → Secure rq → s.fault.first.valid = true → fld v 15 0 = fld s.fault.first.info 47 32 →
    Writes (.faultFirstAck v rq) s fun a => { a with fault := { a.fault with
      first := { a.fault.first with valid := false, info := setFld a.fault.first.info 63 63 0 } } }) ∧
  (∀ s rq v, Running s → Secure rq → fld v 63 60 = 1 → escalateOk s (fld v 59 56) (fld v 15 0) = true →
    Writes (.faultEscalate v rq) s fun a =>
      post a (.rung ⟨fld v 59 56, cmdTarget a (fld v 59 56) (fld v 15 0)⟩)) ∧
  (∀ s rq v, Running s → Secure rq → codeKnown (fld v 15 0) = true → Writes (.faultInject v rq) s fun a =>
      raise a { code := fld v 15 0, access := 11, master := rq.id, addr := fld v 63 16 }) ∧
  (∀ s c, Running s → c < 16 → (react s c).running = true → s.fault.safe = false → Does (.reactionTimerExpiry c) s fun a =>
      let r := react a c
      post (latch (updReact a c fun r => { r with running := false, expired := true, remain := 0 }) 2 2)
        (.rung ⟨resolveRung r.action r.target, r.target⟩)) ∧
  (∀ s, Running s → Does .collectorParity s fun a =>
      let m := Config.draw (a.sec.drawn + 2) % (2 ^ 72 - 1) + 1
      let word := Config.draw (a.sec.drawn + 1) % (collectorWords a.fault).length
      let flaw := Flaw.mk (Config.draw a.sec.drawn % 2 == 1) word (BitVec.ofNat 64 m) (m / 2 ^ 64)
      collectorCheck { a with
        sec := { a.sec with drawn := a.sec.drawn + 3 }
        fault := { a.fault with flaws := a.fault.flaws ++ [flaw] } }) ∧
  (∀ s c, Running s → Does (.collectorGrantTimeout c) s fun a =>
      let b := countCap a c
      let b := if fsev c.code = 0 then b
        else setPending { b with fault := { b.fault with histLost := min (b.fault.histLost + 1) 65535 } } c
      raiseI (faultRecord snapReg b c b.fault.seq) (fcode 15 3 1) 0)

/-- R280, R282, R284, R285, R294, R401: the acknowledgement of a CONTEXT, ENGINE or PARTITION rung carries it out and, with
nothing deferred, ends the ladder's recovery level; a timeout raises its fault and starts the next rung that holds the target;
a reset request not taken raises PORT_TIMEOUT; the end of a rung's crash dump raises CHIP_RST_REQ; the acknowledgement of a
power-cycle request, or its absence for 100 ms, asserts PWRCYC_REQ_N and takes the block to DARK. It uses definitions with conventions of the model: log entries 102, 103, 104, 105, 120, 154, 156. -/
def Obligations.LadderSteps : Prop :=
  (∀ s ctx, Running s → s.ladder.engReq = some (0, ctx) → s.ladder.rung = 1 → Does (.engRstAck 0 ctx) s fun a =>
      rungOver (ladderRec (contextReset a (rungKey ⟨1, a.ladder.target⟩)) 3 (rungWords ⟨1, a.ladder.target⟩))) ∧
  (∀ s n, Running s → s.ladder.engReq = some (1, n) → s.ladder.rung = 2 → Does (.engRstAck 1 n) s fun a =>
      rungOver (ladderRec (engineReset a (rungKey ⟨2, a.ladder.target⟩)) 3 (rungWords ⟨2, a.ladder.target⟩))) ∧
  (∀ s p cs, Running s → p < s.build.partitions → (∀ c ∈ cs, c < s.build.cols) → s.ladder.partReq = some p →
    s.ladder.rung = 3 → Does (.partRstAck p cs) s fun a =>
      rungOver (ladderRec (partitionReset a (rungKey ⟨3, a.ladder.target⟩) cs) 3 (rungWords ⟨3, a.ladder.target⟩))) ∧
  (∀ s scope id, Running s → s.ladder.engReq = some (scope, id) → s.fault.safe = false → Does .resetEngTimeout s fun a =>
      let t := fullTarget a a.ladder.target
      rungStart (raise a ⟨fcode 7 2 3, 8, 0xF000, scopePayload scope id, t.part, t.ctx, t.tile, []⟩) ⟨resolveRung (a.ladder.rung + 1) t, t⟩) ∧
  (∀ s p, Running s → s.ladder.partReq = some p → s.ladder.rung = 3 → s.fault.safe = false →
    Does .resetPartTimeout s fun a =>
      let t := a.ladder.target
      rungStart (raise a ⟨fcode 7 2 4, 8, 0xF001, p, t.part, t.ctx, t.tile, []⟩) ⟨4, fullTarget a t⟩) ∧
  (∀ s, Running s → s.ladder.rung = 4 → s.ladder.stage = 2 → Does .resetChipTimeout s fun a =>
      rungStart (raiseI a (fcode 7 3 5) 5) ⟨5, fullTarget a a.ladder.target⟩) ∧
  (∀ s scope id, Running s → s.ladder.engReq = some (scope, id) → Does (.rstReqNotTaken 0) s fun a =>
      raisePort a (fcode 8 2 1) 15 0 (scopePayload scope id)) ∧
  (∀ s p, Running s → s.ladder.engReq = none → s.ladder.partReq = some p → Does (.rstReqNotTaken 1) s fun a =>
      raisePort a (fcode 8 2 1) 15 1 p) ∧
  (∀ s cut, Running s → s.stop.state = 2 → s.stop.crash = true → s.stop.cur = none → s.stop.due = [] →
    Does (.crashDumpEnd cut) s fun a => rungRequests (stopEnds a)) ∧
  (∀ s, Running s → s.ladder.trayWait = true → Does .powerCycleAck s fun a =>
      goDark { a with ladder := { a.ladder with trayWait := false, pwrCyc := true } }) ∧
  (∀ s, Running s → s.ladder.trayWait = true → Does .trayAckTimeout s fun a =>
      goDark { a with ladder := { a.ladder with trayWait := false, pwrCyc := true } })

/-- R286–R288, R291–R293, R296, R297: STOP enters QUIESCE and waits for a marker, and a master tells its members;
STOP_TIMEOUT begins the dump; once every image is written the index goes to the granary and the stop ends; the held SEQ
consumes STOP_STATUS and HANG_EVENT; SEARCH_REPLAY takes a suspect, SEARCH_DONE makes it CLEAN or, where its tile mismatched
without arbitration, guilty; SEARCH_END abandons the search. It uses definitions with conventions of the model: log entry 99. -/
def Obligations.StopAndSearch : Prop :=
  (∀ s rq, Running s → Secure rq → s.stop.state = 0 → s.fault.safe = false → Writes (.ladderStop rq) s fun a =>
      let b := enterQuiesce { a with stop := { state := 1, base := a.stop.base, size := a.stop.size } } true
      if isMaster b then casSend b 8 0xFF [] else b) ∧
  (∀ s, Running s → s.stop.state = 1 → Does .stopTimeout s fun a => dumpBegins false a) ∧
  (∀ s, Running s → s.stop.state = 2 → s.stop.cur = none → s.stop.crash = false → s.supply.inhibit = false →
    Does .dumpWritten s fun a => stopEnds a) ∧
  (∀ s rq v, Running s → Secure rq → s.stopReg.valid = true → fld v 15 0 = s.stopReg.seq → Writes (.stopAck v rq) s fun a =>
      { a with stopReg := { a.stopReg with valid := false } }) ∧
  (∀ s rq v, Running s → Secure rq → s.hangReg.valid = true → fld v 15 0 = s.hangReg.seq →
    Writes (.hangEventAck v rq) s fun a => { a with hangReg := { a.hangReg with valid := false } }) ∧
  (∀ s rq v x, Running s → Secure rq → s.search.state = 1 → s.search.hung.suspects[fld v 3 0]? = some x →
    (x.result = 0 ∨ x.result = 4) → Writes (.searchReplay v rq) s fun a =>
      { a with search := { a.search with
        state := 2, current := fld v 3 0, mismatch := false
        hung := { a.search.hung with suspects := a.search.hung.suspects.set (fld v 3 0) { x with result := 0 } } } }) ∧
  (∀ s rq, Running s → Secure rq → s.search.state = 2 → s.search.mismatch = false → Writes (.searchDone rq) s fun a =>
      let b := suspectResult a 1
      if b.search.hung.suspects.all fun x => x.result == 1 then
        let n := b.search.hung.tile
        searchEnds (raise b
          { code := fcode 7 1 2, access := 7, master := n, addr := b.search.hung.ident, part := partOf b n, tile := some n }) 2
      else { b with search := { b.search with state := 1, mismatch := false } }) ∧
  (∀ s rq, Running s → Secure rq → s.search.state = 2 → s.search.mismatch = true →
    (tile s s.search.hung.tile).arb.state ≠ .idle → Writes (.searchDone rq) s fun a =>
      { a with search := { a.search with state := 3 } }) ∧
  (∀ s rq, Running s → Secure rq → s.search.state ≠ 0 → Writes (.searchEnd rq) s fun a =>
      post { a with search := { a.search with state := 0, result := 3, mismatch := false } } .search)

/-- R20, R25, R381–R384: a descriptor word joins the words before it, the sixth completes the descriptor; a beat of an open
stream is counted in the interval of its operation, as dropped where the checker that opened it does not take it, unless no
powered checker receives it, and goes to every checker that holds its operation, and the beat that ends the last open stream closes the
operation; a late verdict counts and raises VERDICT_LATE, with the oldest operation of the checker as its address. It uses definitions with conventions of the model: log entries 22, 71, 170. -/
def Obligations.TapPorts : Prop :=
  (∀ s n w, Running s → n < s.build.tiles → (tile s n).port.rstReq = false → (tile s n).port.words.length < 5 →
    Does (.tapDescWord n w false) s fun a => modPort a n fun p => { p with words := p.words ++ [w] }) ∧
  (∀ s n w, Running s → n < s.build.tiles → (tile s n).port.rstReq = false → (tile s n).port.words.length = 5 →
    Does (.tapDescWord n w true) s fun a => descComplete a n ((tile a n).port.words ++ [w])) ∧
  (∀ s n st q data scale last dr sk o, Running s → n < s.build.tiles → q < 16 → (tile s n).port.rstReq = false →
    ((tile s n).port.opn.find? fun x => x.num == q) = some o → streamUsed o.desc st = true → (portStream o st).2 = true →
    (portStream o st).1 < streamBeats o.desc st → last = ((portStream o st).1 + 1 == streamBeats o.desc st) →
    Does (.tapBeat n st q data scale last dr sk) s fun a =>
      let z := counterOf a n
      let i := (portStream o st).1
      let drops (x : Nat) : Bool := dr.contains x || a.stop.frozenTiles.contains x || !(chkServes a x)
      let b := if clusterOut a z then a else cov (tcnt a z (3 + streamNo st)) o.interval (part a n) 4 1
      let b := if !(clusterOut a z) && drops (o.checker.getD z) then cov b o.interval (part a n) 5 1 else b
      let o' := portTakes o st (!last)
      let b := modPort b n fun p => { p with opn := p.opn.map fun x => if x.num == q then o' else x }
      let b := (holders b n q).foldl (fun b x => chkBeat b x.1 x.2 st i data scale (drops x.1) (sk.contains x.1)) b
      if o'.aOpen || o'.bOpen || o'.cOpen then b else portCloses b n q) ∧
  (∀ s n, Running s → n < s.build.tiles → Does (.verdictLate 0 n) s fun a =>
      raise (cnt a 0)
        { code := fcode 0 1 10, access := 7, master := n, addr := ((tile s n).chk.ops.head?.map fun o => opIdent o.desc).getD 0,
          part := partOf a n, tile := some n }) ∧
  (∀ s k n, Running s → 0 < k → k < 3 → n < s.build.tiles → Does (.verdictLate k n) s fun a =>
      raiseI (cnt a 0) (fcode 0 1 10) 1)

/-- R92, R103–R106, R126, R486: the reference unit finishes its oldest runnable pip, which leaves the queue, and an AGREE counts as
decided and marks its operation; the held SEQ consumes a mismatch record of a live tile's window; a window at or above PHYS_TILES completes with NOREG. It uses definitions with conventions of the model: log entry 123. -/
def Obligations.CheckerResults : Prop :=
  (∀ s x o p rest f, Running s → x < s.build.tiles → (tile s x).chk.runq = (o.uid, p.grain, f) :: rest →
    opOf s x o.uid = some o → ((tile s x).chk.pips.find? fun q => q.op == o.uid && q.grain == p.grain) = some p →
    pipOutcomeOf o p = .agree → Does (.pipOutcome x) s fun a =>
      let b := modChk a x fun c =>
        { c with runq := c.runq.drop 1, backlog := c.backlog - pipCost o.desc, pips := c.pips.filter fun q => !(samePip q p) }
      maybeJudged (tcnt (cov (modOp b x o.uid fun o => { o with pipAgree := true }) o.interval (part b o.host) 7 1) x 10)
        x o.uid) ∧
  (∀ s rq t v, Running s → Requester rq → s.build.ok = true → t < s.build.tiles → riserUp s t = true →
    (tile s t).chk.res.valid = true → fld v 15 0 = (tile s t).chk.res.seq → Writes (.resMismatchAck t v rq) s fun a =>
      modChk a t fun c => { c with res := heldAck c.res v }) ∧
  (∀ s rq t v, Running s → Requester rq → s.build.ok = true → t < s.build.tiles → riserUp s t = true →
    (tile s t).chk.pip.valid = true → fld v 15 0 = (tile s t).chk.pip.seq → Writes (.pipMismatchAck t v rq) s fun a =>
      modChk a t fun c => { c with pip := heldAck c.pip v }) ∧
  (∀ s rq t v, Running s → Requester rq → s.build.tiles ≤ t → t < 4096 →
    Does (.resMismatchAck t v rq) s (fun a => krpDone (cnt a 10) rq.id 2 0) ∧
    Does (.pipMismatchAck t v rq) s (fun a => krpDone (cnt a 10) rq.id 2 0))

/-- R83, R275, R278, R279, R286, R384, R387: an advancing beacon of a watched busy tile restarts its watch, and marks the hang it
follows as late; HANG_WINDOW without one raises
ENGINE_HANG for its oldest operation, posts HANG_EVENT, freezes the ring, fails the open operations and waits for a rung with
its place in the order of hangs; TILE_RST_REQ discards
the tile's operations and its fall restarts the numbering. It uses definitions with conventions of the model: log entries 33, 92, 102, 104. -/
def Obligations.TileWatch : Prop :=
  (∀ s n v, Running s → n < s.build.tiles → (tile s n).watch.on = true → (tile s n).watch.hung = false →
    v ≠ (tile s n).watch.beacon → (v + 2 ^ 32 - (tile s n).watch.beacon) % 2 ^ 32 < 2 ^ 31 → Does (.beaconSample n v) s fun a =>
      let z := counterOf a n
      let b := lateProgress (modWatch (ring (tcnt a z 14) z 4 (z != n) v) n fun w => { w with beacon := v }) n
      if watched b n then watchRestart b n else b) ∧
  (∀ s n o rest, Running s → n < s.build.tiles → (tile s n).watch.on = true → watched s n = true →
    (tile s n).port.opn = o :: rest → s.search.state = 0 → Does (.hang n) s fun a =>
      let w := (tile a n).watch
      let z := counterOf a n
      let b := latch (modObs (ring (raiseTap a (fcode 7 2 0) n o.desc) z 9 (z != n) 0 (idOf o.desc)) z fun k =>
        { k with frozen := true }) 1 5
      let seq := wrapAdd 16 b.hangReg.seq (b.hangReg.missed + 1)
      let w0 := pack [(62, 1, b2n w.overflow), (56, 5, w.suspects.length), (16, 12, n)]
      let b := ladderRec { b with hangReg := heldPostAll b.hangReg w0 0 0 } 5
        [setFld (setFld w0 63 63 1) 47 32 seq, BitVec.ofNat 64 (opIdent o.desc)]
      let b := modWatch b n fun w => { w with on := false, hung := true, hungSeq := some seq }
      let b := (o :: rest).foldl (fun b o => if o.suspect then b else opFails b o.phase o.desc.mb o.run o.gen 1) b
      if (replaying b n).isSome then suspectFound b 2
      else { b with search := { b.search with
        hangs := b.search.hangs + 1
        uncovered := b.search.uncovered ++
          [⟨n, seq, w.suspects, w.overflow, b.search.hangs, opIdent o.desc⟩] } }) ∧
  (∀ s n, Running s → n < s.build.tiles → (tile s n).port.rstReq = false → Does (.tileRstReq n) s fun a =>
      let z := counterOf a n
      unresolve (ring (discardOps (modPort a n fun p => { p with words := [], rstReq := true, rstAck := true })
        (fun _ o => o.host == n) (fun m _ => m == n)) z 6 (z != n) 0) fun m _ => m == n) ∧
  (∀ s n, Running s → n < s.build.tiles → (tile s n).port.rstReq = true → s.ladder.rung = 0 → Does (.tileRstReqFall n) s fun a =>
      engineReset (modPort a n fun p => { p with rstReq := false, rstAck := false, num := 0 }) n)

/-- R175, R184, R242, R245, R251, R435, R454: outside the safe state a write of STEP_ARM, in a legal configuration without a mirror
and on no ring, makes the job's keys and a fresh engine and raises ARMED, once the role is known; a join or arm that waited 1 ms for PAIRED is refused
with MIRROR_NOT_PAIRED, a RECOVER waits on; a write of STEP_CONFIG while unarmed stores its defined fields. It uses definitions with conventions of the model: log entry 134. -/
def Obligations.Arming : Prop :=
  ∀ s, Running s → s.fault.safe = false →
  (∀ v rq, Requester rq → isArmed s = false → s.mirror.wait = none → s.cas.armWait = none → jobMode s ≠ 3 →
    (jobMode s = 0 ∨ isUndo s = false) → mirMode s = 0 → (secState s = .open_ ∨ secState s = .sealed_) →
    jobKeyFor s (fld v 31 0) = true → regActive s 2 = true → regActive s 3 = true → s.cas.role = .standalone →
    Writes (.stepArm v rq) s fun a =>
      if a.cas.roleKnown then post (freshEngine (armKeys a (fld v 31 0)) (fld v 31 0) (fld v 63 32)) .armed
      else { a with cas := { a.cas with armWait := some ⟨.arm, v⟩, armOk := false, armRole := true } }) ∧
  (∀ w, s.mirror.wait = some w → Does .armPairWaitExpiry s fun a =>
      if w.kind = .recover then a else raiseI { a with mirror := { a.mirror with wait := none } } (fcode 4 2 5) 2) ∧
  (∀ v rq, Requester rq → isArmed s = false → (fld (configStore v) 3 2 ≠ 1 ∨ jobMode s = 1) →
    Writes (.stepConfigWrite v rq) s fun a =>
      modRegs (modEng a fun e => { e with config := pack [(15, 49, fld v 63 15), (2, 2, fld v 3 2), (0, 1, fld v 0 0)] })
        fun g => { g with written := g.written ||| 1 })

/-- R141, R160, R162, R166, R171, R175, R197: each step command, outside the safe state and where R175 lets it act, does what
its rule says: SKIP ends the step without changing EPOCH, HALT holds it, at the end of COMMIT with a commit boundary, DISARM ends
the job and its keys, RECOVER takes up the journal, or waits for PAIRED, JOIN arms a replacement chip at the step, CERT reads the shard list, FETCH writes a notice, REVOTE votes again. It uses definitions with conventions of the model: log entries 40, 47, 74, 163, 183. -/
def Obligations.StepCommands : Prop :=
  ∀ s rq step, Running s → Requester rq → s.fault.safe = false →
  (namesStep s step = true → mnfPending s = true → Writes (.stepSkip step rq) s fun a =>
      let b := epochRecord (modVote a fun v => { v with skipDone := true }) 2
      copyAfterSkip (modEng (nextStep b false) fun e => { e with commitClosed := b.fault.safe })) ∧
  (namesStep s step = true →
    (mnfPending s = true ∨ s.step.eng.phase = .hold ∨ s.step.eng.halted = 1 ∨ s.step.eng.halted = 2) →
    Writes (.stepHalt step rq) s fun a =>
      let b := takeBack (modVote a fun v => { v with skipDone := true })
      let b := if b.step.eng.phase = .commit then boundary b b.step.eng.number false else b
      enterHold (modEng b fun e => { e with halted := 3, commitClosed := true })) ∧
  (namesStep s step = true → (s.step.eng.phase = .idle ∨ s.step.eng.phase = .hold) → Writes (.stepDisarm step rq) s fun a =>
      let b := modEng (setPhase a .idle false) fun e =>
        { e with
          armed := false, halted := 0, base := .idle, req := {}, cur := none, runs := [], nfRun := none, updOpen := false,
          updMarked := false, updOpened := false, runForced := false, nfNext := false, joined := false, recovering := 0 }
      let b := { b with step := { b.step with vote := {} } }
      post { b with
        mirror := { b.mirror with notices := [] }
        sec := { b.sec with jnl := none, mst := none, job := none, step := none } } .disarmed) ∧
  (configured s = true → s.mirror.wait = none → s.cas.armWait = none → pairReady s = true → s.cas.roleKnown = true →
    s.cas.role = .standalone → s.sec.jnl.isSome = true → (recRec s 1).isSome = true →
    Writes (.stepRecover rq) s fun a => post (recoverTo (rxRecovered a)) .armed) ∧
  (configured s = true → s.mirror.wait = none → s.cas.armWait = none → pairReady s = false →
    Writes (.stepRecover rq) s fun a => { a with mirror := { a.mirror with wait := some ⟨.recover, 0⟩ } }) ∧
  (configured s = true → s.mirror.wait = none → s.cas.armWait = none → mirMode s = 0 → s.cas.roleKnown = true →
    s.cas.role = .standalone → Writes (.stepJoin step rq) s (joinRises step)) ∧
  (namesStep s step = true → s.step.cert.busy = false → s.loader.mixed = false → jobMode s = 0 → s.step.eng.phase = .idle →
    (slot s (s.step.eng.epochStep % 2)).used = true → (slot s (s.step.eng.epochStep % 2)).step = s.step.eng.epochStep →
    (slot s (s.step.eng.epochStep % 2)).committed = true → Writes (.stepCert step rq) s fun a =>
      let b := modCert a fun _ =>
        { busy := true, step := a.step.eng.epochStep, epochSel := a.step.eng.epochSel, cov := covRecord s s.step.eng.epochStep,
          covDigest := Config.sha3_384 (((covRecord s s.step.eng.epochStep).map (jBytes a)).getD []), job := a.step.eng.job }
      certMove b (BitVec.ofNat 64 (certBase b)) blockEnd 1024 1 []) ∧
  (∀ mb ws, namesStep s step = true → s.sec.jnl.isSome = true → noticeOf s s.step.eng.number mb = some ws →
    Writes (.stepFetch step mb rq) s fun a =>
      dmaPost 1 blockEnd (BitVec.ofNat 64 (fld a.step.regs.fetchDst 56 8 * 2 ^ 8)) (stepCtl 256) .fetch (wordsBytes ws) a) ∧
  (namesStep s step = true → s.step.eng.halted = 1 → Writes (.stepRevote step rq) s fun a =>
      let own := a.step.vote.tree.own
      let b := modVote (modEng a fun e => { e with halted := 0 }) fun v =>
        { v with revoted := false, reTree := {}, tree := { own := own, timer := true } }
      post (voteEnter b) .tally)

/-- R93, R124, R174: a write of the held SEQ consumes the record that STEP_COLL_MISMATCH, STEP_COV, STEP_VERDICT or
STEP_DECISION holds, and leaves everything else. -/
def Obligations.StepAcks : Prop :=
  ∀ s rq v, Running s → Requester rq →
  (s.step.regs.collMis.valid = true → fld v 15 0 = s.step.regs.collMis.seq → Writes (.collMismatchAck v rq) s fun a =>
      modRegs a fun g => { g with collMis := { g.collMis with valid := false } }) ∧
  (s.step.regs.covValid = true → fld v 15 0 = s.step.regs.covSeq → Writes (.stepCovAck v rq) s fun a =>
      modRegs a fun g => { g with covValid := false }) ∧
  (s.step.regs.verdict.valid = true → fld v 15 0 = s.step.regs.verdict.seq → Writes (.stepVerdictAck v rq) s fun a =>
      modRegs a fun g => { g with verdict := { g.verdict with valid := false } }) ∧
  (s.step.regs.decision.valid = true → fld v 15 0 = s.step.regs.decision.seq → Writes (.stepDecisionAck v rq) s fun a =>
      modRegs a fun g => { g with decision := { g.decision with valid := false } })

/-- R129–R135, R210: in an armed TRAIN or EVAL job outside the safe state a primary marker aborts the structural tests of
positions in service; one in the order of R129 ends a replay run, advances the flow, counts, sets PHASE and STEP_MARK and has the effect of its kind; the first FWD of a step
opens it; one with a field that it does not use set is a range fault. It uses definitions with conventions of the model: log entries 35, 41, 66, 154, 163. -/
def Obligations.Markers : Prop :=
  ∀ s, Running s → s.fault.safe = false → s.step.eng.armed = true → isDecode s = false →
  (∀ mb arg, mb < 2 ^ 32 → arg < 2 ^ 57 → arg % 256 = 0 → s.step.eng.base ≠ .idle →
    inOrder s s.step.eng.base s.step.eng.fwdNext s.step.eng.bwdSet .fwd mb = true →
    Does (.fwdMarker mb false arg) s fun a =>
      let b := modEng (endRun (flushPend (markerAborts a))) (advanceFlow .fwd mb)
      noticeRead (stepOpen (markerAccepted b .fwd false mb (a.step.eng.base != .fwd))) mb arg) ∧
  (∀ arg, arg < 2 ^ 57 → arg % 256 = 0 → s.step.eng.base = .idle → 0 < mbCount s →
    ((slot s (curSlot s)).committed = false ∨ (slot s (curSlot s)).checked = true) →
    Does (.fwdMarker 0 false arg) s fun a =>
      let b := modEng (stepStarts (endRun (flushPend (markerAborts a)))) (advanceFlow .fwd 0)
      noticeRead (stepOpen (markerAccepted b .fwd false 0 true)) 0 arg) ∧
  (∀ mb, mb < 2 ^ 32 → inOrder s s.step.eng.base s.step.eng.fwdNext s.step.eng.bwdSet .bwd mb = true →
    Does (.bwdMarker mb {}) s fun a =>
      markerAccepted (modEng (endRun (flushPend (markerAborts a))) (advanceFlow .bwd mb)) .bwd false mb (a.step.eng.base != .bwd)) ∧
  (inOrder s s.step.eng.base s.step.eng.fwdNext s.step.eng.bwdSet .exch 0 = true →
    Does (.exchMarker {}) s fun a =>
      let b := markerAccepted (modEng (endRun (flushPend (markerAborts a))) (advanceFlow .exch 0)) .exch false 0
        (a.step.eng.base != .exch)
      if isUndo b then undoStart (collStart b) else collStart b) ∧
  (inOrder s s.step.eng.base s.step.eng.fwdNext s.step.eng.bwdSet .upd 0 = true → Does (.updMarker {}) s fun a =>
      markerEffect (markerAccepted (modEng (endRun (flushPend (markerAborts a))) (advanceFlow .upd 0)) .upd false 0
        (a.step.eng.base != .upd)) .upd false 0 0) ∧
  (inOrder s s.step.eng.base s.step.eng.fwdNext s.step.eng.bwdSet .fin 0 = true → Does (.endMarker {}) s fun a =>
      stepEnds (markerAccepted (modEng (endRun (flushPend (markerAborts a))) (advanceFlow .fin 0)) .fin false 0
        (a.step.eng.base != .vote)) false) ∧
  (∀ i : MarkItem, i.mb < 2 ^ 32 → i.arg < 2 ^ 57 → (i.mb ≠ 0 ∨ i.arg ≠ 0) →
    (Does (.exchMarker i) s fun a => raisePort a fcPortRange 10 0 (stepPayload 0 3 i.replay i.mb i.arg)) ∧
    (Does (.updMarker i) s fun a => raisePort a fcPortRange 10 0 (stepPayload 0 4 i.replay i.mb i.arg)) ∧
    (Does (.endMarker i) s fun a => raisePort a fcPortRange 10 0 (stepPayload 0 5 i.replay i.mb i.arg))) ∧
  (∀ mb i, mb < 2 ^ 32 → i.arg < 2 ^ 57 → i.arg ≠ 0 → Does (.bwdMarker mb i) s fun a =>
      raisePort a fcPortRange 10 0 (stepPayload 0 2 i.replay mb i.arg))

/-- R122, R124, R143, R164, R393: before the run's vote a LOSS or GRAD_NORM scalar is stored, and in an armed job one that is not
finite, or the NONFINITE flag at any time, closes the gates and asks for an AUDIT replay of the STEP; one that does not fit 32 bits is a range
fault; the oldest closed coverage interval without open
operations is posted and journaled; with every condition of R143 met the update opens. It uses definitions with conventions of the model: log entries 141, 154. -/
def Obligations.Scalars : Prop :=
  ∀ s, Running s →
  (∀ mb x, mb < 2 ^ 32 → x < 2 ^ 32 → (isArmed s && s.step.vote.voted) = false → Does (.lossScalar mb x) s fun a =>
      let b := modEng a fun e => { e with lossBits := x }
      if isArmed s && f32Bad x && !s.step.eng.nonfinite then
        post (closeGates (modEng b fun e => { e with nonfinite := true })) (.require 4 true none 9)
      else b) ∧
  (∀ mb x, mb < 2 ^ 32 → 2 ^ 32 ≤ x → x < 2 ^ 57 → Does (.lossScalar mb x) s fun a =>
      raisePort a fcPortRange 10 0 (stepPayload 1 0 false mb x)) ∧
  (∀ x, x < 2 ^ 32 → (isArmed s && s.step.vote.voted) = false → Does (.gradNormScalar ⟨0, x⟩) s fun a =>
      let b := modEng a fun e => { e with gradBits := x, gradSeen := true }
      if isArmed s && f32Bad x && !s.step.eng.nonfinite then
        post (closeGates (modEng b fun e => { e with nonfinite := true })) (.require 4 true none 9)
      else b) ∧
  (∀ i : ScalarItem, i.mb < 2 ^ 32 → i.arg < 2 ^ 57 → (i.mb ≠ 0 ∨ 2 ^ 32 ≤ i.arg) → Does (.gradNormScalar i) s fun a =>
      raisePort a fcPortRange 10 0 (stepPayload 2 0 false i.mb i.arg)) ∧
  (Does .nonfiniteFlag s fun a =>
      if isArmed s && !s.step.eng.nonfinite then
        post (closeGates (modEng a fun e => { e with nonfinite := true })) (.require 4 true none 9)
      else a) ∧
  (∀ c rest, s.step.covReady = c :: rest → covBusy s c.no = false → s.step.regs.covValid = false →
    Does .coverageSummary s fun a =>
      let ws := covWords a c
      let b := { a with step := { a.step with
        covReady := rest, covHeld := c
        regs := { a.step.regs with covValid := true, covSeq := wrapAdd 16 a.step.regs.covSeq 1, covMissed := 0 } } }
      post (record b 5 1 [BitVec.ofNat 64 3, nthW ws 0, nthW ws 1, BitVec.ofNat 64 c.no])
        (.journal { type := 5, replay := c.replay, step := c.step, pay := .words ws })) ∧
  (s.step.eng.updOpen = false → updWait s = 0 → Does .updOpen s fun a =>
      modEng a fun e => { e with updOpen := true, updOpened := true })

/-- R132, R150: in VOTE, once every primary operation has its outcome, an armed engine outside the safe state without a conflict,
a non-finite scalar or an open arbitration posts its verdict: FAILED on a host fault, which closes the gates; SUSPECT at the point
of a requirement; CLEAN where there is neither and no summary is due. The vote may then go out; one that has gone out is
recorded. It uses definitions with conventions of the model: log entries 147, 179. -/
def Obligations.StepVerdicts : Prop :=
  ∀ s, Running s → s.step.eng.armed = true → s.step.eng.phase = .vote → s.step.vote.verdict = none →
    opsIn s (s.step.eng.marks + 1) = true → s.fault.safe = false → s.step.eng.conflict = false →
    s.step.eng.nonfinite = false → (s.tiles.filter fun t => arbIsOpen t.2.arb) = [] →
    (s.step.eng.runs.find? (·.nf)) = none → s.step.eng.nfRun = none →
    let goes (b : State) : State := post (if b.step.vote.tree.sent then voteRecord b else b) .tally
    (s.step.eng.hostFault = false → s.step.eng.req.point = 0 → s.step.covReady = [] → Does .stepVerdict s fun a =>
      goes (postVerdict (auditClose a) 0 0 0 false)) ∧
    (s.step.eng.hostFault = false → s.step.eng.req.point ≠ 0 → 1 < s.step.eng.req.reason → Does .stepVerdict s fun a =>
      goes (postVerdict (auditClose a) 1 s.step.eng.req.point s.step.eng.req.reason false)) ∧
    (s.step.eng.hostFault = true → Does .stepVerdict s fun a =>
      goes (closeGates (postVerdict (auditClose a) 2 s.step.eng.req.point 4 false)))

/-- R151, R153, R156, R158–R160: an authentic vote of a child on this chip's tree, for the current run, joins the node's
tally; after its timer an absent child is late, and its vote is not heard any more; the backup's acknowledgement sends the pending decision down, and without it
a COMMIT becomes HOLD with the backup mark; a decision for the current run is recorded, sent down and applied; without a
decision the chip, but a member, votes again on the backup's tree, and then holds with VOTE_LOST; a query is answered with the latest
decision kept for the step. It uses definitions with conventions of the model: log entries 40, 58, 59. -/
def Obligations.Votes : Prop :=
  ∀ s, Running s →
  (∀ v src, voteHears s v.job true = true → thisRun s v.step v.replayNo = true →
    (childrenOf (jobSize s) (treePos s (rootOf s false))).contains v.fromPos = true → s.step.vote.tree.sent = false →
    s.step.vote.tree.late = false → (s.step.vote.tree.children.any fun c => c.fromPos == v.fromPos) = false → s.step.vote.decision = none →
    Does (.voteMsg v false true src) s fun a =>
      post (modVote (latch (cnt a 6) 0 2) fun w => { w with
        tree := { w.tree with children := w.tree.children ++ [{ v with worst := worstOf v }], timer := true } }) .tally) ∧
  (∀ v src, voteHears s v.job true = true → thisRun s v.step v.replayNo = true →
    (childrenOf (jobSize s) (treePos s (rootOf s false))).contains v.fromPos = true → s.step.vote.tree.late = true →
    Does (.voteMsg v false true src) s fun a => latch (cnt a 6) 0 2) ∧
  Does .voteAbsentTimeout s (fun a =>
    let late (t : Tally) : Tally := if t.timer && !t.sent then { t with late := true } else t
    post (modVote a fun w => { w with tree := late w.tree, reTree := late w.reTree }) .tally) ∧
  (∀ d src, voteHears s d.job true = true → s.step.vote.pend = some d →
    Does (.backupAck d.job d.step d.replayNo true src) s fun a =>
      broadcast (modVote (latch (cnt a 6) 0 2) fun v => { v with pend := none }) d) ∧
  (∀ d, s.step.vote.pend = some d → Does .backupWaitExpiry s fun a =>
      broadcast (modVote a fun v => { v with pend := none })
        (if d.kind = 0 then { d with kind := 2, point := 4, audit := false, backup := true } else d)) ∧
  (∀ d src, voteHears s d.job true = true → thisRun s d.step d.replayNo = true → s.step.vote.decision = none →
    Does (.decisionMsg d false true src) s fun a =>
      let b := recordDecision (latch (cnt a 6) 0 2) d
      acceptDecision (sendDown b d) d) ∧
  (isArmed s = true → s.step.vote.tree.sent = true → treePos s s.step.vote.arb ≠ 0 → s.step.vote.decision = none →
    s.step.vote.revoted = false → s.step.eng.halted = 0 → isMember s = false → Does .decisionTimeout s fun a =>
      post (modVote a fun v => { v with revoted := true, reTree := { v.reTree with own := v.tree.own, timer := true } }) .tally) ∧
  (isMember s = true → Does .decisionTimeout s id) ∧
  (isArmed s = true → s.step.vote.revoted = true → s.step.vote.decision = none → s.step.eng.halted = 0 →
    Does .voteLost s fun a => raiseI (modEng a fun e => { e with halted := 1 }) (fcode 3 2 6) 1) ∧
  (∀ d src, voteHears s d.job true = true → keepsDecisions s = true →
    (s.step.vote.recorded.filter fun x => x.step == d.step).getLast? = some d →
    Does (.decisionQuery d.job d.step src true) s fun a => net (latch (cnt a 6) 0 2) src netQuery (1 :: decWords d))

/-- R84–R86, R145, R146, R171: a RECV report whose residue is the declared one joins its chain and counts; the end of the copy
of the undo pages is journaled, the end of a restore ends RESTORING; a certificate whose digests are complete is signed and written
behind its list, and fails where no attestation key is held. It uses definitions with conventions of the model: log entry 52. -/
def Obligations.CollectivesAndUndo : Prop :=
  ∀ s, Running s →
  (∀ r, reportBad s r = false → r.kind = 1 → r.res = r.resDecl → Does (.collReport r) s fun a =>
      let b := cnt a 7
      let c := chainOf b r
      setChain b { c with pending := c.pending ++ [r], last := some r, open_ := true }) ∧
  (s.step.eng.undoBusy = true → s.step.eng.undoReading = false → s.step.eng.undoLeft = 0 → Does .undoCopyDone s fun a =>
      let b := modEng a fun e => { e with undoBusy := false, undoDone := true }
      journalW b 6 0 (BitVec.ofNat 64 a.step.eng.undoPages.length ::
        (upto 6).map (digestWord (Config.sha3_384 (wordsBytes a.step.eng.undoPages))))) ∧
  (s.step.eng.restoring = true → s.step.eng.restoreLeft = 0 → Does .undoRestoreDone s fun a =>
      modEng a fun e => { e with
        restoring := false, epochValid := e.epochValid || e.recovering == 3
        recovering := if e.recovering = 3 then 0 else e.recovering }) ∧
  (s.step.cert.busy = true → s.step.cert.listed = true → s.step.cert.writing = false →
    s.step.cert.shards.length ≤ s.step.cert.digests.length → Does (.certDigestDone ()) s fun a =>
      match s.sec.att with
      | none => modCert a fun c => { c with busy := false, failed := true }
      | some key =>
      let bytes := certBody a ++ Config.sign key (certBody a)
      certMove (modCert a fun c => { c with writing := true }) blockEnd
        (BitVec.ofNat 64 (certBase a + ceilDiv (16 * (a.step.cert.shards.length + 1)) 64 * 64))
        (ceilDiv bytes.length 64 * 64) 3 bytes)

/-- R167–R170, R395: a token presented while fewer than 64 are held joins its group's opening and waits behind the tokens
before it; a release of the open gate decides the oldest held token whose group's work has all closed without a MISMATCH, and
decided tokens are offered in order; an outcome not taken raises PORT_TIMEOUT once and stays offered. It uses definitions with conventions of the model: log entries 65, 187. -/
def Obligations.TokenGate : Prop :=
  ∀ s, Running s →
  (∀ g tag, s.step.gate.held.length < 64 → Does (.tokenPresent g tag) s fun a =>
      let id := (genFor a g).1
      let b := modGen (genFor a g).2 id fun x => { x with presented := true }
      gateLook (modGate b fun t => { t with held := t.held ++ [{ group := g, tag := tag, gen := id }] })) ∧
  (∀ i, s.step.gate.closed = false →
    (s.step.gate.held.findIdx? fun t => t.decided.isNone && !(genBad s t.gen) && !(genBusy s t.gen)) = some i →
    Does .tokenRelease s fun a => gateOffer (modGate a fun g =>
      { g with held := g.held.zipIdx.map fun p => if p.2 == i then { p.1 with decided := some true } else p.1 })) ∧
  (∀ i t, (s.step.gate.out.findIdx? fun x => !x.timedOut) = some i → s.step.gate.out[i]? = some t →
    Does .tokenOutTimeout s fun a =>
      raisePort (modGate a fun g => { g with out := g.out.set i { t with timedOut := true } }) (fcode 8 2 1) 11 0
        (t.group + t.tag * 2 ^ 32 + (if t.released then 0 else 2 ^ 48)))

/-- R182, R183, R196, R200–R202: each partner-link command, outside the safe state and where R201 lets it act, does what its
rule says, and a write of the held SEQ consumes MIRROR_CHECK. It uses definitions with conventions of the model: log entry 76. -/
def Obligations.LinkCommands : Prop :=
  ∀ s rq, Running s → Requester rq →
  (∀ v, s.mirror.checkReg.valid = true → fld v 15 0 = s.mirror.checkReg.seq → Writes (.mirrorCheckAck v rq) s fun a =>
      modMir a fun m => { m with checkReg := { m.checkReg with valid := false } }) ∧
  (s.fault.safe = false →
    (∀ job, s.mirror.link = .down → mirMode s ≠ 0 → (secState s = .open_ ∨ secState s = .sealed_) →
      Writes (.melPair job rq) s fun a => modMir a fun m => { m with link := .hello, pairJob := job, tries := 0, cause := 0, peerHolds := none }) ∧
    (s.mirror.link = .miswired ∨ s.mirror.link = .incompatible →
      Writes (.melRepair rq) s fun a => modMir a fun m => { m with link := .hello, cause := 0, tries := 0 }) ∧
    Writes (.melUnpair rq) s (fun a => modMir (leavePaired a) fun m => { m with link := .down }) ∧
    (∀ step shards, s.mirror.link = .paired → isArmed s = false → s.mirror.pull.running = false →
      Writes (.melPull step shards rq) s fun a =>
        melSend
          (modMir a fun m =>
            { m with
              pull := { running := true, step := step }, shards := shards, pullDone := false, pullFailed := false,
              cause := 0, pullTotal := (shards.map (·.len)).sum, pulled := [] })
          0x0D (BitVec.ofNat 64 step :: shards.map fun e => BitVec.ofNat 64 e.len)) ∧
    (s.mirror.pull.running = true → Writes (.melAbortPull rq) s fun a =>
      dropPull (modMir a fun m => { m with pull := { m.pull with running := false } })))

/-- R177, R179, R181, R182: HELLO, KEY and FINISH lead the link from HELLO over KEYING to PAIRED; the timers of the link send
HELLO and BEAT, take the link back, to MISWIRED at the third KEYING, and to LOST with its keys zeroised. It uses definitions with conventions of the model: log entries 76, 78, 79. -/
def Obligations.Pairing : Prop :=
  ∀ s, Running s →
  (∀ h n, (s.mirror.link = .hello ∨ s.mirror.link = .lost) → helloCheck s h n = none → Does (.melHello h n) s fun a =>
      enterKeying (modMir (netGot a) fun m => { m with lastHello := h, peerHello := h }) h) ∧
  (∀ h n, (s.mirror.link = .hello ∨ s.mirror.link = .lost) → ∀ c, helloCheck s h n = some (false, c) →
    Does (.melHello h n) s fun a =>
      let b := modMir (netGot a) fun m => { m with lastHello := h, peerHello := h, link := .miswired, cause := c }
      identRecord (raiseNetRecv b (fcode 4 2 3) h.chip 1) h) ∧
  (∀ ct q, s.mirror.link = .keying → ownSlot s ≠ 0 → s.mirror.rxKey = none → Does (.melKey ct q true) s fun a =>
      let b := setPairKeys (netGot a) (Config.kem (a.sec.kem.getD 0) ct)
      keyingDone (sendFinish (modMir b fun m => { m with rxSeq := some q, keyCt := ct }))) ∧
  (∀ q, TakesSeq s q → Does (.melFinish q true true) s fun a =>
      keyingDone (modMir (taken a q) fun m => { m with finGot := true })) ∧
  (∀ ph n q, TakesSeq s q → Does (.melBeat ph n q true) s fun a => taken a q) ∧
  (s.mirror.link = .hello → s.sec.certOk = true → Does .helloTimer s helloSend) ∧
  (s.mirror.link = .paired → Does .beatTimer s fun a =>
      melSend a 4 [BitVec.ofNat 64 (phaseCode a.step.eng.phase), BitVec.ofNat 64 a.step.eng.epochStep]) ∧
  (s.mirror.link = .hello → Does .melPairTimeout s fun a =>
      raiseI (modMir a fun m => { m with link := .down }) (fcode 4 2 1) 2) ∧
  (s.mirror.link = .keying → s.mirror.tries < 3 → Does .keyingTimeout s fun a =>
      modMir a fun m => { m with link := .hello, secret := none, txKey := none, rxKey := none }) ∧
  (s.mirror.link = .keying → 3 ≤ s.mirror.tries → Does .keyingTimeout s fun a =>
      let b := modMir a fun m => { m with link := .miswired, cause := 9, secret := none, txKey := none, rxKey := none }
      identRecord (raiseI b (fcode 4 2 3) 2) a.mirror.peerHello) ∧
  (s.mirror.link = .paired → Does .melLinkLost s fun a =>
      raiseI (modMir (leavePaired a) fun m => { m with link := .lost }) (fcode 4 1 2) 2)

/-- R185, R187–R189, R193, R195: what the partner says of a step is taken into its check, a notice is kept and stored, the
signature of a UPD operation is compared with the own one; a check whose partner is silent fails with reason LATE. It uses definitions with conventions of the model: log entries 82, 84. -/
def Obligations.PartnerChecks : Prop :=
  ∀ s q, Running s → TakesSeq s q →
  (∀ n mb ws, Does (.melNotice n mb ws q true) s fun a =>
      let t := modMir (taken a q) fun m =>
        { m with notices := m.notices.filter fun x => decide (x.1 + 1 ≥ n) && x != (n, mb) }
      let b := if t.sec.mst.isSome then modMir t fun m => { m with noticesIn := m.noticesIn ++ [(n, mb)] } else t
      storeWrite b (noticeAt b n mb) (noticeNonce n mb) .notice (wordsBytes ws)) ∧
  (∀ c, Does (.melCommitted c q true) s fun a =>
      checkJudge (modMir (taken a q) fun m => { m with check := { m.check with part := some c } })) ∧
  (∀ n d, Does (.melNotCommitted n d q true) s fun a =>
      checkJudge (modMir (taken a q) fun m => { m with check := { m.check with notCommitted := some n } })) ∧
  (∀ id sig, s.mirror.auditShut = true → Does (.melAuditSig id sig q true) s fun a => taken a q) ∧
  (∀ id sig, s.mirror.auditShut = false → s.mirror.auditOwn.find? (fun p => p.1 == id) = none → Does (.melAuditSig id sig q true) s fun a =>
      modMir (taken a q) fun m => { m with auditPeer := m.auditPeer ++ [(id, sig)] }) ∧
  (∀ id own sig, s.mirror.auditShut = false → s.mirror.auditOwn.find? (fun p => p.1 == id) = some (id, own) → own ≠ sig →
    Does (.melAuditSig id sig q true) s fun a =>
      let b := modMir (taken a q) fun m => { m with auditOwn := m.auditOwn.filter fun p => p.1 != id }
      post (raiseI b (fcode 1 2 6) 2) (.require 3 false none 6)) ∧
  (mirMode s = 1 → s.mirror.check.open_ = true → Does .mirrorCheckTimeout s fun a => checkEnds a 3 false) ∧
  (s.mirror.inb.running = true → Does .copyGapTimeout s fun a =>
      checkFails (dropIn (modMir a fun m => { m with inb := { m.inb with running := false, abandoned := true } })) 3)

/-- R190–R193: an inbound chunk in order is written under the storage key; COPY_ACK moves the outbound copy on, COPY_NACK or
5 ms send the chunk again; COPY_END with the right digest makes the slot the held copy, COPY_DONE ends the sender's side. It uses definitions with conventions of the model: log entries 76, 82, 84. -/
def Obligations.Copies : Prop :=
  ∀ s q, Running s →
  (TakesSeq s q →
    (∀ n c bs, mirMode s = 2 → s.mirror.inb.running = true → s.mirror.inb.step = n → s.mirror.inb.chunk = c →
      s.sec.mst.isSome = true → s.mirror.inb.bytes.length + bs.length ≤ rxSlotBytes s → bs.length ≤ 67024 →
      Does (.copyChunk n c bs q true) s fun a =>
        let b := modMir (taken a q) fun m =>
          { m with inb := { m.inb with
            bytes := m.inb.bytes ++ bs, lens := m.inb.lens ++ [bs.length], chunk := m.inb.chunk + 1, left := 1 } }
        storeWrite b (rxSlotAddr a a.mirror.inb.slot + a.mirror.inb.bytes.length) (chunkNonce n c) .mirrorIn bs) ∧
    (∀ n c, s.mirror.out.running = true → s.mirror.out.step = n → s.mirror.out.chunk = c →
      s.mirror.out.acked < s.mirror.out.bytes.length → Does (.copyAck n c q true) s fun a => copyAcked (taken a q)) ∧
    (∀ n c, s.mirror.out.running = true → s.mirror.out.step = n → s.mirror.out.chunk = c →
      Does (.copyNack n c q true) s fun a => copyRetry (taken a q)) ∧
    (∀ n c d, s.mirror.inb.running = true → s.mirror.inb.step = n → s.mirror.inb.chunk = c →
      d = Config.sha3_384 s.mirror.inb.bytes → Does (.copyEnd n c d q true) s fun a =>
        let b := modMir (taken a q) fun m =>
          { m with
            inb := { m.inb with running := false, done := true }, heldValid := true, heldStep := n,
            heldSlot := m.inb.slot, heldLens := m.inb.lens }
        checkJudge (melSend b 0x0C (BitVec.ofNat 64 n :: sha384Words a.mirror.inb.bytes))) ∧
    (∀ n d, s.mirror.out.running = true → s.mirror.out.endSent = true → s.mirror.out.step = n →
      Does (.copyDone n d q true) s fun a =>
        let ok := d == Config.sha3_384 a.mirror.out.bytes
        checkJudge (modMir (taken a q) fun m =>
          { m with
            out := { m.out with running := false, done := ok, digestBad := !ok },
            peerHolds := if ok then some n else m.peerHolds }))) ∧
  (s.mirror.out.running = true → s.mirror.out.tries < 2 → Does .chunkAckTimeout s fun a =>
      copySendChunk (modMir a fun m => { m with out := { m.out with tries := m.out.tries + 1 } })) ∧
  (s.mirror.out.running = true → 2 ≤ s.mirror.out.tries → Does .chunkAckTimeout s fun a =>
      let b := dropOut (modMir a fun m =>
        { m with out := { m.out with tries := m.out.tries + 1, running := false, abandoned := true } })
      checkJudge (raiseI b (fcode 4 2 9) 2))

/-- R196, R197: a pull of the step after the held one is served from the shard list, any other refused with cause 13; a pulled
chunk in order is written to the epoch-0 addresses; PULL_END with the right digest sets PULL_DONE, else or at a refusal the
pull fails with its cause. It uses definitions with conventions of the model: log entries 76, 83. -/
def Obligations.Pulls : Prop :=
  ∀ s q, Running s → TakesSeq s q →
  (∀ n lens, (s.step.eng.phase = .hold ∨ s.step.eng.phase = .idle) → s.step.eng.restoring = false →
    mirMode s = 1 → s.step.eng.epochValid = true → (s.step.eng.epochStep + 1) % 2 ^ 32 = n % 2 ^ 32 →
    Does (.pullReq n lens q true) s fun a =>
      mirRead (modMir (taken a q) fun m => { m with serve := { running := true, step := n }, serveLens := lens })
        a.mirror.shardList.toNat 8192 1 .serve) ∧
  (∀ n c bs, 67024 < bs.length → Does (.pullChunk n c bs q true) s fun a =>
      raisePort a fcPortRange 8 0 (2 + 2 ^ 8 + 0x0E * 2 ^ 16 + (bs.length + 16) * 2 ^ 24)) ∧
  (∀ n lens, (s.step.eng.phase ≠ .hold ∧ s.step.eng.phase ≠ .idle) ∨ s.step.eng.epochValid = false → Does (.pullReq n lens q true) s fun a =>
      melSend (dropServe (modMir (taken a q) fun m => { m with serve := { m.serve with running := false } })) 0x0E [2, 13]) ∧
  (s.mirror.pull.running = true →
    (∀ n c bs, s.mirror.pull.step = n → s.mirror.pull.chunk = c → bs.length ≤ 67024 → Does (.pullChunk n c bs q true) s fun a =>
      let t := taken a q
      let segs := (segments (shardPieces t.mirror.shards 0) t.mirror.pull.bytes.length bs.length).filter fun x => x.2.2 != 0
      let b := modMir t fun m =>
        { m with pull := { m.pull with bytes := m.pull.bytes ++ bs, chunk := m.pull.chunk + 1, left := segs.length } }
      forEach segs (if segs.isEmpty then sendAck b n c true else b) fun x (d, o, k) => mirWrite x d .pullWrite ((bs.drop o).take k)) ∧
    (∀ n c d ns, s.mirror.pull.step = n → s.mirror.pull.chunk = c → d = Config.sha3_384 s.mirror.pull.bytes →
      Does (.pullEnd n c d ns q true) s fun a =>
        modMir (taken a q) fun m => { m with pull := { m.pull with running := false }, pullDone := true, pulled := ns }) ∧
    (∀ n c d ns, s.mirror.pull.step = n → d ≠ Config.sha3_384 s.mirror.pull.bytes →
      Does (.pullEnd n c d ns q true) s fun a =>
        raiseI (dropPull (modMir (taken a q) fun m =>
          { m with pull := { m.pull with running := false }, pullFailed := true, cause := 15 })) (fcode 4 2 12) 2) ∧
    (∀ cause, Does (.pullRefuse cause q true) s fun a =>
        raiseI (dropPull (modMir (taken a q) fun m =>
          { m with pull := { m.pull with running := false }, pullFailed := true, cause := cause })) (fcode 4 2 12) 2))

/-- R210, R215, R217, R225, R227, R230, R231: each QRS command, outside the safe state, no command running and its own
conditions met, records itself and does what its rule says; CANCEL ends the running test as ABORTED; a write of the held
SEQ consumes QRS_EVENT. It uses definitions with conventions of the model: log entry 146. -/
def Obligations.QuarantineCommands : Prop :=
  ∀ s rq tag, Running s → Requester rq →
  (∀ v, s.qrs.event.valid = true → fld v 15 0 = s.qrs.event.seq → Writes (.qrsEventAck v rq) s fun a =>
      modQrs a fun q => { q with event := { q.event with valid := false } }) ∧
  (s.fault.safe = false → s.qrs.busy = false →
    (∀ l, (remapOf s l).state = 1 → Writes (.qrsFence l tag rq) s fun a =>
        quarantine (qrsTakes a 1 tag l false 1) (remapOf s l).phys 3) ∧
    (s.bring.busy = false →
      (∀ n, structAllowed s n = true → Writes (.qrsStruct n tag rq) s fun a => structStart (qrsTakes a 2 tag n true 0) n .cmd) ∧
      (∀ n, selfAllowed s n = true → Writes (.qrsSelftest n tag rq) s fun a => selfStart (qrsTakes a 3 tag n true 0) n .cmd) ∧
      (∀ n, selfAllowed s n = true → (pos s n).chk = .failed → (fuseBad s n true = false ∨ overrideOf s n true = 1) →
        Writes (.qrsReturnChecker n tag rq) s fun a =>
          selfStart (modPos (qrsTakes a 4 tag n true 0) n fun p => { p with returning := true }) n .cmd) ∧
      (∀ w : QrsWord, isArmed s = false → s.bring.fuseOk = true → regActive s 1 = true → Writes (.qrsReconcile w rq) s fun a =>
        reconcile (qrsTakes a 5 w.tag w.tile false 1)))) ∧
  (s.fault.safe = false → s.qrs.busy = true → ∀ w,
    (s.qrs.busyCmd = 2 → Writes (.qrsCancel w rq) s fun a => structEnds a s.qrs.tile 3) ∧
    (s.qrs.busyCmd ≠ 2 → Writes (.qrsCancel w rq) s fun a =>
      selfEnds (modPos a s.qrs.tile fun p => { p with returning := false }) s.qrs.tile 3 0))

/-- R209–R211, R214, R215, R225: a structural test whose patterns have been read ends PASS or FAIL by the CRC-64 of its
response words against the signature its patterns named, TIMEOUT by its timer; a self-test PASS when the clean and the injected run of all
64 segments have passed, FAIL with the first unit that fails, or INCOMPLETE; at the interval a
spare takes its tests, which wait while the region of its tile group is not ACTIVE. It uses definitions with conventions of the model: log entry 146. -/
def Obligations.PositionTests : Prop :=
  ∀ s n, Running s → n < s.build.tiles →
  (∀ ws, (pos s n).testing.isSome = true → s.qrs.pattern.users.contains n = false → Does (.structTestDone n ws) s fun a =>
      structEnds a n (if structSig ws == (pos s n).expected then 1 else 2)) ∧
  (Does (.structTestTimeout n) s fun a => structEnds a n 4) ∧
  (∀ us vs, us.length ≤ 64 → vs.length ≤ 64 → (∀ u ∈ us ++ vs, u < 16) → riserUp s n = true → (pos s n).segment = true →
    (us.length = 64 → vs.length = 64 → (∀ u ∈ us ++ vs, u = 0) → Does (.selftestDone n us vs) s fun a => selfEnds a n 1 0) ∧
    (∀ u, firstFail us vs = some u → Does (.selftestDone n us vs) s fun a => selfEnds a n 2 u)) ∧
  (Does (.selftestTimeout n) s fun a => selfEnds a n 6 0) ∧
  (fld s.qrs.testCfg 63 32 ≠ 0 → spareNow (pos s n).host = true →
    (testsOpen s n = true → Does (.spareTestInterval n) s fun a =>
      let b := modPos (latch a 1 3) n fun p => { p with autoWait := false }
      let c := if (pos b n).host = .spareFree ∧ structAllowed b n = true then structStart b n .auto else b
      if spareNow (pos c n).host = true ∧ selfAllowed c n = true then selfStart c n .auto else c) ∧
    (testsOpen s n = false → Does (.spareTestInterval n) s fun a =>
      modPos (latch a 1 3) n fun p => { p with autoWait := true }))

/-- R399, R464: each bring-up command, unarmed, before reconciliation and with no command running, records itself and trains
the risers that are down, reads the fuse map, or tests all checkers or positions; BRINGUP_DONE ends it with its counts. -/
def Obligations.BringUp : Prop :=
  ∀ s, Running s →
  (∀ rq, Secure rq → isArmed s = false → s.qrs.reconDone = false → s.bring.busy = false → s.qrs.busy = false →
    let start (a : State) (cmd : Nat) := modBr a fun b =>
      { b with busy := true, cmd := cmd, result := 0, passed := 0, failed := 0, aborted := 0, todo := [] }
    Writes (.riserTrain rq) s (fun a => start a 1) ∧
    Writes (.fuseRead rq) s (fun a => fuseStart (start a 2)) ∧
    Writes (.selftestAll rq) s (fun a =>
      bringTests (start a 3) s.build.positions selfAllowed (fun p => { p with selfRes := 3 }) fun b n => selfStart b n .bringup) ∧
    (∀ p, p = 15 ∨ p < s.build.partitions → Writes (.structAll p rq) s fun a =>
      bringTests (start a 4) (if p = 15 then s.build.positions else partPositions s p) structAllowed
        (fun p => { p with structRes := 3 }) fun b n => structStart b n .bringup)) ∧
  (∀ cs, (∀ c ∈ cs, c < s.build.cols) → s.bring.busy = true → s.bring.cmd = 1 → Does (.bringupDone cs) s fun a =>
    let down := (upto s.build.cols).filter fun c => !(s.time.risers.contains c)
    let up := down.filter fun c => cs.contains c
    let b := forEach (down.filter fun c => !(cs.contains c)) a fun a c => raiseI a fcRiserDown 5 c
    bringEnds (modBr (risersTrained up b) fun b => { b with passed := up.length, failed := down.length - up.length }) 1) ∧
  (s.bring.busy = true → s.bring.cmd = 2 → Does (.bringupDone []) s fun a => bringEnds a 3)

/-- R467, R468, R470: MEMTEST_CMD START on a routed range of whole GiB takes the range and issues the first request, ABORT
ends the test with ABORTED, a pause's end goes on, and the suite's end gives PASS without a finding, else FAIL; either
end gives channel 5 back to its queue. It uses definitions with conventions of the model: log entry 143. -/
def Obligations.MemoryTest : Prop :=
  ∀ s, Running s →
  (∀ suite rq, Secure rq → isArmed s = false → s.mem.busy = false → suite ≤ 1 → s.mem.base.toNat < s.mem.limit.toNat →
    s.mem.base.toNat % 2 ^ 30 = 0 → s.mem.limit.toNat % 2 ^ 30 = 0 →
    rangeRouted s s.mem.base.toNat s.mem.limit.toNat = true → Writes (.memtestStart suite rq) s fun a =>
      mtIssue (modMt a fun m =>
        { base := m.base, limit := m.limit, first := s.mem.base.toNat, last := s.mem.limit.toNat, busy := true, suite := suite })) ∧
  (∀ rq, Secure rq → s.mem.busy = true → Writes (.memtestAbort rq) s fun a =>
      dmaGo 5 (modMt (if s.mem.issued then dmaStops a 5 4 else a) fun m =>
        { m with busy := false, result := 3, pause := false, issued := false })) ∧
  (s.mem.busy = true → s.mem.pause = true → Does .memtestPauseEnd s fun a => mtIssue (modMt a fun m => { m with pause := false })) ∧
  (s.mem.busy = true → s.mem.elem = elemDone → Does .memtestDone s fun a =>
      dmaGo 5 (modMt a fun m => { m with busy := false, result := if m.findings = 0 then 1 else 2 }))

/-- R301, R306, R308–R310: the front record is written to LAST and FIRST, written again where a slot differs at first, and
the slot that differs again is lost and raises GRANARY_WRITE_FAIL; a record's
late detail is formed RAW; the restart scan makes the recorder ready; RD_SEL loads a slot; each recorder command starts, and
ends with its result. It uses definitions with conventions of the model: log entry 15. -/
def Obligations.Recorder : Prop :=
  ∀ s, Running s →
  (∀ n, Does (.detailTimeout n) s fun a => setDetail a n [] true) ∧
  (∀ r, writable s = some r →
    ∀ k : Written,
      let lo := s.rcd.lastOk || k.last
      let fo := s.rcd.firstOk || k.first || !(inFirst s r.seq)
      ((lo && fo) = false → s.rcd.retry = false → Does (.emramWriteDone k) s fun a =>
        modRcd a fun d => { d with retry := true, lastOk := lo, firstOk := fo }) ∧
      ((lo && fo) = true ∨ s.rcd.retry = true → Does (.emramWriteDone k) s fun a =>
        let ws := recWords a r (inFirst a r.seq)
        let b := putLast a r.seq (if lo then ws else tornSlot (lastAt r.seq))
        let b := popRec (putFirst b r.seq (if fo then ws else tornSlot (firstAt b r.seq))) (nthW ws 14)
        let b := if lo then b else granaryFails (lastAt r.seq) b
        if fo then b else granaryFails (firstAt b r.seq) b)) ∧
  (s.rcd.ready = false → s.sec.grn.isSome = true → Does .granaryScanDone s scanDone ∧ (scanDone s).rcd.ready = true) ∧
  (∀ v rq, Requester rq → Writes (.recorderRdSel v rq) s fun a => modRcd a fun d =>
      { d with
        rdSel := pack [(56, 4, fld v 59 56), (0, 20, fld v 19 0)], rdArea := fld v 59 56, rdSlot := fld v 19 0,
        rdGen := wrapAdd 16 d.rdGen 1,
        rdData := if fld v 59 56 ≤ 3 then slotWords a (fld v 59 56) (fld v 19 0) else List.replicate 16 0 }) ∧
  (∀ v rq area, Secure rq → s.rcd.cmdBusy = false → fld v 59 56 = area → area ≤ 3 →
    let start (a : State) (cmd : Nat) := modRcd a fun d =>
      { d with
        cmdBusy := true, cmdResult := 0, cmd := cmd, cmdArea := area, cmdBad := 0, cmdBreaks := 0, cmdMoved := cmd == 3,
        verWords := [], cmdToken := if cmd == 1 then areaGen s area % 2 ^ 16 else 0 }
    Writes (.recArchive v rq) s (fun a => archivePost (start a 1) area false) ∧
    Writes (.recVerify v rq) s (fun a => archivePost (start a 2) area true) ∧
    (area ≠ 2 → fld v 15 0 = areaGen s area % 2 ^ 16 → sget 0x10000 s.rcd.tokens area = fld v 15 0 →
      Writes (.recClear v rq) s fun a => start a 3)) ∧
  (s.rcd.cmdBusy = true → s.rcd.cmdMoved = true → s.rcd.cmd = 1 → Does .recorderCmdDone s fun a =>
      modRcd a fun d =>
        { d with cmdBusy := false, cmdResult := 1, verWords := [], tokens := sset 0x10000 d.tokens d.cmdArea d.cmdToken })

/-- R312–R315, R319, R320, R323, R327, R390: a legal descriptor joins its channel's queue and the channel runs, or waits for room; an illegal one
is refused; the response of a data request gives the granule or completes it; a request with an error, no answer or no taker
pauses its channel; a response that nothing waits for is a range fault; RESUME and ABANDON end the pause; an invalidation drops the entries it names. It uses definitions with conventions of the model: log entry 154. -/
def Obligations.DmaChannels : Prop :=
  ∀ s c, Running s → c < 8 →
  (∀ src dst ctl w buf, descLegal s c src dst ctl = true → dmaRoom s c = true → Does (.dmaPost c src dst ctl w buf) s fun a =>
      dmaGo c (updChan a c fun ch => { ch with queue := ch.queue ++ [{ src := src, dst := dst, ctl := ctl, work := w, buf := buf }] })) ∧
  (∀ src dst ctl w buf, descLegal s c src dst ctl = true → dmaRoom s c = false → Does (.dmaPost c src dst ctl w buf) s fun a =>
      updChan a c fun ch => { ch with waiting := ch.waiting ++ [{ src := src, dst := dst, ctl := ctl, work := w, buf := buf }] }) ∧
  (∀ src dst ctl w buf, descLegal s c src dst ctl = false → dOwner ctl < 7 → Does (.dmaPost c src dst ctl w buf) s fun a =>
      post (raiseI a fcDesc (dOwner ctl))
        (.dmaDone c { src := src, dst := dst, ctl := ctl, work := w, buf := buf, state := 4 })) ∧
  (∀ r, (chan s c).req = some r → mtOwns s c = false →
    (r.port < s.build.memPorts → memTaker s r.port r.id = some c →
    (∀ bs, r.wait = .read → Does (.memResponse r.port r.id 0 bs) s fun a =>
      dmaGo c (updChan (updChan a c fun ch => { ch with req := none }) c fun ch =>
        { ch with granule := (bs ++ List.replicate 64 0).take 64 })) ∧
    (∀ bs, r.wait = .write → Does (.memResponse r.port r.id 0 bs) s fun a =>
      dmaGo c (granuleDone (updChan a c fun ch => { ch with req := none }) c)) ∧
    (∀ level write bs, r.wait = .walk level write → Does (.memResponse r.port r.id 0 bs) s fun a =>
      let b := updChan a c fun ch => { ch with req := none }
      dmaGo c (walkEntry b c level write
        (nthW (bytesWords bs) (((chan b c).table_ + 8 * levelIndex (walkFor (chan b c)) level) % 64 / 8)))) ∧
    (∀ e bs, e ≠ 0 → Does (.memResponse r.port r.id e bs) s fun a =>
      dmaGo c (memFails (raiseMem a (fcode 8 2 3) c r.addr r.write) c r))) ∧
    ((chan s c).cut = [] → Does (.memTimeout c) s fun a => dmaGo c (memFails (raiseMem a (fcode 8 2 2) c r.addr r.write) c r)) ∧
    Does (.memReqTimeout c) s (fun a => dmaGo c (memFails (raisePort a fcPortTimeout 7 r.port r.addr) c r))) ∧
  (∀ q rest, (chan s c).cut = q :: rest → c ≠ 5 → Does (.memTimeout c) s fun a =>
      raiseMem (updChan a c fun ch => { ch with cut := rest }) (fcode 8 2 2) c q.addr q.write) ∧
  (∀ n id e bs, n < s.build.memPorts → memTaker s n id = none → Does (.memResponse n id e bs) s fun a =>
      raisePort a fcPortRange 7 n (memPayload id e bs)) ∧
  (∀ rq, Secure rq → (chan s c).busy = true → (chan s c).cur.state = 2 →
    Writes (.dmaResume c rq) s (fun a => dmaGo c (updChan a c fun ch => { ch with cur := { ch.cur with state := 1, cause := 0 } })) ∧
    Writes (.dmaAbandon c rq) s (fun a => dmaGo c (dmaEnds a c 4))) ∧
  (∀ rq, Secure rq → s.dma.invBusy = false →
    Writes (.xlateInvAll rq) s (fun a => xlateInv a (fun _ => false) (fun _ => false)) ∧
    (∀ v, fld v 59 58 ≠ 3 → Writes (.xlateInvRange v rq) s fun a =>
      let pb := pageBits (fld v 59 58)
      let page := fld v 56 12 * 4096 / 2 ^ pb
      xlateInv a (fun l => !(pagesMeet l.base (pageBits l.size) page pb))
        (fun d => !(pagesMeet d.base (levelShift d.level + 9) page pb))))

/-- R333–R336, R345–R347, R492: BEGIN, RELOAD, END and ABORT, outside the safe state, allowed by the level and with no load
under way, move the session as R336 says; each word of a load is kept; the header check opens or ends the session; the drain,
the check and the time limit of a region take it on, to ACTIVE with its content or to FENCED. -/
def Obligations.Loading : Prop :=
  ∀ s, Running s →
  (∀ v rq, Secure rq → s.loader.event.valid = true → fld v 15 0 = s.loader.event.seq → Writes (.configEventAck v rq) s fun a =>
      modLd a fun l => { l with event := { l.event with valid := false } }) ∧
  (s.fault.safe = false →
    (∀ rq, Secure rq → s.loader.busy = false →
      (recovery s < 3 → s.loader.session = 0 → Writes (.configBegin rq) s fun a => modLd a fun l =>
        { l with session := 1, busy := true, hdrWords := [], received := 0, expected := 0, loadRegion := 0 }) ∧
      (∀ v r e, recovery s < 3 → fld v 4 0 = r → entryOf (loadTable s) r = some e → (regionNumbers s.build).contains r = true →
        (s.loader.session = 0 ∨ s.loader.session = 3) → ((region s r).state = .fenced ∨ ((region s r).state = .active ∧ s.loader.session = 3)) → reloadAllowed s r = true →
        Writes (.configReload v rq) s fun a =>
          let b := modLd a fun l =>
            { l with
              busy := true, loadRegion := r, received := 0, expected := e.length / 8,
              reloaded := l.reloaded || l.session == 3,
              mixed := l.mixed || (a.loader.session == 3 && (region a r).digest != e.digest) }
          let b := updRegion (setRegion b r .draining) r fun g => { g with staged := [] }
          if r = 7 then post b (.regionDown 7) else if r = 1 ∨ 16 ≤ r then b else enterLoading b r) ∧
      (s.loader.session = 3 → toLoad s = 0 → Writes (.configEnd rq) s fun a => cfgEvent (modLd a fun l =>
        { l with active := l.pend, pend := none, session := 0, mixed := false, reloaded := false }) 7 0) ∧
      (s.loader.session = 3 → s.loader.reloaded = false → Writes (.configAbort rq) s fun a =>
        modLd a fun l => { l with pend := none, session := 0 })) ∧
    (∀ w rq, Secure rq → s.loader.busy = true →
      (s.loader.session = 1 → Writes (.configLoadData w rq) s fun a => headerWord a w) ∧
      (s.loader.session ≠ 1 → (region s s.loader.loadRegion).state = .loading → Writes (.configLoadData w rq) s fun a =>
        regionWord a w)) ∧
    (∀ ok fuse, s.loader.session = 2 →
      (∀ code off, headerCheck s s.loader.hdrWords ok fuse = some (code, off) → Does (.headerCheckDone ok fuse) s fun a =>
        cfgEvent (raiseR (modLd a fun l => { l with session := 0, busy := false }) code 0 off) 6 0) ∧
      (headerCheck s s.loader.hdrWords ok fuse = none → Does (.headerCheckDone ok fuse) s fun a =>
        let ws := s.loader.hdrWords
        let hdr := ws.take (fld (nthW ws 1) 63 32 / 8)
        let t : Table := ⟨headerEntries ws, nthW ws 4, Config.sha3_384 (wordsBytes hdr)⟩
        cfgEvent (modLd a fun l => { l with session := 3, busy := false, pend := some t, reloaded := false }) 5 0)) ∧
    (s.loader.busy = true → s.loader.session ≠ 1 → (region s s.loader.loadRegion).state = .loading → Does .loadTimeout s fun a =>
      loadFails a fcLoadTimeout (loadOffset a + 8 * a.loader.received) 3) ∧
    (∀ r, r < 128 → (region s r).state = .draining → Does (.drainEnd r) s fun a => enterLoading a r) ∧
    (∀ e, s.loader.busy = true → (region s s.loader.loadRegion).state = .verifying →
      entryOf (loadTable s) s.loader.loadRegion = some e →
      Does .regionVerifyDone s fun a =>
        let r := a.loader.loadRegion
        let ws := (region a r).staged
        if Config.sha3_384 (wordsBytes ws) != e.digest then loadFails a fcAuth e.offset 1
        else match verifyRegion (isReg a) a r ws with
          | some off => loadFails a fcVerify (e.offset + off) 2
          | none =>
            let b := updRegion a r fun g => { g with content := ws, staged := [], length := ws.length, digest := e.digest }
            let b := takeContent (modLd b fun l => { l with busy := false }) r ws
            post (cfgEvent (setRegion b r .active) 0 r) (.regionActive r)))

/-- R349–R351, R353: each register instruction that a running core issues writes its value to its destination register, and
retires with the next PC; a register that reads s0 reads 0 and a write of s0 is discarded. It uses definitions with conventions of the model: log entry 8. -/
def Obligations.RegisterInstructions : Prop :=
  ∀ s n w, Running s → n < 4 →
  let c := Machine.core s n
  let gives (x : State → Word) (a : State) := retire (updCore a n fun k => setSreg k (iRd w) (x a)) n w (c.pc + 1) 0
  (Issues s n 0x01 w → Does (.ldi n) s (gives fun _ => BitVec.ofInt 64 (toSigned 19 (iImm w)))) ∧
  (Issues s n 0x02 w → Does (.shi n) s (gives fun _ => (sreg c (iRd w) <<< 19) + BitVec.ofNat 64 (iImm w))) ∧
  (Issues s n 0x03 w → Does (.add n) s (gives fun _ => sreg c (iRa w) + sreg c (iRb w))) ∧
  (Issues s n 0x04 w → Does (.sub n) s (gives fun _ => sreg c (iRa w) - sreg c (iRb w))) ∧
  (Issues s n 0x05 w → Does (.andR n) s (gives fun _ => sreg c (iRa w) &&& sreg c (iRb w))) ∧
  (Issues s n 0x06 w → Does (.orR n) s (gives fun _ => sreg c (iRa w) ||| sreg c (iRb w))) ∧
  (Issues s n 0x07 w → Does (.xorR n) s (gives fun _ => sreg c (iRa w) ^^^ sreg c (iRb w))) ∧
  (Issues s n 0x08 w → Does (.sh n) s (gives fun _ =>
      if nbit (iImm w) 6 then sreg c (iRa w) >>> (iImm w % 64) else sreg c (iRa w) <<< (iImm w % 64))) ∧
  (Issues s n 0x09 w → Does (.addi n) s (gives fun _ => sreg c (iRa w) + BitVec.ofInt 64 (toSigned 19 (iImm w)))) ∧
  (Issues s n 0x0E w → Does (.cmp n) s (gives fun _ =>
      if cmpHolds (w % 8) (sreg c (iRa w)) (sreg c (iRb w)) then 1 else 0)) ∧
  (Issues s n 0x14 w → Does (.sqTime n) s (gives stamp))

/-- R351, R353–R355, R357: a load or store of an aligned address in the data store moves a word, one outside it is core
fault 2, and a word that its store cannot correct core fault 3; branches and jumps set the PC; LDB and STB access a register the core may; the other instructions arm a timer, wait,
post a record, a message or a descriptor, demand a rung and raise a fault. It uses definitions with conventions of the model: log entries 122, 184. -/
def Obligations.OtherInstructions : Prop :=
  ∀ s n w, Running s → n < 4 →
  let c := Machine.core s n
  let addr := (sreg c (iRa w) + BitVec.ofInt 64 (toSigned 19 (iImm w))).toNat
  let next (a : State) := retire a n w (c.pc + 1) 0
  let toRd (x : Word) (a : State) := updCore a n fun k => setSreg k (iRd w) x
  (Issues s n 0x0A w → addr % 8 = 0 → addr < 16384 → dataBad c addr 1 = false → Does (.ld n) s fun a => next (toRd (sget 0 c.data (addr / 8)) a)) ∧
  (Issues s n 0x0A w → (addr % 8 ≠ 0 ∨ 16384 ≤ addr) → Does (.ld n) s fun a => coreFault a n 2) ∧
  (Issues s n 0x0A w → addr % 8 = 0 → addr < 16384 → dataBad c addr 1 = true → Does (.ld n) s fun a => coreFault a n 3) ∧
  (c.state = .run → seqFrozen s n = false → c.codeErr.contains c.pc = true → Does (.ld n) s fun a => coreFault a n 3) ∧
  (Issues s n 0x0B w → addr % 8 = 0 → addr < 16384 → Does (.st n) s fun a =>
      next (updCore a n fun k =>
        { k with data := sset 0 k.data (addr / 8) (sreg c (iRd w)), dataErr := k.dataErr.filter (· != addr / 8) })) ∧
  (Issues s n 0x0C w → seqRefused addr false = false → accessCode s (seqAcc n) addr false = 0 → Does (.ldb n) s fun a =>
      next (toRd ((readReg a addr).getD 0) a)) ∧
  (Issues s n 0x0D w → seqRefused addr true = false → accessCode s (seqAcc n) addr true = 0 → Does (.stb n) s fun a =>
      next (writeReg (seqAcc n) addr (sreg c (iRd w)) a)) ∧
  (Issues s n 0x0F w → Does (.br n) s fun a =>
      retire a n w (if nbit (iImm w) 18 = (sreg c (iRd w) != 0) then jumpTo c.pc (toSigned 18 (iImm w)) else c.pc + 1) 0) ∧
  (Issues s n 0x10 w → Does (.jal n) s fun a =>
      retire (toRd (BitVec.ofNat 64 (c.pc + 1)) a) n w (jumpTo c.pc (toSigned 19 (iImm w))) 0) ∧
  (Issues s n 0x11 w → Does (.jr n) s fun a =>
      retire (toRd (BitVec.ofNat 64 (c.pc + 1)) a) n w (sreg c (iRa w)).toNat 0) ∧
  (Issues s n 0x12 w → iImm w ≠ 0 → ∀ e, lowLatch c.latches (iImm w) = some e → Does (.waitR n) s fun a =>
      waitReturns (updCore a n fun k => { k with mask := iImm w }) n e) ∧
  (Issues s n 0x12 w → iImm w ≠ 0 → lowLatch c.latches (iImm w) = none → Does (.waitR n) s fun a =>
      updCore (updCore a n fun k => { k with mask := iImm w }) n fun k => { k with state := .wait }) ∧
  (c.state = .wait → seqFrozen s n = false → ∀ e, lowLatch c.latches c.mask = some e → Does (.waitReturn n) s fun a =>
      waitReturns a n e) ∧
  (Issues s n 0x13 w → iRd w ≤ 2 → Does (.sqTimer n) s fun a =>
      let d := (sreg c (iRa w) + BitVec.ofNat 64 (iImm w)).toNat
      next (updCore a n fun k => { k with timers := sset 0 k.timers (iRd w) (min d (2 ^ 40 - 1)) })) ∧
  (Issues s n 0x15 w → iImm w % 256 = 0x0B → addr % 8 = 0 → addr + 72 < 16384 → dataBad c addr 10 = false → Does (.post n) s fun a =>
      let (ok, b) := postRec a 0x0B 0 (7 + n) (dataWords c addr 10)
      next (toRd (if ok then 1 else 0) b)) ∧
  (Issues s 3 0x16 w → n = 3 → Does (.mbox 3) s fun a =>
      next (mbOutPost (iImm w % 8) (sreg c (iRd w)) (fld (sreg c (iRa w)) 31 0) a)) ∧
  (Issues s n 0x17 w → escalateOk s (iImm w % 16) (fld (sreg c (iRa w)) 15 0) = true → Does (.esc n) s fun a =>
      next (post a (.rung ⟨iImm w % 16, cmdTarget a (iImm w % 16) (fld (sreg c (iRa w)) 15 0)⟩))) ∧
  (Issues s n 0x18 w → addr % 8 = 0 → addr + 24 < 16384 → dataBad c addr 4 = false → dmaRoom s 7 = true → dKind (sget 0 c.data (addr / 8)) ≠ 2 →
    Does (.sqDma n) s fun a =>
      let x := dataWords c addr 4
      next (toRd 1 (dmaPost 7 (nthW x 0) (nthW x 1) (setFld (nthW x 2) 55 48 (7 + n)) .sequencer [] a))) ∧
  (Issues s n 0x19 w → fcls (iImm w % 2 ^ 16) ≠ 15 → fsev (iImm w % 2 ^ 16) ≠ 3 → Does (.raiseR n) s fun a =>
      next (raiseI a (iImm w % 2 ^ 16) (7 + n)))

/-- R354, R356, R360–R363: a timer that expires sets its latch; a core that retires nothing stalls; a latch of the mask that
stays set raises CONTROL_OVERLOAD once; RESTART starts a faulted or stalled core, FREEZE and THAW stop and start its ring,
and a write of SEQ_TRACE_SEL loads thirty-two entries. -/
def Obligations.CoreEvents : Prop :=
  ∀ s n, Running s → n < 4 →
  (∀ i, i < 3 → sget 0 (Machine.core s n).timers i ≠ 0 → Does (.sqTimerExpiry n i) s fun a =>
      latch (updCore a n fun k => { k with timers := sset 0 k.timers i 0 }) n (16 + i)) ∧
  (∀ dog, (Machine.core s n).state = .run → seqFrozen s n = false → Does (.sqStall n dog) s fun a =>
      raiseI (updCore a n fun c => { c with state := .stall, cause := if dog then 11 else 10, traceFrozen := true })
        (fcode 13 2 1) (7 + n)) ∧
  (∀ l, l < 19 → (Machine.core s n).state = .run → nbit ((Machine.core s n).latches &&& (Machine.core s n).mask) l = true →
    (Machine.core s n).overloadRaised = false → Does (.controlOverload n l) s fun a =>
      raiseI (updCore a n fun c => { c with overloadRaised := true }) (fcode 13 1 2) (7 + n)) ∧
  (∀ rq, Secure rq →
    ((Machine.core s n).state = .fault ∨ (Machine.core s n).state = .stall → Writes (.seqRestart n rq) s fun a => startCore a n) ∧
    Writes (.seqFreeze n rq) s (fun a => updCore a n fun c => { c with traceFrozen := true }) ∧
    ((Machine.core s n).traceFrozen = true → Writes (.seqThaw n rq) s fun a => updCore a n fun c => { c with traceFrozen := false }) ∧
    (∀ v, Writes (.seqTraceSel v rq) s (traceSel rq v)))

/-- R364–R369, R371: on a channel the requester may use, MB_IN_PTR posts with the staged epoch and the next sequence number and
raises MBOX_COLLISION over a full slot, MB_IN_DB sets doorbells, the host's writes acknowledge the outbound slot and clear
what they name; a sequencer's acknowledge the inbound side, and begin an outbound wait that stood behind it; after 10 ms an outbound wait ends.
A write of a ninth channel or a later one finds no register, but for MB_BLOCK_EPOCH, which ignores it, and is a fault of the core that runs it. It uses definitions with conventions of the model: log entry 123. -/
def Obligations.Mailboxes : Prop :=
  (∀ s c rq v, Running s → Requester rq → 8 ≤ c → c < 256 →
    (c ≠ 8 → Does (.mbInPtr c v rq) s fun a => krpDone (cnt a 10) rq.id 2 0) ∧
    (c = 8 → Writes (.mbInPtr c v rq) s id) ∧
    Does (.mbInDb c v rq) s (fun a => krpDone (cnt a 10) rq.id 2 0) ∧
    Does (.mbOutRxDone c v rq) s (fun a => krpDone (cnt a 10) rq.id 2 0) ∧
    Does (.mbOutDb c v rq) s (fun a => krpDone (cnt a 10) rq.id 2 0) ∧
    (∀ out, Does (.collisionClear c out v rq) s fun a => krpDone (cnt a 10) rq.id 2 0)) ∧
  (∀ s c k v, Running s → 8 ≤ c → c < 256 → k < 4 → (Machine.core s k).state = .run →
    Does (.mbInRxDone c v k) s (fun a => coreFault a k 4) ∧ Does (.mbInDbClr c v k) s (fun a => coreFault a k 4)) ∧
  ∀ s c, Running s → c < 8 →
  (∀ v rq, Requester rq → mbAllowed rq c = true →
    Writes (.mbInPtr c v rq) s (fun a =>
      let full := (mbox a c).inSeq != (mbox a c).inRx
      let b := latch (updMbox a c fun m =>
        { m with
          inPtr := v, inEpoch := m.inStaged, inSeq := wrapAdd 16 m.inSeq 1, inColl := m.inColl || full,
          prevEpoch := m.inStaged, outWait := m.outWait && m.inStaged == m.prevEpoch,
          outDue := m.outDue && m.inStaged == m.prevEpoch }) 3 0
      if full then latch (raiseK b fcCollision rq (0x030000 + c * 0x100)) 3 3 else b) ∧
    Writes (.mbInDb c v rq) s (fun a =>
      let b := updMbox a c fun m => { m with inDb := m.inDb ||| fld v 31 0 }
      if fld v 31 0 &&& (mbox a c).inMask ≠ 0 then latch b 3 1 else b) ∧
    Writes (.mbOutRxDone c v rq) s (fun a =>
      let b := updMbox a c fun m => 
        { m with
          outRx := fld v 15 0, outWait := m.outWait && fld v 15 0 != (mbox a c).outSeq,
          outDue := m.outDue && fld v 15 0 != (mbox a c).outSeq }
      if isSq rq = true then b else latch b 3 2) ∧
    Writes (.mbOutDb c v rq) s (fun a => updMbox a c fun m => { m with outDb := m.outDb - (m.outDb &&& fld v 31 0) }) ∧
    (bitOf v 62 = true →
      Writes (.collisionClear c false v rq) s (fun a => updMbox a c fun m => { m with inColl := false }) ∧
      Writes (.collisionClear c true v rq) s (fun a => updMbox a c fun m => { m with outColl := false }))) ∧
  (∀ v k, k < 4 →
    Does (.mbInRxDone c v k) s (fun a => updMbox a c fun m =>
      if m.outDue && m.inSeq == fld v 15 0 then { m with inRx := fld v 15 0, outDue := false, outWait := true }
      else { m with inRx := fld v 15 0 }) ∧
    Does (.mbInDbClr c v k) s (fun a => updMbox a c fun m => { m with inDb := m.inDb - (m.inDb &&& fld v 31 0) })) ∧
  Does (.outAckWaitTimeout c) s (fun a => updMbox a c fun m => { m with outWait := false })

/-- R9, R388, R389, R473, R486: a KRP request is counted; where its access completes with OK a write has the effect of its
register and a read returns its value; a refused one answers DENIED, one of no register NOREG, neither with an effect; a
request not granted and a response not taken raise PORT_TIMEOUT. It uses definitions with conventions of the model: log entries 123, 154. -/
def Obligations.RegisterAccesses : Prop :=
  ∀ s, Running s →
  (∀ rq addr v, Requester rq → addr < 2 ^ 24 →
    (accessCode (cnt s 10) rq addr true = 0 →
      Does (.krpRequest rq.id addr true v rq.sec) s (fun a => krpDone (writeReg rq addr v (cnt a 10)) rq.id 0 0) ∧
      Writes (.registerWrite addr v rq) s (fun a => writeReg rq addr v a)) ∧
    (accessCode (cnt s 10) rq addr false = 0 → Does (.krpRequest rq.id addr false v rq.sec) s fun a =>
      krpDone (cnt a 10) rq.id 0 ((readReg (cnt a 10) addr).getD 0)) ∧
    (∀ w, accessCode (cnt s 10) rq addr w = 1 → Does (.krpRequest rq.id addr w v rq.sec) s fun a =>
      krpDone (cnt a 10) rq.id 1 0) ∧
    (∀ w, accessCode (cnt s 10) rq addr w = 2 → Does (.krpRequest rq.id addr w v rq.sec) s fun a =>
      krpDone (cnt a 10) rq.id 2 0)) ∧
  (∀ (rq : Machine.Acc) addr w v, addr < 2 ^ 24 → Does (.krpGrantTimeout rq.id addr w v rq.sec) s fun a =>
    krpDone (raise (cnt a 10) { code := fcPortTimeout, access := 1 + b2n w, master := rq.id, addr := addr }) rq.id 3 0) ∧
  (∀ r l, s.shell.krp = r :: l → Does .krpRspTimeout s fun a =>
    raisePort (modShell a fun h => { h with krp := l }) fcPortTimeout 6 0 (krpRspPayload r))

/-- R391: an acknowledgement ends its message; UNREACHABLE, and no acknowledgement in time, fail it with NET_UNREACHABLE and
NET_TIMEOUT; a message not taken in time raises PORT_TIMEOUT and fails. -/
def Obligations.NetMessages : Prop :=
  ∀ s tag m, Running s → s.shell.net.find? (fun x => x.tag == tag) = some m →
  Does (.netAck tag false) s (fun a => modShell a fun h => { h with net := h.net.filter fun x => x.tag != tag }) ∧
  Does (.netAck tag true) s (fun a => netFails (raiseNet a (fcode 8 2 5) m) m) ∧
  Does (.netTimeout tag) s (fun a => netFails (raiseNet a (fcode 8 2 4) m) m) ∧
  Does (.netBeatTimeout tag) s (fun a => netFails (raisePort a fcPortTimeout 8 0 tag) m)

/-- R450–R453, R459: RETRAIN and the master's release start an enumeration, the returning ENUM gives the ring, the first ENUM at
another instance makes it a member; the time limits and losses of the ring end with the role, the capture and the state that
each rule names. -/
def Obligations.CascadeRing : Prop :=
  ∀ s, Running s →
  (s.cas.role = .master →
    (∀ rq, Secure rq → isArmed s = false → Writes (.casRetrain rq) s fun a =>
      casSend (modCas a fun c =>
        { c with failVerdicts := false, enumOut := true, ringOk := false, members := [], instances := 0, armChecks := [] })
        1 0xFF [0]) ∧
    (∀ n, s.cas.enumOut = true → 1 ≤ n → n ≤ 7 → Does (.casEnum n) s fun a =>
      modCas (latch a 3 5) fun c =>
        { c with
          enumOut := false, ringOk := true, instances := n + 1,
          members := (upto (n + 1)).foldl (fun m i => sset {} m i { valid := true }) [] }) ∧
    (s.cas.enumOut = true → Does .enumTimeout s fun a =>
      raiseI (modCas a fun c => { c with enumOut := false }) (fcode 14 2 0) 12) ∧
    (s.fault.safe = false → Does .heartbeatTimer s fun a => casSend a 2 0xFF [a.mode.gen % 2 ^ 32, a.cas.chip]) ∧
    (s.fault.safe = true → Does .heartbeatTimer s id) ∧
    Does .heartbeatNotReturned s (fun a =>
      raiseI (modCas a fun c =>
        { c with
          ringOk := false, failVerdicts := true,
          members := c.members.map fun (i, m) => (i, if i = 0 then m else { m with lost := true }) }) (fcode 14 2 2) 12)) ∧
  (s.cas.role = .member →
    (∀ n, Does (.casEnum n) s fun a =>
      let b := if s.cas.roleKnown then latch a 3 5 else takeRole (latch a 3 5) .member
      casForward (modCas b fun c => { c with position := n + 1 }) 1 0 0xFF [n + 1]) ∧
    (∀ g chip, Does (.heartbeat g chip) s fun a =>
      casForward (latch (modCas a fun c => { c with chip := chip % 2 ^ 16 }) 3 5) 2 0 0xFF [g, chip]) ∧
    (s.cas.masterLost = false → Does .heartbeatMiss s fun a =>
      raiseI (modCas a fun c => { c with masterLost := true }) (fcode 14 3 1) 12) ∧
    (s.cas.roleKnown = true → Does .casHandshakeTimeout s fun a =>
      raiseI a (fcode 14 2 0) 12)) ∧
  (∀ n, s.cas.roleKnown = false → s.cas.role = .standalone → s.fault.safe = false → Does (.casEnum n) s fun a =>
      casForward (modCas (takeRole (latch a 3 5) .member) fun c => { c with position := n + 1 }) 1 0 0xFF [n + 1]) ∧
  (s.cas.roleKnown = false → Does .roleEnumTimeout s fun a => takeRole a .standalone)

/-- R158, R291, R452, R454–R456, R458: the master takes arm checks, verdicts and summaries of its members, and at the time
limits refuses the arm, as it does without a ring, and votes without a missing verdict; a member takes ARM_OK, ARM_REFUSED, DECISION and STOP, sends its
SUMMARY and passes every message on. -/
def Obligations.CascadeStep : Prop :=
  ∀ s, Running s →
  (s.cas.role = .master →
    (∀ i p, s.cas.ringOk = false → Does (.armCheck i p) s fun a =>
      let b := modCas (latch a 3 5) fun c => { c with armWait := none, armChecks := [] }
      modeRefused (raiseI (casSend b 4 0xFF [1, p.job]) (fcode 6 2 1) 1) 6 1 6 0 0) ∧
    (∀ i p, s.cas.ringOk = true → Does (.armCheck i p) s fun a =>
      casArmTry (latch (modCas a fun c => { c with armChecks := (c.armChecks.filter fun x => x.1 != i) ++ [(i, p)] }) 3 5)) ∧
    (s.cas.armWait.isSome = true → Does .armCheckTimeout s fun a =>
      let b := modCas a fun c => { c with armWait := none, armChecks := [] }
      modeRefused (raiseI (casSend b 4 0xFF [1, a.cas.armParams.job]) (fcode 6 2 1) 1) 6 1 6 0 0) ∧
    (∀ i v pt nf z n r, 1 ≤ i → i < s.cas.instances → Does (.casVerdict i v pt nf z n r) s fun a =>
      post (latch (updMember a i fun m =>
        { m with verdict := v, point := pt, nfRepro := nf, z := z, vstep := n, vreplay := r, voted := true }) 3 5) .tally) ∧
    (∀ ms, ((upto s.cas.instances).drop 1).filter (fun i => !(memberVoted s i)) = ms → ms ≠ [] → s.step.vote.tree.own = none →
      s.step.vote.verdict.isSome = true → Does .casVerdictTimeout s fun a =>
        let b := modCas a fun c => { c with late := some (a.step.eng.number % 2 ^ 32, a.step.eng.replayNo) }
        post (raiseI b (fcode 14 2 2) 12) .tally) ∧
    (∀ i p safe vm gm, i < s.cas.instances → Does (.casSummary i p safe vm gm) s fun a =>
      latch (updMember a i fun m =>
        { m with safe := safe, error := p % 2 ^ 16, fatal := p / 2 ^ 16 % 2 ^ 16, max := gm, validMax := vm }) 3 5)) ∧
  (s.cas.role = .member →
    (∀ job, s.cas.armWait.isSome = true → s.cas.armParams.job = job → Does (.armOk job) s fun a =>
      post (modCas (casForward (latch a 3 5) 4 0 0xFF [0, job]) fun c => { c with armOk := true }) .armGo) ∧
    (∀ job, Does (.armRefused job) s fun a =>
      casForward (latch (modCas a fun c => { c with armWait := none }) 3 5) 4 0 0xFF [1, job]) ∧
    (∀ w, s.cas.lastDec ≠ some (fld w 31 0, fld w 47 32) → fld w 31 0 = s.step.eng.number % 2 ^ 32 → Does (.casDecision w) s fun a =>
      let b := modCas (casForward (latch a 3 5) 6 0 0xFF [w.toNat]) fun c => { c with lastDec := some (fld w 31 0, fld w 47 32) }
      post b (.decision (wordDecision b w))) ∧
    Does .summaryTimer s (fun a => casSend a 7 0 [pendingHigh a, b2n a.fault.safe, a.thermal.validMax, a.thermal.globalMax]) ∧
    Does .casStop s (fun a => post (casForward (latch a 3 5) 8 0 0xFF []) .stop) ∧
    (∀ i p, Does (.armCheck i p) s fun a =>
      casForward (latch a 3 5) 3 i 0 [p.jobMode, p.style, p.mirror, p.job]) ∧
    (∀ i v pt nf z n r, Does (.casVerdict i v pt nf z n r) s fun a =>
      casForward (latch a 3 5) 5 i 0 [v, pt, b2n nf, z, n, r]) ∧
    (∀ i p safe vm gm, Does (.casSummary i p safe vm gm) s fun a =>
      casForward (latch a 3 5) 7 i 0 [p, b2n safe, vm, gm]))

/-- R445, R474, R478, R480–R482, R484: a counter command acts on its scope and counts the tiles it missed; OBS_RING_SEL
reads a tile's ring, or fails with the riser down; OBS_DUMP_CMD arms and cancels a dump list; the end of a husk part starts
the next or ends the dump with DONE; a write of the held SEQ consumes the result. It uses definitions with conventions of the model: log entries 5, 136. -/
def Obligations.Observation : Prop :=
  ∀ s rq, Running s → Secure rq →
  (s.obs.cntBusy = false →
    (∀ tag x, Writes (.cntClearStart 0 tag x rq) s fun a => modOb a fun o =>
      { o with counts := [], running := true, tag := tag, cntBusy := true, cntTag := tag, missed := 0 }) ∧
    (∀ tag x, Writes (.cntFreeze 0 tag x rq) s fun a => modOb a fun o =>
      { o with running := false, tag := tag, cntBusy := true, cntTag := tag, missed := 0 }) ∧
    (∀ tag x, Writes (.cntRun 0 tag x rq) s fun a => modOb a fun o =>
      { o with running := true, tag := tag, cntBusy := true, cntTag := tag, missed := 0 }) ∧
    (∀ tag x, Writes (.cntClearStart 3 tag x rq) s fun a =>
      let b := forEach (s.build.positions.filter (riserUp s)) a fun b n => modObs b n fun o =>
        { o with counts := [], running := true, tag := tag }
      modOb b fun o =>
        { o with
          cntBusy := true, cntTag := tag, missed := (s.build.positions.filter fun n => !(riserUp s n)).length })) ∧
  Does .cntCmdDone s (fun a => modOb a fun o => { o with cntBusy := false }) ∧
  (∀ v n i, fld v 27 16 = n → fld v 5 0 = i → n < s.build.tiles →
    let sel (a : State) := modOb a fun o => { o with ringSel := pack [(16, 12, n), (0, 6, i)], ringTile := n, ringIndex := i }
    (riserUp s n = true → Writes (.obsRingSel v rq) s fun a => modOb (sel a) fun o =>
      { o with
        ringFailed := false, ringGen := wrapAdd 16 o.ringGen 1,
        ringData := (upto 8).flatMap fun k => ringWords (((tile s n).obs.ring[i + k]?).getD {}) }) ∧
    (riserUp s n = false → Writes (.obsRingSel v rq) s fun a => modOb (sel a) fun o => { o with ringFailed := true })) ∧
  (∀ list, (secState s = .open_ ∨ secState s = .sealed_) → s.obs.run = none → Writes (.dumpArm list rq) s fun a =>
      let es := dumpEntries list
      let b := modOb (dumpDiscard a) fun o => { o with entries := es, nextDst := 0, fired := [] }
      forEach ((upto es.length).zip es) b fun b (i, e) => if e.refused then dumpOutcome b i 1 else b) ∧
  Writes (.dumpCancel rq) s dumpDiscard ∧
  (∀ v, s.obs.result.valid = true → fld v 15 0 = s.obs.result.seq → Writes (.obsDumpResultAck v rq) s fun a =>
      modOb a fun o => { o with result := { o.result with valid := false } }) ∧
  (∀ r, s.obs.run = some r → r.written = true →
    let off := r.offset + r.bytes.length
    let dst := r.dst + huskSpace r.bytes.length
    (off < (runEntry s r).len → Does .huskDone s fun a =>
      huskRead (modOb a fun o => { o with nextDst := dst })
        { entry := r.entry, part := r.part + 1, offset := off, dst := dst, serial := r.serial }) ∧
    ((runEntry s r).len ≤ off → Does .huskDone s fun a =>
      dumpGo (dumpOutcome (modOb a fun o => { o with nextDst := dst, run := none }) r.entry 0)))

/-- R402, R406, R444, R458: TRAY answers STATUS_REQUEST and the MCTP and I3C commands it supports; JTAG selects a register; an
instrument that the security state enables joins the network, the first refusal of another is raised. It uses definitions with conventions of the model: log entries 126, 145. -/
def Obligations.TrayAndJtag : Prop :=
  ∀ s, Running s →
  (s.cas.role ≠ .master → Does .statusRequest s fun a =>
      traySend (latch a 3 4) (statusMsg (modeStatus a) (faultStatus a) a.thermal.globalMax)) ∧
  (∀ e, e < 256 → Does (.mctpControl .setEid e) s fun a =>
      traySend { latch a 3 4 with shell := { a.shell with trayEid := e } } (.control .setEid e)) ∧
  (∀ x, Does (.mctpControl .getTypes x) s fun a => traySend (latch a 3 4) (.control .getTypes 0x7F)) ∧
  (∀ x, x / 128 % 128 = Config.trayStatic % 128 → Does (.i3cCcc .setdasa x) s fun a =>
      { a with shell := { a.shell with trayAddr := some (x % 128) } }) ∧
  (∀ x, x / 128 % 128 ≠ Config.trayStatic % 128 → Does (.i3cCcc .setdasa x) s id) ∧
  (∀ x, Does (.i3cCcc .rstdaa x) s fun a => { a with shell := { a.shell with trayAddr := none } }) ∧
  Does .jtagIdcode s (fun a => { a with shell := { a.shell with jtag := .idcode } }) ∧
  Does .jtagBypass s (fun a => { a with shell := { a.shell with jtag := .bypass } }) ∧
  Does .jtagAccess s (fun a => { a with shell := { a.shell with jtag := .network, denied := [] } }) ∧
  (∀ i, s.shell.jtag = .network → instrEnabled (secState s) i = true → i ≠ .zeroise → Does (.instrumentInclude i) s fun a =>
      let l := a.shell.included
      { a with shell := { a.shell with included := if l.contains i then l else l ++ [i] } }) ∧
  (∀ i, s.shell.jtag = .network → instrEnabled (secState s) i = false → s.shell.denied.contains i = false →
    Does (.instrumentInclude i) s fun a =>
      raiseI { a with shell := { a.shell with included := a.shell.included.filter fun j => j != i, denied := a.shell.denied ++ [i] } }
        fcDenied 4)

/-- A step takes the command at the front of the queue and is exec of it on the state with the queue's rest; with no command
waiting the block idles (DESIGN CHOICE of the model, log entry 1). -/
def Obligations.StepRunsFront : Prop :=
  (∀ (s : State) c rest, step { s with pending := c :: rest } = exec c { s with pending := rest }) ∧
  (∀ (s : State), s.pending = [] → step s = .next s)

/-- R4, R253, R398, R399, R450: right after reset the build is legal, nothing waits, the power state is RUN, the block is
unarmed and idle, no safe state holds, every level is DEFAULT, no region is active, and the identity registers read as on the reference
integration (R4). It uses definitions with conventions of the model: log entries 2, 3. -/
def Obligations.ResetState : Prop :=
  let s := State.reset
  Sound s ∧ s.pending = [] ∧ s.work = [] ∧ s.mode.power = .run ∧ isArmed s = false ∧ s.step.eng.phase = .idle ∧
  s.fault.safe = false ∧ s.fault.pending = 0 ∧ s.mode.levelReq = 0 ∧ mirMode s = 0 ∧ s.cas.role = .standalone ∧
  (∀ r, r < 128 → regActive s r = false) ∧ s.shell.keySeedReady = true ∧ s.shell.fuseReading = true ∧
  Running s ∧
  readReg s 0x000000 = some 0x000000000B2C4B04 ∧ readReg s 0x000008 = some 0x0000000000040200 ∧
  readReg s 0x000010 = some 3 ∧ readReg s 0x000018 = some 0x0201 ∧ readReg s 0x000020 = some 0x0030050900400900

/-- Every well-formed command ends in a next state that keeps the build and the queue; a command that names a unit the build
has not, and only such a one, stops (R3). No command is refused. It uses definitions with conventions of the model: log entry 5. -/
def Obligations.CommandsComplete : Prop :=
  ∀ c s,
  (wellFormed s.build c = true → ∃ t, exec c s = .next t ∧ t.build = s.build ∧ t.pending = s.pending) ∧
  (wellFormed s.build c = false → exec c s = .fault .noSuchUnit)

/-- R4: the logical tile count is PHYS_TILES − SPARE_TILES, and no step changes what an IDENT register reads. -/
def Obligations.IdentityKept : Prop :=
  ∀ (s t : State), step s = .next t →
    s.build.logical = s.build.tiles - s.build.spares ∧ t.build.logical = s.build.logical ∧
    ∀ off, off < 0x1000 → readReg t off = readReg s off

/-- A sound state stays sound: a step keeps the build and adds nothing to the queue. -/
def Obligations.SoundKept : Prop := ∀ s t, Sound s → step s = .next t → Sound t

/-- However many commands wait, a run from a sound state never stops: after k steps the first k of them have been carried
out in order, and the build is the one it was. -/
def Obligations.RunsNeverStop : Prop :=
  ∀ k s, Sound s → ∃ t, core.run k s = .next t ∧ Sound t ∧ t.build = s.build ∧ t.pending = s.pending.drop k

/-- R250: while PORST_N is not released, the block stays DARK over any run, whatever commands arrive. -/
def Obligations.DarkLasts : Prop :=
  ∀ k s t, s.mode.power = .dark → (∀ strap, Instr.porstRelease strap ∉ s.pending) → core.run k s = .next t →
    t.mode.power = .dark

/-- R253, R378, R379: while PORST_N or BLK_RST_N is low, a command of any unit that the reset holds changes nothing. It uses definitions with conventions of the model: log entry 5. -/
def Obligations.ResetHolds : Prop :=
  ∀ s c, (s.shell.porstLow = true ∨ s.shell.blkRstLow = true) → outsideSpine c = false → wellFormed s.build c = true →
    exec c s = .next s

/-- R270: every register of the FAULT block but FAULT_IRQ_NS_EN refuses a write by a requester without the secure attribute:
it completes with DENIED and changes nothing but the count of refused accesses; a read is open to every requester. -/
def Obligations.FaultBlockSecure : Prop :=
  ∀ s rq off v, Running s → Requester rq → 0x010000 ≤ off → off < 0x020000 → isReg (cnt s 10) off = true →
  (rq.sec = false → off ≠ 0x010038 → Does (.krpRequest rq.id off true v rq.sec) s fun a => krpDone (cnt a 10) rq.id 1 0) ∧
  (off = 0x010038 → Does (.krpRequest rq.id off true v rq.sec) s fun a => krpDone (writeReg rq off v (cnt a 10)) rq.id 0 0) ∧
  Does (.krpRequest rq.id off false v rq.sec) s (fun a => krpDone (cnt a 10) rq.id 0 ((readReg (cnt a 10) off).getD 0))

/-- R389: a KRP request that carries a requester ID of the block completes with DENIED and raises PORT_RANGE. -/
def Obligations.BlockIdsRefused : Prop :=
  ∀ s (rq : Machine.Acc) off w v, Running s → 0xFFF0 ≤ rq.id → rq.id ≤ 0xFFFF → off < 2 ^ 24 →
    Does (.krpRequest rq.id off w v rq.sec) s fun a =>
      krpDone (raisePort (cnt a 10) fcPortRange 6 0 (krpPayload rq off w v)) rq.id 1 0

/-- R9, R364, R486: a command that writes a register of the secure side, from a requester without the secure attribute, is
DENIED and has no other effect, whatever its operands. It uses definitions with conventions of the model: log entries 5, 123. -/
def Obligations.NonSecureRefused : Prop :=
  ∀ s c rq, Running s → wellFormed s.build c = true → secureCmd c = some rq → rq.id < 0xFFF0 → rq.sec = false →
    Does c s fun a => krpDone (cnt a 10) rq.id 1 0

/-- R367: a post to a FULL slot, inbound or outbound, overwrites the message, sets COLLISION and raises MBOX_COLLISION; one to
a slot that is not FULL raises nothing and leaves COLLISION; a write of one to its bit clears it. -/
def Obligations.FullSlotPost : Prop :=
  ∀ s rq c v db, mbAllowed rq c = true → swf {} s.mail.ch = true →
  let t := mbInPost rq c v s
  let u := mbOutPost c v db s
  (mbox t c).inPtr = v ∧ (mbox t c).inSeq = ((mbox s c).inSeq + 1) % 2 ^ 16 ∧
  (inOutArea (mbox s c).outArea v = true → (mbox u c).outPtr = v) ∧ (mbox u c).outSeq = ((mbox s c).outSeq + 1) % 2 ^ 16 ∧
  (inFull (mbox s c) = true → (mbox t c).inColl = true ∧ .capture { code := fcode 13 1 3, access := 2, master := rq.id, addr := 0x030000 + c * 0x100 } ∈ t.work) ∧
  (inFull (mbox s c) = false → (mbox t c).inColl = (mbox s c).inColl ∧ t.work = s.work) ∧
  (outFull (mbox s c) = true → (mbox u c).outColl = true ∧ .capture { code := fcode 13 1 3, master := 10, addr := c } ∈ u.work) ∧
  (outFull (mbox s c) = false → (mbox u c).outColl = (mbox s c).outColl ∧ u.work = s.work) ∧
  (∀ w, bitOf w 62 = true →
    (mbox (mbCollClear rq c false w s) c).inColl = false ∧ (mbox (mbCollClear rq c true w s) c).outColl = false)

/-- R154: the votes of a subtree, combined in any order of arrival, have the sums of their counts, the greatest POINT, the sum
of the Z words modulo 2³¹ − 1, the AND of NF_REPRO_ALL, and the FIRST_CHIP of one whose verdict is the worst. -/
def Obligations.VoteCombination : Prop :=
  ∀ (v : Vote) (vs : List Vote),
  let l := v :: vs
  let r := vs.foldl addVote v
  r.nClean = (l.map (·.nClean)).sum ∧ r.nSuspect = (l.map (·.nSuspect)).sum ∧ r.nNonfinite = (l.map (·.nNonfinite)).sum ∧
  r.nFailed = (l.map (·.nFailed)).sum ∧ r.nAbsent = (l.map (·.nAbsent)).sum ∧ r.z % resP = (l.map (·.z)).sum % resP ∧
  (r.nfReproAll = true ↔ ∀ x ∈ l, x.nfReproAll = true) ∧
  (∃ x ∈ l, x.point = r.point) ∧ (∀ x ∈ l, x.point ≤ r.point) ∧
  (∃ x ∈ l, x.worst = r.worst ∧ x.firstChip = r.firstChip) ∧ (∀ x ∈ l, x.worst ≤ r.worst)

/-- R92: results that reach a register while a record is held leave the record and its SEQ, and MISSED counts them; the write of
another value changes nothing; the write of SEQ consumes it, and the next result then fills it with SEQ + 1 and MISSED 0. -/
def Obligations.HeldRecord : Prop :=
  ∀ (h : Held) (rs : List (Word × Word × Word)), h.valid = true →
  let g := rs.foldl (fun h r => heldPost h r.1 r.2.1 r.2.2) h
  g = { h with missed := h.missed + rs.length } ∧
  (∀ v, fld v 15 0 ≠ h.seq → heldAck g v = g) ∧
  (∀ v, fld v 15 0 = h.seq → ∀ a b t,
    (heldAck g v).valid = false ∧ (heldAck g v).w0 = h.w0 ∧ (heldAck g v).time = h.time ∧
    heldPost (heldAck g v) a b t = { valid := true, seq := (h.seq + 1) % 2 ^ 16, missed := 0, w0 := a, w1 := b, time := t })

/-- R349, R353: s0 reads 0 whatever is written to it; a write of another register is read back from it and leaves the rest; a
core keeps its registers in their canonical form. A WAIT takes the lowest-numbered set latch of its mask, and waits when
none is set; only that latch is cleared. -/
def Obligations.CoreRegistersAndWait : Prop :=
  (∀ (c : Machine.Core) r q v, swf 0 c.regs = true →
    sreg c 0 = 0 ∧ setSreg c 0 v = c ∧ swf 0 (setSreg c r v).regs = true ∧
    sreg (setSreg c r v) q = if q = r ∧ r ≠ 0 then v else sreg c q) ∧
  (∀ latches mask,
    (∀ e, lowLatch latches mask = some e ↔
      e < 19 ∧ nbit latches e = true ∧ nbit mask e = true ∧ ∀ j, j < e → ¬ (nbit latches j = true ∧ nbit mask j = true)) ∧
    (∀ e, nbit latches e = true → ∀ j, nbit (latches - (latches &&& 2 ^ e)) j = (nbit latches j && j != e)))

/-- R92, R93, R124, R202, R231, R251, R260, R297, R367, R368, R388, R473: on a quiet block an acknowledgement of a record, or a
write that clears mailbox bits, changes nothing but what it names: beside that, the access is counted and answered OK,
and what the step before sent is taken. -/
def Obligations.AcknowledgeFrames : Prop :=
  ∀ s rq v, Quiet s → Running s → Secure rq →
  let ans (t : State) : State :=
    { t with
      obs := (cnt t 10).obs, cas := { t.cas with out := [] },
      shell := { t.shell with krp := t.shell.krp.drop (t.shell.krp.length - 7) ++ [⟨0, rq.id, 0⟩], trayOut := [] } }
  exec (.modeRefusedAck v rq) s = .next (ans { s with mode := { s.mode with refused := heldAck s.mode.refused v } }) ∧
  exec (.hangEventAck v rq) s = .next (ans { s with hangReg := heldAck s.hangReg v }) ∧
  exec (.stopAck v rq) s = .next (ans { s with stopReg := heldAck s.stopReg v }) ∧
  exec (.qrsEventAck v rq) s = .next (ans { s with qrs := { s.qrs with event := heldAck s.qrs.event v } }) ∧
  exec (.mirrorCheckAck v rq) s =
    .next (ans { s with mirror := { s.mirror with checkReg := heldAck s.mirror.checkReg v } }) ∧
  exec (.configEventAck v rq) s = .next (ans { s with loader := { s.loader with event := heldAck s.loader.event v } }) ∧
  exec (.obsDumpResultAck v rq) s = .next (ans { s with obs := { s.obs with result := heldAck s.obs.result v } }) ∧
  exec (.stepVerdictAck v rq) s = .next (ans (modRegs s fun g => { g with verdict := heldAck g.verdict v })) ∧
  exec (.stepDecisionAck v rq) s = .next (ans (modRegs s fun g => { g with decision := heldAck g.decision v })) ∧
  exec (.collMismatchAck v rq) s = .next (ans (modRegs s fun g => { g with collMis := heldAck g.collMis v })) ∧
  (s.step.regs.covValid = true → fld v 15 0 = s.step.regs.covSeq →
    exec (.stepCovAck v rq) s = .next (ans (modRegs s fun g => { g with covValid := false }))) ∧
  (s.fault.first.valid = true → fld v 15 0 = fld s.fault.first.info 47 32 →
    exec (.faultFirstAck v rq) s = .next (ans { s with
      fault := { s.fault with first := { s.fault.first with valid := false, info := setFld s.fault.first.info 63 63 0 } } })) ∧
  (∀ c, c < 8 →
    exec (.mbOutDb c v rq) s = .next (ans (updMbox s c fun m => { m with outDb := m.outDb - (m.outDb &&& fld v 31 0) })) ∧
    (bitOf v 62 = true →
      exec (.collisionClear c false v rq) s = .next (ans (updMbox s c fun m => { m with inColl := false })) ∧
      exec (.collisionClear c true v rq) s = .next (ans (updMbox s c fun m => { m with outColl := false }))))
end

