-- ==== Sys2Proof/Laws/State.lean ====
section
/-! SUPPORT. What each update of the state leaves alone: one lemma per update and field. -/
namespace Sys2Proof.Machine

set_option Elab.async false

variable (s : State)

section
variable (w : Work)
@[simp] theorem post_build : (post s w).build = s.build := rfl
@[simp] theorem post_pending : (post s w).pending = s.pending := rfl
@[simp] theorem post_tiles : (post s w).tiles = s.tiles := rfl
@[simp] theorem post_time : (post s w).time = s.time := rfl
@[simp] theorem post_mode : (post s w).mode = s.mode := rfl
@[simp] theorem post_fault : (post s w).fault = s.fault := rfl
@[simp] theorem post_ladder : (post s w).ladder = s.ladder := rfl
@[simp] theorem post_search : (post s w).search = s.search := rfl
@[simp] theorem post_hangReg : (post s w).hangReg = s.hangReg := rfl
@[simp] theorem post_stop : (post s w).stop = s.stop := rfl
@[simp] theorem post_stopReg : (post s w).stopReg = s.stopReg := rfl
@[simp] theorem post_rcd : (post s w).rcd = s.rcd := rfl
@[simp] theorem post_gran : (post s w).gran = s.gran := rfl
@[simp] theorem post_qrs : (post s w).qrs = s.qrs := rfl
@[simp] theorem post_loader : (post s w).loader = s.loader := rfl
@[simp] theorem post_dma : (post s w).dma = s.dma := rfl
@[simp] theorem post_seq : (post s w).seq = s.seq := rfl
@[simp] theorem post_mail : (post s w).mail = s.mail := rfl
@[simp] theorem post_shell : (post s w).shell = s.shell := rfl
@[simp] theorem post_step : (post s w).step = s.step := rfl
@[simp] theorem post_mirror : (post s w).mirror = s.mirror := rfl
@[simp] theorem post_supply : (post s w).supply = s.supply := rfl
@[simp] theorem post_thermal : (post s w).thermal = s.thermal := rfl
@[simp] theorem post_sec : (post s w).sec = s.sec := rfl
@[simp] theorem post_cas : (post s w).cas = s.cas := rfl
@[simp] theorem post_bring : (post s w).bring = s.bring := rfl
@[simp] theorem post_mem : (post s w).mem = s.mem := rfl
@[simp] theorem post_obs : (post s w).obs = s.obs := rfl
end

section
variable (c : Cap)
@[simp] theorem raise_build : (raise s c).build = s.build := rfl
@[simp] theorem raise_pending : (raise s c).pending = s.pending := rfl
@[simp] theorem raise_tiles : (raise s c).tiles = s.tiles := rfl
@[simp] theorem raise_time : (raise s c).time = s.time := rfl
@[simp] theorem raise_mode : (raise s c).mode = s.mode := rfl
@[simp] theorem raise_fault : (raise s c).fault = s.fault := rfl
@[simp] theorem raise_ladder : (raise s c).ladder = s.ladder := rfl
@[simp] theorem raise_search : (raise s c).search = s.search := rfl
@[simp] theorem raise_hangReg : (raise s c).hangReg = s.hangReg := rfl
@[simp] theorem raise_stop : (raise s c).stop = s.stop := rfl
@[simp] theorem raise_stopReg : (raise s c).stopReg = s.stopReg := rfl
@[simp] theorem raise_rcd : (raise s c).rcd = s.rcd := rfl
@[simp] theorem raise_gran : (raise s c).gran = s.gran := rfl
@[simp] theorem raise_qrs : (raise s c).qrs = s.qrs := rfl
@[simp] theorem raise_loader : (raise s c).loader = s.loader := rfl
@[simp] theorem raise_dma : (raise s c).dma = s.dma := rfl
@[simp] theorem raise_seq : (raise s c).seq = s.seq := rfl
@[simp] theorem raise_mail : (raise s c).mail = s.mail := rfl
@[simp] theorem raise_shell : (raise s c).shell = s.shell := rfl
@[simp] theorem raise_step : (raise s c).step = s.step := rfl
@[simp] theorem raise_mirror : (raise s c).mirror = s.mirror := rfl
@[simp] theorem raise_supply : (raise s c).supply = s.supply := rfl
@[simp] theorem raise_thermal : (raise s c).thermal = s.thermal := rfl
@[simp] theorem raise_sec : (raise s c).sec = s.sec := rfl
@[simp] theorem raise_cas : (raise s c).cas = s.cas := rfl
@[simp] theorem raise_bring : (raise s c).bring = s.bring := rfl
@[simp] theorem raise_mem : (raise s c).mem = s.mem := rfl
@[simp] theorem raise_obs : (raise s c).obs = s.obs := rfl
end

section
variable (code master addr : Nat) (part : Option Nat)
@[simp] theorem raiseI_build : (raiseI s code master addr part).build = s.build := rfl
@[simp] theorem raiseI_pending : (raiseI s code master addr part).pending = s.pending := rfl
@[simp] theorem raiseI_tiles : (raiseI s code master addr part).tiles = s.tiles := rfl
@[simp] theorem raiseI_time : (raiseI s code master addr part).time = s.time := rfl
@[simp] theorem raiseI_mode : (raiseI s code master addr part).mode = s.mode := rfl
@[simp] theorem raiseI_fault : (raiseI s code master addr part).fault = s.fault := rfl
@[simp] theorem raiseI_ladder : (raiseI s code master addr part).ladder = s.ladder := rfl
@[simp] theorem raiseI_search : (raiseI s code master addr part).search = s.search := rfl
@[simp] theorem raiseI_hangReg : (raiseI s code master addr part).hangReg = s.hangReg := rfl
@[simp] theorem raiseI_stop : (raiseI s code master addr part).stop = s.stop := rfl
@[simp] theorem raiseI_stopReg : (raiseI s code master addr part).stopReg = s.stopReg := rfl
@[simp] theorem raiseI_rcd : (raiseI s code master addr part).rcd = s.rcd := rfl
@[simp] theorem raiseI_gran : (raiseI s code master addr part).gran = s.gran := rfl
@[simp] theorem raiseI_qrs : (raiseI s code master addr part).qrs = s.qrs := rfl
@[simp] theorem raiseI_loader : (raiseI s code master addr part).loader = s.loader := rfl
@[simp] theorem raiseI_dma : (raiseI s code master addr part).dma = s.dma := rfl
@[simp] theorem raiseI_seq : (raiseI s code master addr part).seq = s.seq := rfl
@[simp] theorem raiseI_mail : (raiseI s code master addr part).mail = s.mail := rfl
@[simp] theorem raiseI_shell : (raiseI s code master addr part).shell = s.shell := rfl
@[simp] theorem raiseI_step : (raiseI s code master addr part).step = s.step := rfl
@[simp] theorem raiseI_mirror : (raiseI s code master addr part).mirror = s.mirror := rfl
@[simp] theorem raiseI_supply : (raiseI s code master addr part).supply = s.supply := rfl
@[simp] theorem raiseI_thermal : (raiseI s code master addr part).thermal = s.thermal := rfl
@[simp] theorem raiseI_sec : (raiseI s code master addr part).sec = s.sec := rfl
@[simp] theorem raiseI_cas : (raiseI s code master addr part).cas = s.cas := rfl
@[simp] theorem raiseI_bring : (raiseI s code master addr part).bring = s.bring := rfl
@[simp] theorem raiseI_mem : (raiseI s code master addr part).mem = s.mem := rfl
@[simp] theorem raiseI_obs : (raiseI s code master addr part).obs = s.obs := rfl
end

section
variable (code : Nat) (rq : Acc) (off : Nat)
@[simp] theorem raiseK_build : (raiseK s code rq off).build = s.build := rfl
@[simp] theorem raiseK_pending : (raiseK s code rq off).pending = s.pending := rfl
@[simp] theorem raiseK_tiles : (raiseK s code rq off).tiles = s.tiles := rfl
@[simp] theorem raiseK_time : (raiseK s code rq off).time = s.time := rfl
@[simp] theorem raiseK_mode : (raiseK s code rq off).mode = s.mode := rfl
@[simp] theorem raiseK_fault : (raiseK s code rq off).fault = s.fault := rfl
@[simp] theorem raiseK_ladder : (raiseK s code rq off).ladder = s.ladder := rfl
@[simp] theorem raiseK_search : (raiseK s code rq off).search = s.search := rfl
@[simp] theorem raiseK_hangReg : (raiseK s code rq off).hangReg = s.hangReg := rfl
@[simp] theorem raiseK_stop : (raiseK s code rq off).stop = s.stop := rfl
@[simp] theorem raiseK_stopReg : (raiseK s code rq off).stopReg = s.stopReg := rfl
@[simp] theorem raiseK_rcd : (raiseK s code rq off).rcd = s.rcd := rfl
@[simp] theorem raiseK_gran : (raiseK s code rq off).gran = s.gran := rfl
@[simp] theorem raiseK_qrs : (raiseK s code rq off).qrs = s.qrs := rfl
@[simp] theorem raiseK_loader : (raiseK s code rq off).loader = s.loader := rfl
@[simp] theorem raiseK_dma : (raiseK s code rq off).dma = s.dma := rfl
@[simp] theorem raiseK_seq : (raiseK s code rq off).seq = s.seq := rfl
@[simp] theorem raiseK_mail : (raiseK s code rq off).mail = s.mail := rfl
@[simp] theorem raiseK_shell : (raiseK s code rq off).shell = s.shell := rfl
@[simp] theorem raiseK_step : (raiseK s code rq off).step = s.step := rfl
@[simp] theorem raiseK_mirror : (raiseK s code rq off).mirror = s.mirror := rfl
@[simp] theorem raiseK_supply : (raiseK s code rq off).supply = s.supply := rfl
@[simp] theorem raiseK_thermal : (raiseK s code rq off).thermal = s.thermal := rfl
@[simp] theorem raiseK_sec : (raiseK s code rq off).sec = s.sec := rfl
@[simp] theorem raiseK_cas : (raiseK s code rq off).cas = s.cas := rfl
@[simp] theorem raiseK_bring : (raiseK s code rq off).bring = s.bring := rfl
@[simp] theorem raiseK_mem : (raiseK s code rq off).mem = s.mem := rfl
@[simp] theorem raiseK_obs : (raiseK s code rq off).obs = s.obs := rfl
end

section
variable (code group sub payload : Nat) (part : Option Nat)
@[simp] theorem raisePort_build : (raisePort s code group sub payload part).build = s.build := rfl
@[simp] theorem raisePort_pending : (raisePort s code group sub payload part).pending = s.pending := rfl
@[simp] theorem raisePort_tiles : (raisePort s code group sub payload part).tiles = s.tiles := rfl
@[simp] theorem raisePort_time : (raisePort s code group sub payload part).time = s.time := rfl
@[simp] theorem raisePort_mode : (raisePort s code group sub payload part).mode = s.mode := rfl
@[simp] theorem raisePort_fault : (raisePort s code group sub payload part).fault = s.fault := rfl
@[simp] theorem raisePort_ladder : (raisePort s code group sub payload part).ladder = s.ladder := rfl
@[simp] theorem raisePort_search : (raisePort s code group sub payload part).search = s.search := rfl
@[simp] theorem raisePort_hangReg : (raisePort s code group sub payload part).hangReg = s.hangReg := rfl
@[simp] theorem raisePort_stop : (raisePort s code group sub payload part).stop = s.stop := rfl
@[simp] theorem raisePort_stopReg : (raisePort s code group sub payload part).stopReg = s.stopReg := rfl
@[simp] theorem raisePort_rcd : (raisePort s code group sub payload part).rcd = s.rcd := rfl
@[simp] theorem raisePort_gran : (raisePort s code group sub payload part).gran = s.gran := rfl
@[simp] theorem raisePort_qrs : (raisePort s code group sub payload part).qrs = s.qrs := rfl
@[simp] theorem raisePort_loader : (raisePort s code group sub payload part).loader = s.loader := rfl
@[simp] theorem raisePort_dma : (raisePort s code group sub payload part).dma = s.dma := rfl
@[simp] theorem raisePort_seq : (raisePort s code group sub payload part).seq = s.seq := rfl
@[simp] theorem raisePort_mail : (raisePort s code group sub payload part).mail = s.mail := rfl
@[simp] theorem raisePort_shell : (raisePort s code group sub payload part).shell = s.shell := rfl
@[simp] theorem raisePort_step : (raisePort s code group sub payload part).step = s.step := rfl
@[simp] theorem raisePort_mirror : (raisePort s code group sub payload part).mirror = s.mirror := rfl
@[simp] theorem raisePort_supply : (raisePort s code group sub payload part).supply = s.supply := rfl
@[simp] theorem raisePort_thermal : (raisePort s code group sub payload part).thermal = s.thermal := rfl
@[simp] theorem raisePort_sec : (raisePort s code group sub payload part).sec = s.sec := rfl
@[simp] theorem raisePort_cas : (raisePort s code group sub payload part).cas = s.cas := rfl
@[simp] theorem raisePort_bring : (raisePort s code group sub payload part).bring = s.bring := rfl
@[simp] theorem raisePort_mem : (raisePort s code group sub payload part).mem = s.mem := rfl
@[simp] theorem raisePort_obs : (raisePort s code group sub payload part).obs = s.obs := rfl
end

section
variable (code x reading : Nat) (p : Option Nat)
@[simp] theorem raiseS_build : (raiseS s code x reading p).build = s.build := rfl
@[simp] theorem raiseS_pending : (raiseS s code x reading p).pending = s.pending := rfl
@[simp] theorem raiseS_tiles : (raiseS s code x reading p).tiles = s.tiles := rfl
@[simp] theorem raiseS_time : (raiseS s code x reading p).time = s.time := rfl
@[simp] theorem raiseS_mode : (raiseS s code x reading p).mode = s.mode := rfl
@[simp] theorem raiseS_fault : (raiseS s code x reading p).fault = s.fault := rfl
@[simp] theorem raiseS_ladder : (raiseS s code x reading p).ladder = s.ladder := rfl
@[simp] theorem raiseS_search : (raiseS s code x reading p).search = s.search := rfl
@[simp] theorem raiseS_hangReg : (raiseS s code x reading p).hangReg = s.hangReg := rfl
@[simp] theorem raiseS_stop : (raiseS s code x reading p).stop = s.stop := rfl
@[simp] theorem raiseS_stopReg : (raiseS s code x reading p).stopReg = s.stopReg := rfl
@[simp] theorem raiseS_rcd : (raiseS s code x reading p).rcd = s.rcd := rfl
@[simp] theorem raiseS_gran : (raiseS s code x reading p).gran = s.gran := rfl
@[simp] theorem raiseS_qrs : (raiseS s code x reading p).qrs = s.qrs := rfl
@[simp] theorem raiseS_loader : (raiseS s code x reading p).loader = s.loader := rfl
@[simp] theorem raiseS_dma : (raiseS s code x reading p).dma = s.dma := rfl
@[simp] theorem raiseS_seq : (raiseS s code x reading p).seq = s.seq := rfl
@[simp] theorem raiseS_mail : (raiseS s code x reading p).mail = s.mail := rfl
@[simp] theorem raiseS_shell : (raiseS s code x reading p).shell = s.shell := rfl
@[simp] theorem raiseS_step : (raiseS s code x reading p).step = s.step := rfl
@[simp] theorem raiseS_mirror : (raiseS s code x reading p).mirror = s.mirror := rfl
@[simp] theorem raiseS_supply : (raiseS s code x reading p).supply = s.supply := rfl
@[simp] theorem raiseS_thermal : (raiseS s code x reading p).thermal = s.thermal := rfl
@[simp] theorem raiseS_sec : (raiseS s code x reading p).sec = s.sec := rfl
@[simp] theorem raiseS_cas : (raiseS s code x reading p).cas = s.cas := rfl
@[simp] theorem raiseS_bring : (raiseS s code x reading p).bring = s.bring := rfl
@[simp] theorem raiseS_mem : (raiseS s code x reading p).mem = s.mem := rfl
@[simp] theorem raiseS_obs : (raiseS s code x reading p).obs = s.obs := rfl
end

section
variable (type master : Nat) (content : List Word) (flags : Nat)
@[simp] theorem record_build : (record s type master content flags).build = s.build := rfl
@[simp] theorem record_pending : (record s type master content flags).pending = s.pending := rfl
@[simp] theorem record_tiles : (record s type master content flags).tiles = s.tiles := rfl
@[simp] theorem record_time : (record s type master content flags).time = s.time := rfl
@[simp] theorem record_mode : (record s type master content flags).mode = s.mode := rfl
@[simp] theorem record_fault : (record s type master content flags).fault = s.fault := rfl
@[simp] theorem record_ladder : (record s type master content flags).ladder = s.ladder := rfl
@[simp] theorem record_search : (record s type master content flags).search = s.search := rfl
@[simp] theorem record_hangReg : (record s type master content flags).hangReg = s.hangReg := rfl
@[simp] theorem record_stop : (record s type master content flags).stop = s.stop := rfl
@[simp] theorem record_stopReg : (record s type master content flags).stopReg = s.stopReg := rfl
@[simp] theorem record_rcd : (record s type master content flags).rcd = s.rcd := rfl
@[simp] theorem record_gran : (record s type master content flags).gran = s.gran := rfl
@[simp] theorem record_qrs : (record s type master content flags).qrs = s.qrs := rfl
@[simp] theorem record_loader : (record s type master content flags).loader = s.loader := rfl
@[simp] theorem record_dma : (record s type master content flags).dma = s.dma := rfl
@[simp] theorem record_seq : (record s type master content flags).seq = s.seq := rfl
@[simp] theorem record_mail : (record s type master content flags).mail = s.mail := rfl
@[simp] theorem record_shell : (record s type master content flags).shell = s.shell := rfl
@[simp] theorem record_step : (record s type master content flags).step = s.step := rfl
@[simp] theorem record_mirror : (record s type master content flags).mirror = s.mirror := rfl
@[simp] theorem record_supply : (record s type master content flags).supply = s.supply := rfl
@[simp] theorem record_thermal : (record s type master content flags).thermal = s.thermal := rfl
@[simp] theorem record_sec : (record s type master content flags).sec = s.sec := rfl
@[simp] theorem record_cas : (record s type master content flags).cas = s.cas := rfl
@[simp] theorem record_bring : (record s type master content flags).bring = s.bring := rfl
@[simp] theorem record_mem : (record s type master content flags).mem = s.mem := rfl
@[simp] theorem record_obs : (record s type master content flags).obs = s.obs := rfl
end

section
variable (dst type : Nat) (words : List Word)
@[simp] theorem net_build : (net s dst type words).build = s.build := rfl
@[simp] theorem net_pending : (net s dst type words).pending = s.pending := rfl
@[simp] theorem net_tiles : (net s dst type words).tiles = s.tiles := rfl
@[simp] theorem net_time : (net s dst type words).time = s.time := rfl
@[simp] theorem net_mode : (net s dst type words).mode = s.mode := rfl
@[simp] theorem net_fault : (net s dst type words).fault = s.fault := rfl
@[simp] theorem net_ladder : (net s dst type words).ladder = s.ladder := rfl
@[simp] theorem net_search : (net s dst type words).search = s.search := rfl
@[simp] theorem net_hangReg : (net s dst type words).hangReg = s.hangReg := rfl
@[simp] theorem net_stop : (net s dst type words).stop = s.stop := rfl
@[simp] theorem net_stopReg : (net s dst type words).stopReg = s.stopReg := rfl
@[simp] theorem net_rcd : (net s dst type words).rcd = s.rcd := rfl
@[simp] theorem net_gran : (net s dst type words).gran = s.gran := rfl
@[simp] theorem net_qrs : (net s dst type words).qrs = s.qrs := rfl
@[simp] theorem net_loader : (net s dst type words).loader = s.loader := rfl
@[simp] theorem net_dma : (net s dst type words).dma = s.dma := rfl
@[simp] theorem net_seq : (net s dst type words).seq = s.seq := rfl
@[simp] theorem net_mail : (net s dst type words).mail = s.mail := rfl
@[simp] theorem net_shell : (net s dst type words).shell = s.shell := rfl
@[simp] theorem net_step : (net s dst type words).step = s.step := rfl
@[simp] theorem net_mirror : (net s dst type words).mirror = s.mirror := rfl
@[simp] theorem net_supply : (net s dst type words).supply = s.supply := rfl
@[simp] theorem net_thermal : (net s dst type words).thermal = s.thermal := rfl
@[simp] theorem net_sec : (net s dst type words).sec = s.sec := rfl
@[simp] theorem net_cas : (net s dst type words).cas = s.cas := rfl
@[simp] theorem net_bring : (net s dst type words).bring = s.bring := rfl
@[simp] theorem net_mem : (net s dst type words).mem = s.mem := rfl
@[simp] theorem net_obs : (net s dst type words).obs = s.obs := rfl
end

section
variable (n line : Nat)
@[simp] theorem latch_build : (latch s n line).build = s.build := rfl
@[simp] theorem latch_pending : (latch s n line).pending = s.pending := rfl
@[simp] theorem latch_work : (latch s n line).work = s.work := rfl
@[simp] theorem latch_tiles : (latch s n line).tiles = s.tiles := rfl
@[simp] theorem latch_time : (latch s n line).time = s.time := rfl
@[simp] theorem latch_mode : (latch s n line).mode = s.mode := rfl
@[simp] theorem latch_fault : (latch s n line).fault = s.fault := rfl
@[simp] theorem latch_ladder : (latch s n line).ladder = s.ladder := rfl
@[simp] theorem latch_search : (latch s n line).search = s.search := rfl
@[simp] theorem latch_hangReg : (latch s n line).hangReg = s.hangReg := rfl
@[simp] theorem latch_stop : (latch s n line).stop = s.stop := rfl
@[simp] theorem latch_stopReg : (latch s n line).stopReg = s.stopReg := rfl
@[simp] theorem latch_rcd : (latch s n line).rcd = s.rcd := rfl
@[simp] theorem latch_gran : (latch s n line).gran = s.gran := rfl
@[simp] theorem latch_qrs : (latch s n line).qrs = s.qrs := rfl
@[simp] theorem latch_loader : (latch s n line).loader = s.loader := rfl
@[simp] theorem latch_dma : (latch s n line).dma = s.dma := rfl
@[simp] theorem latch_mail : (latch s n line).mail = s.mail := rfl
@[simp] theorem latch_shell : (latch s n line).shell = s.shell := rfl
@[simp] theorem latch_step : (latch s n line).step = s.step := rfl
@[simp] theorem latch_mirror : (latch s n line).mirror = s.mirror := rfl
@[simp] theorem latch_supply : (latch s n line).supply = s.supply := rfl
@[simp] theorem latch_thermal : (latch s n line).thermal = s.thermal := rfl
@[simp] theorem latch_sec : (latch s n line).sec = s.sec := rfl
@[simp] theorem latch_cas : (latch s n line).cas = s.cas := rfl
@[simp] theorem latch_bring : (latch s n line).bring = s.bring := rfl
@[simp] theorem latch_mem : (latch s n line).mem = s.mem := rfl
@[simp] theorem latch_obs : (latch s n line).obs = s.obs := rfl
end

section
variable (r : Nat) (f : Rail → Rail)
@[simp] theorem updRail_build : (updRail s r f).build = s.build := rfl
@[simp] theorem updRail_pending : (updRail s r f).pending = s.pending := rfl
@[simp] theorem updRail_work : (updRail s r f).work = s.work := rfl
@[simp] theorem updRail_tiles : (updRail s r f).tiles = s.tiles := rfl
@[simp] theorem updRail_time : (updRail s r f).time = s.time := rfl
@[simp] theorem updRail_mode : (updRail s r f).mode = s.mode := rfl
@[simp] theorem updRail_fault : (updRail s r f).fault = s.fault := rfl
@[simp] theorem updRail_ladder : (updRail s r f).ladder = s.ladder := rfl
@[simp] theorem updRail_search : (updRail s r f).search = s.search := rfl
@[simp] theorem updRail_hangReg : (updRail s r f).hangReg = s.hangReg := rfl
@[simp] theorem updRail_stop : (updRail s r f).stop = s.stop := rfl
@[simp] theorem updRail_stopReg : (updRail s r f).stopReg = s.stopReg := rfl
@[simp] theorem updRail_rcd : (updRail s r f).rcd = s.rcd := rfl
@[simp] theorem updRail_gran : (updRail s r f).gran = s.gran := rfl
@[simp] theorem updRail_qrs : (updRail s r f).qrs = s.qrs := rfl
@[simp] theorem updRail_loader : (updRail s r f).loader = s.loader := rfl
@[simp] theorem updRail_dma : (updRail s r f).dma = s.dma := rfl
@[simp] theorem updRail_seq : (updRail s r f).seq = s.seq := rfl
@[simp] theorem updRail_mail : (updRail s r f).mail = s.mail := rfl
@[simp] theorem updRail_shell : (updRail s r f).shell = s.shell := rfl
@[simp] theorem updRail_step : (updRail s r f).step = s.step := rfl
@[simp] theorem updRail_mirror : (updRail s r f).mirror = s.mirror := rfl
@[simp] theorem updRail_thermal : (updRail s r f).thermal = s.thermal := rfl
@[simp] theorem updRail_sec : (updRail s r f).sec = s.sec := rfl
@[simp] theorem updRail_cas : (updRail s r f).cas = s.cas := rfl
@[simp] theorem updRail_bring : (updRail s r f).bring = s.bring := rfl
@[simp] theorem updRail_mem : (updRail s r f).mem = s.mem := rfl
@[simp] theorem updRail_obs : (updRail s r f).obs = s.obs := rfl
end

section
variable (x : Nat) (f : Sensor → Sensor)
@[simp] theorem updSensor_build : (updSensor s x f).build = s.build := rfl
@[simp] theorem updSensor_pending : (updSensor s x f).pending = s.pending := rfl
@[simp] theorem updSensor_work : (updSensor s x f).work = s.work := rfl
@[simp] theorem updSensor_tiles : (updSensor s x f).tiles = s.tiles := rfl
@[simp] theorem updSensor_time : (updSensor s x f).time = s.time := rfl
@[simp] theorem updSensor_mode : (updSensor s x f).mode = s.mode := rfl
@[simp] theorem updSensor_fault : (updSensor s x f).fault = s.fault := rfl
@[simp] theorem updSensor_ladder : (updSensor s x f).ladder = s.ladder := rfl
@[simp] theorem updSensor_search : (updSensor s x f).search = s.search := rfl
@[simp] theorem updSensor_hangReg : (updSensor s x f).hangReg = s.hangReg := rfl
@[simp] theorem updSensor_stop : (updSensor s x f).stop = s.stop := rfl
@[simp] theorem updSensor_stopReg : (updSensor s x f).stopReg = s.stopReg := rfl
@[simp] theorem updSensor_rcd : (updSensor s x f).rcd = s.rcd := rfl
@[simp] theorem updSensor_gran : (updSensor s x f).gran = s.gran := rfl
@[simp] theorem updSensor_qrs : (updSensor s x f).qrs = s.qrs := rfl
@[simp] theorem updSensor_loader : (updSensor s x f).loader = s.loader := rfl
@[simp] theorem updSensor_dma : (updSensor s x f).dma = s.dma := rfl
@[simp] theorem updSensor_seq : (updSensor s x f).seq = s.seq := rfl
@[simp] theorem updSensor_mail : (updSensor s x f).mail = s.mail := rfl
@[simp] theorem updSensor_shell : (updSensor s x f).shell = s.shell := rfl
@[simp] theorem updSensor_step : (updSensor s x f).step = s.step := rfl
@[simp] theorem updSensor_mirror : (updSensor s x f).mirror = s.mirror := rfl
@[simp] theorem updSensor_supply : (updSensor s x f).supply = s.supply := rfl
@[simp] theorem updSensor_sec : (updSensor s x f).sec = s.sec := rfl
@[simp] theorem updSensor_cas : (updSensor s x f).cas = s.cas := rfl
@[simp] theorem updSensor_bring : (updSensor s x f).bring = s.bring := rfl
@[simp] theorem updSensor_mem : (updSensor s x f).mem = s.mem := rfl
@[simp] theorem updSensor_obs : (updSensor s x f).obs = s.obs := rfl
end

section
variable (r : Nat) (f : Region → Region)
@[simp] theorem updRegion_build : (updRegion s r f).build = s.build := rfl
@[simp] theorem updRegion_pending : (updRegion s r f).pending = s.pending := rfl
@[simp] theorem updRegion_work : (updRegion s r f).work = s.work := rfl
@[simp] theorem updRegion_tiles : (updRegion s r f).tiles = s.tiles := rfl
@[simp] theorem updRegion_time : (updRegion s r f).time = s.time := rfl
@[simp] theorem updRegion_mode : (updRegion s r f).mode = s.mode := rfl
@[simp] theorem updRegion_fault : (updRegion s r f).fault = s.fault := rfl
@[simp] theorem updRegion_ladder : (updRegion s r f).ladder = s.ladder := rfl
@[simp] theorem updRegion_search : (updRegion s r f).search = s.search := rfl
@[simp] theorem updRegion_hangReg : (updRegion s r f).hangReg = s.hangReg := rfl
@[simp] theorem updRegion_stop : (updRegion s r f).stop = s.stop := rfl
@[simp] theorem updRegion_stopReg : (updRegion s r f).stopReg = s.stopReg := rfl
@[simp] theorem updRegion_rcd : (updRegion s r f).rcd = s.rcd := rfl
@[simp] theorem updRegion_gran : (updRegion s r f).gran = s.gran := rfl
@[simp] theorem updRegion_qrs : (updRegion s r f).qrs = s.qrs := rfl
@[simp] theorem updRegion_dma : (updRegion s r f).dma = s.dma := rfl
@[simp] theorem updRegion_seq : (updRegion s r f).seq = s.seq := rfl
@[simp] theorem updRegion_mail : (updRegion s r f).mail = s.mail := rfl
@[simp] theorem updRegion_shell : (updRegion s r f).shell = s.shell := rfl
@[simp] theorem updRegion_step : (updRegion s r f).step = s.step := rfl
@[simp] theorem updRegion_mirror : (updRegion s r f).mirror = s.mirror := rfl
@[simp] theorem updRegion_supply : (updRegion s r f).supply = s.supply := rfl
@[simp] theorem updRegion_thermal : (updRegion s r f).thermal = s.thermal := rfl
@[simp] theorem updRegion_sec : (updRegion s r f).sec = s.sec := rfl
@[simp] theorem updRegion_cas : (updRegion s r f).cas = s.cas := rfl
@[simp] theorem updRegion_bring : (updRegion s r f).bring = s.bring := rfl
@[simp] theorem updRegion_mem : (updRegion s r f).mem = s.mem := rfl
@[simp] theorem updRegion_obs : (updRegion s r f).obs = s.obs := rfl
end

section
variable (n : Nat) (f : Tile → Tile)
@[simp] theorem updTile_build : (updTile s n f).build = s.build := rfl
@[simp] theorem updTile_pending : (updTile s n f).pending = s.pending := rfl
@[simp] theorem updTile_work : (updTile s n f).work = s.work := rfl
@[simp] theorem updTile_time : (updTile s n f).time = s.time := rfl
@[simp] theorem updTile_mode : (updTile s n f).mode = s.mode := rfl
@[simp] theorem updTile_fault : (updTile s n f).fault = s.fault := rfl
@[simp] theorem updTile_ladder : (updTile s n f).ladder = s.ladder := rfl
@[simp] theorem updTile_search : (updTile s n f).search = s.search := rfl
@[simp] theorem updTile_hangReg : (updTile s n f).hangReg = s.hangReg := rfl
@[simp] theorem updTile_stop : (updTile s n f).stop = s.stop := rfl
@[simp] theorem updTile_stopReg : (updTile s n f).stopReg = s.stopReg := rfl
@[simp] theorem updTile_rcd : (updTile s n f).rcd = s.rcd := rfl
@[simp] theorem updTile_gran : (updTile s n f).gran = s.gran := rfl
@[simp] theorem updTile_qrs : (updTile s n f).qrs = s.qrs := rfl
@[simp] theorem updTile_loader : (updTile s n f).loader = s.loader := rfl
@[simp] theorem updTile_dma : (updTile s n f).dma = s.dma := rfl
@[simp] theorem updTile_seq : (updTile s n f).seq = s.seq := rfl
@[simp] theorem updTile_mail : (updTile s n f).mail = s.mail := rfl
@[simp] theorem updTile_shell : (updTile s n f).shell = s.shell := rfl
@[simp] theorem updTile_step : (updTile s n f).step = s.step := rfl
@[simp] theorem updTile_mirror : (updTile s n f).mirror = s.mirror := rfl
@[simp] theorem updTile_supply : (updTile s n f).supply = s.supply := rfl
@[simp] theorem updTile_thermal : (updTile s n f).thermal = s.thermal := rfl
@[simp] theorem updTile_sec : (updTile s n f).sec = s.sec := rfl
@[simp] theorem updTile_cas : (updTile s n f).cas = s.cas := rfl
@[simp] theorem updTile_bring : (updTile s n f).bring = s.bring := rfl
@[simp] theorem updTile_mem : (updTile s n f).mem = s.mem := rfl
@[simp] theorem updTile_obs : (updTile s n f).obs = s.obs := rfl
end

section
variable (n : Nat) (f : Core → Core)
@[simp] theorem updCore_build : (updCore s n f).build = s.build := rfl
@[simp] theorem updCore_pending : (updCore s n f).pending = s.pending := rfl
@[simp] theorem updCore_work : (updCore s n f).work = s.work := rfl
@[simp] theorem updCore_tiles : (updCore s n f).tiles = s.tiles := rfl
@[simp] theorem updCore_time : (updCore s n f).time = s.time := rfl
@[simp] theorem updCore_mode : (updCore s n f).mode = s.mode := rfl
@[simp] theorem updCore_fault : (updCore s n f).fault = s.fault := rfl
@[simp] theorem updCore_ladder : (updCore s n f).ladder = s.ladder := rfl
@[simp] theorem updCore_search : (updCore s n f).search = s.search := rfl
@[simp] theorem updCore_hangReg : (updCore s n f).hangReg = s.hangReg := rfl
@[simp] theorem updCore_stop : (updCore s n f).stop = s.stop := rfl
@[simp] theorem updCore_stopReg : (updCore s n f).stopReg = s.stopReg := rfl
@[simp] theorem updCore_rcd : (updCore s n f).rcd = s.rcd := rfl
@[simp] theorem updCore_gran : (updCore s n f).gran = s.gran := rfl
@[simp] theorem updCore_qrs : (updCore s n f).qrs = s.qrs := rfl
@[simp] theorem updCore_loader : (updCore s n f).loader = s.loader := rfl
@[simp] theorem updCore_dma : (updCore s n f).dma = s.dma := rfl
@[simp] theorem updCore_mail : (updCore s n f).mail = s.mail := rfl
@[simp] theorem updCore_shell : (updCore s n f).shell = s.shell := rfl
@[simp] theorem updCore_step : (updCore s n f).step = s.step := rfl
@[simp] theorem updCore_mirror : (updCore s n f).mirror = s.mirror := rfl
@[simp] theorem updCore_supply : (updCore s n f).supply = s.supply := rfl
@[simp] theorem updCore_thermal : (updCore s n f).thermal = s.thermal := rfl
@[simp] theorem updCore_sec : (updCore s n f).sec = s.sec := rfl
@[simp] theorem updCore_cas : (updCore s n f).cas = s.cas := rfl
@[simp] theorem updCore_bring : (updCore s n f).bring = s.bring := rfl
@[simp] theorem updCore_mem : (updCore s n f).mem = s.mem := rfl
@[simp] theorem updCore_obs : (updCore s n f).obs = s.obs := rfl
end

section
variable (f : Loader → Loader)
@[simp] theorem modLd_build : (modLd s f).build = s.build := rfl
@[simp] theorem modLd_pending : (modLd s f).pending = s.pending := rfl
@[simp] theorem modLd_work : (modLd s f).work = s.work := rfl
@[simp] theorem modLd_tiles : (modLd s f).tiles = s.tiles := rfl
@[simp] theorem modLd_time : (modLd s f).time = s.time := rfl
@[simp] theorem modLd_mode : (modLd s f).mode = s.mode := rfl
@[simp] theorem modLd_fault : (modLd s f).fault = s.fault := rfl
@[simp] theorem modLd_ladder : (modLd s f).ladder = s.ladder := rfl
@[simp] theorem modLd_search : (modLd s f).search = s.search := rfl
@[simp] theorem modLd_hangReg : (modLd s f).hangReg = s.hangReg := rfl
@[simp] theorem modLd_stop : (modLd s f).stop = s.stop := rfl
@[simp] theorem modLd_stopReg : (modLd s f).stopReg = s.stopReg := rfl
@[simp] theorem modLd_rcd : (modLd s f).rcd = s.rcd := rfl
@[simp] theorem modLd_gran : (modLd s f).gran = s.gran := rfl
@[simp] theorem modLd_qrs : (modLd s f).qrs = s.qrs := rfl
@[simp] theorem modLd_dma : (modLd s f).dma = s.dma := rfl
@[simp] theorem modLd_seq : (modLd s f).seq = s.seq := rfl
@[simp] theorem modLd_mail : (modLd s f).mail = s.mail := rfl
@[simp] theorem modLd_shell : (modLd s f).shell = s.shell := rfl
@[simp] theorem modLd_step : (modLd s f).step = s.step := rfl
@[simp] theorem modLd_mirror : (modLd s f).mirror = s.mirror := rfl
@[simp] theorem modLd_supply : (modLd s f).supply = s.supply := rfl
@[simp] theorem modLd_thermal : (modLd s f).thermal = s.thermal := rfl
@[simp] theorem modLd_sec : (modLd s f).sec = s.sec := rfl
@[simp] theorem modLd_cas : (modLd s f).cas = s.cas := rfl
@[simp] theorem modLd_bring : (modLd s f).bring = s.bring := rfl
@[simp] theorem modLd_mem : (modLd s f).mem = s.mem := rfl
@[simp] theorem modLd_obs : (modLd s f).obs = s.obs := rfl
end

section
variable (f : Mirror → Mirror)
@[simp] theorem modMir_build : (modMir s f).build = s.build := rfl
@[simp] theorem modMir_pending : (modMir s f).pending = s.pending := rfl
@[simp] theorem modMir_work : (modMir s f).work = s.work := rfl
@[simp] theorem modMir_tiles : (modMir s f).tiles = s.tiles := rfl
@[simp] theorem modMir_time : (modMir s f).time = s.time := rfl
@[simp] theorem modMir_mode : (modMir s f).mode = s.mode := rfl
@[simp] theorem modMir_fault : (modMir s f).fault = s.fault := rfl
@[simp] theorem modMir_ladder : (modMir s f).ladder = s.ladder := rfl
@[simp] theorem modMir_search : (modMir s f).search = s.search := rfl
@[simp] theorem modMir_hangReg : (modMir s f).hangReg = s.hangReg := rfl
@[simp] theorem modMir_stop : (modMir s f).stop = s.stop := rfl
@[simp] theorem modMir_stopReg : (modMir s f).stopReg = s.stopReg := rfl
@[simp] theorem modMir_rcd : (modMir s f).rcd = s.rcd := rfl
@[simp] theorem modMir_gran : (modMir s f).gran = s.gran := rfl
@[simp] theorem modMir_qrs : (modMir s f).qrs = s.qrs := rfl
@[simp] theorem modMir_loader : (modMir s f).loader = s.loader := rfl
@[simp] theorem modMir_dma : (modMir s f).dma = s.dma := rfl
@[simp] theorem modMir_seq : (modMir s f).seq = s.seq := rfl
@[simp] theorem modMir_mail : (modMir s f).mail = s.mail := rfl
@[simp] theorem modMir_shell : (modMir s f).shell = s.shell := rfl
@[simp] theorem modMir_step : (modMir s f).step = s.step := rfl
@[simp] theorem modMir_supply : (modMir s f).supply = s.supply := rfl
@[simp] theorem modMir_thermal : (modMir s f).thermal = s.thermal := rfl
@[simp] theorem modMir_sec : (modMir s f).sec = s.sec := rfl
@[simp] theorem modMir_cas : (modMir s f).cas = s.cas := rfl
@[simp] theorem modMir_bring : (modMir s f).bring = s.bring := rfl
@[simp] theorem modMir_mem : (modMir s f).mem = s.mem := rfl
@[simp] theorem modMir_obs : (modMir s f).obs = s.obs := rfl
end

section
variable (f : Recorder → Recorder)
@[simp] theorem modRcd_build : (modRcd s f).build = s.build := rfl
@[simp] theorem modRcd_pending : (modRcd s f).pending = s.pending := rfl
@[simp] theorem modRcd_work : (modRcd s f).work = s.work := rfl
@[simp] theorem modRcd_tiles : (modRcd s f).tiles = s.tiles := rfl
@[simp] theorem modRcd_time : (modRcd s f).time = s.time := rfl
@[simp] theorem modRcd_mode : (modRcd s f).mode = s.mode := rfl
@[simp] theorem modRcd_fault : (modRcd s f).fault = s.fault := rfl
@[simp] theorem modRcd_ladder : (modRcd s f).ladder = s.ladder := rfl
@[simp] theorem modRcd_search : (modRcd s f).search = s.search := rfl
@[simp] theorem modRcd_hangReg : (modRcd s f).hangReg = s.hangReg := rfl
@[simp] theorem modRcd_stop : (modRcd s f).stop = s.stop := rfl
@[simp] theorem modRcd_stopReg : (modRcd s f).stopReg = s.stopReg := rfl
@[simp] theorem modRcd_gran : (modRcd s f).gran = s.gran := rfl
@[simp] theorem modRcd_qrs : (modRcd s f).qrs = s.qrs := rfl
@[simp] theorem modRcd_loader : (modRcd s f).loader = s.loader := rfl
@[simp] theorem modRcd_dma : (modRcd s f).dma = s.dma := rfl
@[simp] theorem modRcd_seq : (modRcd s f).seq = s.seq := rfl
@[simp] theorem modRcd_mail : (modRcd s f).mail = s.mail := rfl
@[simp] theorem modRcd_shell : (modRcd s f).shell = s.shell := rfl
@[simp] theorem modRcd_step : (modRcd s f).step = s.step := rfl
@[simp] theorem modRcd_mirror : (modRcd s f).mirror = s.mirror := rfl
@[simp] theorem modRcd_supply : (modRcd s f).supply = s.supply := rfl
@[simp] theorem modRcd_thermal : (modRcd s f).thermal = s.thermal := rfl
@[simp] theorem modRcd_sec : (modRcd s f).sec = s.sec := rfl
@[simp] theorem modRcd_cas : (modRcd s f).cas = s.cas := rfl
@[simp] theorem modRcd_bring : (modRcd s f).bring = s.bring := rfl
@[simp] theorem modRcd_mem : (modRcd s f).mem = s.mem := rfl
@[simp] theorem modRcd_obs : (modRcd s f).obs = s.obs := rfl
end

section
variable (f : FaultUnit → FaultUnit)
@[simp] theorem modFault_build : (modFault s f).build = s.build := rfl
@[simp] theorem modFault_pending : (modFault s f).pending = s.pending := rfl
@[simp] theorem modFault_work : (modFault s f).work = s.work := rfl
@[simp] theorem modFault_tiles : (modFault s f).tiles = s.tiles := rfl
@[simp] theorem modFault_time : (modFault s f).time = s.time := rfl
@[simp] theorem modFault_mode : (modFault s f).mode = s.mode := rfl
@[simp] theorem modFault_ladder : (modFault s f).ladder = s.ladder := rfl
@[simp] theorem modFault_search : (modFault s f).search = s.search := rfl
@[simp] theorem modFault_hangReg : (modFault s f).hangReg = s.hangReg := rfl
@[simp] theorem modFault_stop : (modFault s f).stop = s.stop := rfl
@[simp] theorem modFault_stopReg : (modFault s f).stopReg = s.stopReg := rfl
@[simp] theorem modFault_rcd : (modFault s f).rcd = s.rcd := rfl
@[simp] theorem modFault_gran : (modFault s f).gran = s.gran := rfl
@[simp] theorem modFault_qrs : (modFault s f).qrs = s.qrs := rfl
@[simp] theorem modFault_loader : (modFault s f).loader = s.loader := rfl
@[simp] theorem modFault_dma : (modFault s f).dma = s.dma := rfl
@[simp] theorem modFault_seq : (modFault s f).seq = s.seq := rfl
@[simp] theorem modFault_mail : (modFault s f).mail = s.mail := rfl
@[simp] theorem modFault_shell : (modFault s f).shell = s.shell := rfl
@[simp] theorem modFault_step : (modFault s f).step = s.step := rfl
@[simp] theorem modFault_mirror : (modFault s f).mirror = s.mirror := rfl
@[simp] theorem modFault_supply : (modFault s f).supply = s.supply := rfl
@[simp] theorem modFault_thermal : (modFault s f).thermal = s.thermal := rfl
@[simp] theorem modFault_sec : (modFault s f).sec = s.sec := rfl
@[simp] theorem modFault_cas : (modFault s f).cas = s.cas := rfl
@[simp] theorem modFault_bring : (modFault s f).bring = s.bring := rfl
@[simp] theorem modFault_mem : (modFault s f).mem = s.mem := rfl
@[simp] theorem modFault_obs : (modFault s f).obs = s.obs := rfl
end

section
variable (f : Security → Security)
@[simp] theorem modSec_build : (modSec s f).build = s.build := rfl
@[simp] theorem modSec_pending : (modSec s f).pending = s.pending := rfl
@[simp] theorem modSec_work : (modSec s f).work = s.work := rfl
@[simp] theorem modSec_tiles : (modSec s f).tiles = s.tiles := rfl
@[simp] theorem modSec_time : (modSec s f).time = s.time := rfl
@[simp] theorem modSec_mode : (modSec s f).mode = s.mode := rfl
@[simp] theorem modSec_fault : (modSec s f).fault = s.fault := rfl
@[simp] theorem modSec_ladder : (modSec s f).ladder = s.ladder := rfl
@[simp] theorem modSec_search : (modSec s f).search = s.search := rfl
@[simp] theorem modSec_hangReg : (modSec s f).hangReg = s.hangReg := rfl
@[simp] theorem modSec_stop : (modSec s f).stop = s.stop := rfl
@[simp] theorem modSec_stopReg : (modSec s f).stopReg = s.stopReg := rfl
@[simp] theorem modSec_rcd : (modSec s f).rcd = s.rcd := rfl
@[simp] theorem modSec_gran : (modSec s f).gran = s.gran := rfl
@[simp] theorem modSec_qrs : (modSec s f).qrs = s.qrs := rfl
@[simp] theorem modSec_loader : (modSec s f).loader = s.loader := rfl
@[simp] theorem modSec_dma : (modSec s f).dma = s.dma := rfl
@[simp] theorem modSec_seq : (modSec s f).seq = s.seq := rfl
@[simp] theorem modSec_mail : (modSec s f).mail = s.mail := rfl
@[simp] theorem modSec_shell : (modSec s f).shell = s.shell := rfl
@[simp] theorem modSec_step : (modSec s f).step = s.step := rfl
@[simp] theorem modSec_mirror : (modSec s f).mirror = s.mirror := rfl
@[simp] theorem modSec_supply : (modSec s f).supply = s.supply := rfl
@[simp] theorem modSec_thermal : (modSec s f).thermal = s.thermal := rfl
@[simp] theorem modSec_cas : (modSec s f).cas = s.cas := rfl
@[simp] theorem modSec_bring : (modSec s f).bring = s.bring := rfl
@[simp] theorem modSec_mem : (modSec s f).mem = s.mem := rfl
@[simp] theorem modSec_obs : (modSec s f).obs = s.obs := rfl
end

section
variable (f : Cascade → Cascade)
@[simp] theorem modCas_build : (modCas s f).build = s.build := rfl
@[simp] theorem modCas_pending : (modCas s f).pending = s.pending := rfl
@[simp] theorem modCas_work : (modCas s f).work = s.work := rfl
@[simp] theorem modCas_tiles : (modCas s f).tiles = s.tiles := rfl
@[simp] theorem modCas_time : (modCas s f).time = s.time := rfl
@[simp] theorem modCas_mode : (modCas s f).mode = s.mode := rfl
@[simp] theorem modCas_fault : (modCas s f).fault = s.fault := rfl
@[simp] theorem modCas_ladder : (modCas s f).ladder = s.ladder := rfl
@[simp] theorem modCas_search : (modCas s f).search = s.search := rfl
@[simp] theorem modCas_hangReg : (modCas s f).hangReg = s.hangReg := rfl
@[simp] theorem modCas_stop : (modCas s f).stop = s.stop := rfl
@[simp] theorem modCas_stopReg : (modCas s f).stopReg = s.stopReg := rfl
@[simp] theorem modCas_rcd : (modCas s f).rcd = s.rcd := rfl
@[simp] theorem modCas_gran : (modCas s f).gran = s.gran := rfl
@[simp] theorem modCas_qrs : (modCas s f).qrs = s.qrs := rfl
@[simp] theorem modCas_loader : (modCas s f).loader = s.loader := rfl
@[simp] theorem modCas_dma : (modCas s f).dma = s.dma := rfl
@[simp] theorem modCas_seq : (modCas s f).seq = s.seq := rfl
@[simp] theorem modCas_mail : (modCas s f).mail = s.mail := rfl
@[simp] theorem modCas_shell : (modCas s f).shell = s.shell := rfl
@[simp] theorem modCas_step : (modCas s f).step = s.step := rfl
@[simp] theorem modCas_mirror : (modCas s f).mirror = s.mirror := rfl
@[simp] theorem modCas_supply : (modCas s f).supply = s.supply := rfl
@[simp] theorem modCas_thermal : (modCas s f).thermal = s.thermal := rfl
@[simp] theorem modCas_sec : (modCas s f).sec = s.sec := rfl
@[simp] theorem modCas_bring : (modCas s f).bring = s.bring := rfl
@[simp] theorem modCas_mem : (modCas s f).mem = s.mem := rfl
@[simp] theorem modCas_obs : (modCas s f).obs = s.obs := rfl
end

section
variable (f : Observe → Observe)
@[simp] theorem modOb_build : (modOb s f).build = s.build := rfl
@[simp] theorem modOb_pending : (modOb s f).pending = s.pending := rfl
@[simp] theorem modOb_work : (modOb s f).work = s.work := rfl
@[simp] theorem modOb_tiles : (modOb s f).tiles = s.tiles := rfl
@[simp] theorem modOb_time : (modOb s f).time = s.time := rfl
@[simp] theorem modOb_mode : (modOb s f).mode = s.mode := rfl
@[simp] theorem modOb_fault : (modOb s f).fault = s.fault := rfl
@[simp] theorem modOb_ladder : (modOb s f).ladder = s.ladder := rfl
@[simp] theorem modOb_search : (modOb s f).search = s.search := rfl
@[simp] theorem modOb_hangReg : (modOb s f).hangReg = s.hangReg := rfl
@[simp] theorem modOb_stop : (modOb s f).stop = s.stop := rfl
@[simp] theorem modOb_stopReg : (modOb s f).stopReg = s.stopReg := rfl
@[simp] theorem modOb_rcd : (modOb s f).rcd = s.rcd := rfl
@[simp] theorem modOb_gran : (modOb s f).gran = s.gran := rfl
@[simp] theorem modOb_qrs : (modOb s f).qrs = s.qrs := rfl
@[simp] theorem modOb_loader : (modOb s f).loader = s.loader := rfl
@[simp] theorem modOb_dma : (modOb s f).dma = s.dma := rfl
@[simp] theorem modOb_seq : (modOb s f).seq = s.seq := rfl
@[simp] theorem modOb_mail : (modOb s f).mail = s.mail := rfl
@[simp] theorem modOb_shell : (modOb s f).shell = s.shell := rfl
@[simp] theorem modOb_step : (modOb s f).step = s.step := rfl
@[simp] theorem modOb_mirror : (modOb s f).mirror = s.mirror := rfl
@[simp] theorem modOb_supply : (modOb s f).supply = s.supply := rfl
@[simp] theorem modOb_thermal : (modOb s f).thermal = s.thermal := rfl
@[simp] theorem modOb_sec : (modOb s f).sec = s.sec := rfl
@[simp] theorem modOb_cas : (modOb s f).cas = s.cas := rfl
@[simp] theorem modOb_bring : (modOb s f).bring = s.bring := rfl
@[simp] theorem modOb_mem : (modOb s f).mem = s.mem := rfl
end

section
variable (n : Nat) (f : Channel → Channel)
@[simp] theorem updChan_build : (updChan s n f).build = s.build := rfl
@[simp] theorem updChan_pending : (updChan s n f).pending = s.pending := rfl
@[simp] theorem updChan_work : (updChan s n f).work = s.work := rfl
@[simp] theorem updChan_tiles : (updChan s n f).tiles = s.tiles := rfl
@[simp] theorem updChan_time : (updChan s n f).time = s.time := rfl
@[simp] theorem updChan_mode : (updChan s n f).mode = s.mode := rfl
@[simp] theorem updChan_fault : (updChan s n f).fault = s.fault := rfl
@[simp] theorem updChan_ladder : (updChan s n f).ladder = s.ladder := rfl
@[simp] theorem updChan_search : (updChan s n f).search = s.search := rfl
@[simp] theorem updChan_hangReg : (updChan s n f).hangReg = s.hangReg := rfl
@[simp] theorem updChan_stop : (updChan s n f).stop = s.stop := rfl
@[simp] theorem updChan_stopReg : (updChan s n f).stopReg = s.stopReg := rfl
@[simp] theorem updChan_rcd : (updChan s n f).rcd = s.rcd := rfl
@[simp] theorem updChan_gran : (updChan s n f).gran = s.gran := rfl
@[simp] theorem updChan_qrs : (updChan s n f).qrs = s.qrs := rfl
@[simp] theorem updChan_loader : (updChan s n f).loader = s.loader := rfl
@[simp] theorem updChan_seq : (updChan s n f).seq = s.seq := rfl
@[simp] theorem updChan_mail : (updChan s n f).mail = s.mail := rfl
@[simp] theorem updChan_shell : (updChan s n f).shell = s.shell := rfl
@[simp] theorem updChan_step : (updChan s n f).step = s.step := rfl
@[simp] theorem updChan_mirror : (updChan s n f).mirror = s.mirror := rfl
@[simp] theorem updChan_supply : (updChan s n f).supply = s.supply := rfl
@[simp] theorem updChan_thermal : (updChan s n f).thermal = s.thermal := rfl
@[simp] theorem updChan_sec : (updChan s n f).sec = s.sec := rfl
@[simp] theorem updChan_cas : (updChan s n f).cas = s.cas := rfl
@[simp] theorem updChan_bring : (updChan s n f).bring = s.bring := rfl
@[simp] theorem updChan_mem : (updChan s n f).mem = s.mem := rfl
@[simp] theorem updChan_obs : (updChan s n f).obs = s.obs := rfl
end

section
variable (f : Dma → Dma)
@[simp] theorem modDma_build : (modDma s f).build = s.build := rfl
@[simp] theorem modDma_pending : (modDma s f).pending = s.pending := rfl
@[simp] theorem modDma_work : (modDma s f).work = s.work := rfl
@[simp] theorem modDma_tiles : (modDma s f).tiles = s.tiles := rfl
@[simp] theorem modDma_time : (modDma s f).time = s.time := rfl
@[simp] theorem modDma_mode : (modDma s f).mode = s.mode := rfl
@[simp] theorem modDma_fault : (modDma s f).fault = s.fault := rfl
@[simp] theorem modDma_ladder : (modDma s f).ladder = s.ladder := rfl
@[simp] theorem modDma_search : (modDma s f).search = s.search := rfl
@[simp] theorem modDma_hangReg : (modDma s f).hangReg = s.hangReg := rfl
@[simp] theorem modDma_stop : (modDma s f).stop = s.stop := rfl
@[simp] theorem modDma_stopReg : (modDma s f).stopReg = s.stopReg := rfl
@[simp] theorem modDma_rcd : (modDma s f).rcd = s.rcd := rfl
@[simp] theorem modDma_gran : (modDma s f).gran = s.gran := rfl
@[simp] theorem modDma_qrs : (modDma s f).qrs = s.qrs := rfl
@[simp] theorem modDma_loader : (modDma s f).loader = s.loader := rfl
@[simp] theorem modDma_seq : (modDma s f).seq = s.seq := rfl
@[simp] theorem modDma_mail : (modDma s f).mail = s.mail := rfl
@[simp] theorem modDma_shell : (modDma s f).shell = s.shell := rfl
@[simp] theorem modDma_step : (modDma s f).step = s.step := rfl
@[simp] theorem modDma_mirror : (modDma s f).mirror = s.mirror := rfl
@[simp] theorem modDma_supply : (modDma s f).supply = s.supply := rfl
@[simp] theorem modDma_thermal : (modDma s f).thermal = s.thermal := rfl
@[simp] theorem modDma_sec : (modDma s f).sec = s.sec := rfl
@[simp] theorem modDma_cas : (modDma s f).cas = s.cas := rfl
@[simp] theorem modDma_bring : (modDma s f).bring = s.bring := rfl
@[simp] theorem modDma_mem : (modDma s f).mem = s.mem := rfl
@[simp] theorem modDma_obs : (modDma s f).obs = s.obs := rfl
end

section
variable (f : TimeKeep → TimeKeep)
@[simp] theorem modTime_build : (modTime s f).build = s.build := rfl
@[simp] theorem modTime_pending : (modTime s f).pending = s.pending := rfl
@[simp] theorem modTime_work : (modTime s f).work = s.work := rfl
@[simp] theorem modTime_tiles : (modTime s f).tiles = s.tiles := rfl
@[simp] theorem modTime_mode : (modTime s f).mode = s.mode := rfl
@[simp] theorem modTime_fault : (modTime s f).fault = s.fault := rfl
@[simp] theorem modTime_ladder : (modTime s f).ladder = s.ladder := rfl
@[simp] theorem modTime_search : (modTime s f).search = s.search := rfl
@[simp] theorem modTime_hangReg : (modTime s f).hangReg = s.hangReg := rfl
@[simp] theorem modTime_stop : (modTime s f).stop = s.stop := rfl
@[simp] theorem modTime_stopReg : (modTime s f).stopReg = s.stopReg := rfl
@[simp] theorem modTime_rcd : (modTime s f).rcd = s.rcd := rfl
@[simp] theorem modTime_gran : (modTime s f).gran = s.gran := rfl
@[simp] theorem modTime_qrs : (modTime s f).qrs = s.qrs := rfl
@[simp] theorem modTime_loader : (modTime s f).loader = s.loader := rfl
@[simp] theorem modTime_dma : (modTime s f).dma = s.dma := rfl
@[simp] theorem modTime_seq : (modTime s f).seq = s.seq := rfl
@[simp] theorem modTime_mail : (modTime s f).mail = s.mail := rfl
@[simp] theorem modTime_shell : (modTime s f).shell = s.shell := rfl
@[simp] theorem modTime_step : (modTime s f).step = s.step := rfl
@[simp] theorem modTime_mirror : (modTime s f).mirror = s.mirror := rfl
@[simp] theorem modTime_supply : (modTime s f).supply = s.supply := rfl
@[simp] theorem modTime_thermal : (modTime s f).thermal = s.thermal := rfl
@[simp] theorem modTime_sec : (modTime s f).sec = s.sec := rfl
@[simp] theorem modTime_cas : (modTime s f).cas = s.cas := rfl
@[simp] theorem modTime_bring : (modTime s f).bring = s.bring := rfl
@[simp] theorem modTime_mem : (modTime s f).mem = s.mem := rfl
@[simp] theorem modTime_obs : (modTime s f).obs = s.obs := rfl
end

section
variable (f : Supply → Supply)
@[simp] theorem modSup_build : (modSup s f).build = s.build := rfl
@[simp] theorem modSup_pending : (modSup s f).pending = s.pending := rfl
@[simp] theorem modSup_work : (modSup s f).work = s.work := rfl
@[simp] theorem modSup_tiles : (modSup s f).tiles = s.tiles := rfl
@[simp] theorem modSup_time : (modSup s f).time = s.time := rfl
@[simp] theorem modSup_mode : (modSup s f).mode = s.mode := rfl
@[simp] theorem modSup_fault : (modSup s f).fault = s.fault := rfl
@[simp] theorem modSup_ladder : (modSup s f).ladder = s.ladder := rfl
@[simp] theorem modSup_search : (modSup s f).search = s.search := rfl
@[simp] theorem modSup_hangReg : (modSup s f).hangReg = s.hangReg := rfl
@[simp] theorem modSup_stop : (modSup s f).stop = s.stop := rfl
@[simp] theorem modSup_stopReg : (modSup s f).stopReg = s.stopReg := rfl
@[simp] theorem modSup_rcd : (modSup s f).rcd = s.rcd := rfl
@[simp] theorem modSup_gran : (modSup s f).gran = s.gran := rfl
@[simp] theorem modSup_qrs : (modSup s f).qrs = s.qrs := rfl
@[simp] theorem modSup_loader : (modSup s f).loader = s.loader := rfl
@[simp] theorem modSup_dma : (modSup s f).dma = s.dma := rfl
@[simp] theorem modSup_seq : (modSup s f).seq = s.seq := rfl
@[simp] theorem modSup_mail : (modSup s f).mail = s.mail := rfl
@[simp] theorem modSup_shell : (modSup s f).shell = s.shell := rfl
@[simp] theorem modSup_step : (modSup s f).step = s.step := rfl
@[simp] theorem modSup_mirror : (modSup s f).mirror = s.mirror := rfl
@[simp] theorem modSup_thermal : (modSup s f).thermal = s.thermal := rfl
@[simp] theorem modSup_sec : (modSup s f).sec = s.sec := rfl
@[simp] theorem modSup_cas : (modSup s f).cas = s.cas := rfl
@[simp] theorem modSup_bring : (modSup s f).bring = s.bring := rfl
@[simp] theorem modSup_mem : (modSup s f).mem = s.mem := rfl
@[simp] theorem modSup_obs : (modSup s f).obs = s.obs := rfl
end

section
variable (f : Thermal → Thermal)
@[simp] theorem modTh_build : (modTh s f).build = s.build := rfl
@[simp] theorem modTh_pending : (modTh s f).pending = s.pending := rfl
@[simp] theorem modTh_work : (modTh s f).work = s.work := rfl
@[simp] theorem modTh_tiles : (modTh s f).tiles = s.tiles := rfl
@[simp] theorem modTh_time : (modTh s f).time = s.time := rfl
@[simp] theorem modTh_mode : (modTh s f).mode = s.mode := rfl
@[simp] theorem modTh_fault : (modTh s f).fault = s.fault := rfl
@[simp] theorem modTh_ladder : (modTh s f).ladder = s.ladder := rfl
@[simp] theorem modTh_search : (modTh s f).search = s.search := rfl
@[simp] theorem modTh_hangReg : (modTh s f).hangReg = s.hangReg := rfl
@[simp] theorem modTh_stop : (modTh s f).stop = s.stop := rfl
@[simp] theorem modTh_stopReg : (modTh s f).stopReg = s.stopReg := rfl
@[simp] theorem modTh_rcd : (modTh s f).rcd = s.rcd := rfl
@[simp] theorem modTh_gran : (modTh s f).gran = s.gran := rfl
@[simp] theorem modTh_qrs : (modTh s f).qrs = s.qrs := rfl
@[simp] theorem modTh_loader : (modTh s f).loader = s.loader := rfl
@[simp] theorem modTh_dma : (modTh s f).dma = s.dma := rfl
@[simp] theorem modTh_seq : (modTh s f).seq = s.seq := rfl
@[simp] theorem modTh_mail : (modTh s f).mail = s.mail := rfl
@[simp] theorem modTh_shell : (modTh s f).shell = s.shell := rfl
@[simp] theorem modTh_step : (modTh s f).step = s.step := rfl
@[simp] theorem modTh_mirror : (modTh s f).mirror = s.mirror := rfl
@[simp] theorem modTh_supply : (modTh s f).supply = s.supply := rfl
@[simp] theorem modTh_sec : (modTh s f).sec = s.sec := rfl
@[simp] theorem modTh_cas : (modTh s f).cas = s.cas := rfl
@[simp] theorem modTh_bring : (modTh s f).bring = s.bring := rfl
@[simp] theorem modTh_mem : (modTh s f).mem = s.mem := rfl
@[simp] theorem modTh_obs : (modTh s f).obs = s.obs := rfl
end

section
variable (f : Memtest → Memtest)
@[simp] theorem modMt_build : (modMt s f).build = s.build := rfl
@[simp] theorem modMt_pending : (modMt s f).pending = s.pending := rfl
@[simp] theorem modMt_work : (modMt s f).work = s.work := rfl
@[simp] theorem modMt_tiles : (modMt s f).tiles = s.tiles := rfl
@[simp] theorem modMt_time : (modMt s f).time = s.time := rfl
@[simp] theorem modMt_mode : (modMt s f).mode = s.mode := rfl
@[simp] theorem modMt_fault : (modMt s f).fault = s.fault := rfl
@[simp] theorem modMt_ladder : (modMt s f).ladder = s.ladder := rfl
@[simp] theorem modMt_search : (modMt s f).search = s.search := rfl
@[simp] theorem modMt_hangReg : (modMt s f).hangReg = s.hangReg := rfl
@[simp] theorem modMt_stop : (modMt s f).stop = s.stop := rfl
@[simp] theorem modMt_stopReg : (modMt s f).stopReg = s.stopReg := rfl
@[simp] theorem modMt_rcd : (modMt s f).rcd = s.rcd := rfl
@[simp] theorem modMt_gran : (modMt s f).gran = s.gran := rfl
@[simp] theorem modMt_qrs : (modMt s f).qrs = s.qrs := rfl
@[simp] theorem modMt_loader : (modMt s f).loader = s.loader := rfl
@[simp] theorem modMt_dma : (modMt s f).dma = s.dma := rfl
@[simp] theorem modMt_seq : (modMt s f).seq = s.seq := rfl
@[simp] theorem modMt_mail : (modMt s f).mail = s.mail := rfl
@[simp] theorem modMt_shell : (modMt s f).shell = s.shell := rfl
@[simp] theorem modMt_step : (modMt s f).step = s.step := rfl
@[simp] theorem modMt_mirror : (modMt s f).mirror = s.mirror := rfl
@[simp] theorem modMt_supply : (modMt s f).supply = s.supply := rfl
@[simp] theorem modMt_thermal : (modMt s f).thermal = s.thermal := rfl
@[simp] theorem modMt_sec : (modMt s f).sec = s.sec := rfl
@[simp] theorem modMt_cas : (modMt s f).cas = s.cas := rfl
@[simp] theorem modMt_bring : (modMt s f).bring = s.bring := rfl
@[simp] theorem modMt_obs : (modMt s f).obs = s.obs := rfl
end

section
variable (f : Bringup → Bringup)
@[simp] theorem modBr_build : (modBr s f).build = s.build := rfl
@[simp] theorem modBr_pending : (modBr s f).pending = s.pending := rfl
@[simp] theorem modBr_work : (modBr s f).work = s.work := rfl
@[simp] theorem modBr_tiles : (modBr s f).tiles = s.tiles := rfl
@[simp] theorem modBr_time : (modBr s f).time = s.time := rfl
@[simp] theorem modBr_mode : (modBr s f).mode = s.mode := rfl
@[simp] theorem modBr_fault : (modBr s f).fault = s.fault := rfl
@[simp] theorem modBr_ladder : (modBr s f).ladder = s.ladder := rfl
@[simp] theorem modBr_search : (modBr s f).search = s.search := rfl
@[simp] theorem modBr_hangReg : (modBr s f).hangReg = s.hangReg := rfl
@[simp] theorem modBr_stop : (modBr s f).stop = s.stop := rfl
@[simp] theorem modBr_stopReg : (modBr s f).stopReg = s.stopReg := rfl
@[simp] theorem modBr_rcd : (modBr s f).rcd = s.rcd := rfl
@[simp] theorem modBr_gran : (modBr s f).gran = s.gran := rfl
@[simp] theorem modBr_qrs : (modBr s f).qrs = s.qrs := rfl
@[simp] theorem modBr_loader : (modBr s f).loader = s.loader := rfl
@[simp] theorem modBr_dma : (modBr s f).dma = s.dma := rfl
@[simp] theorem modBr_seq : (modBr s f).seq = s.seq := rfl
@[simp] theorem modBr_mail : (modBr s f).mail = s.mail := rfl
@[simp] theorem modBr_shell : (modBr s f).shell = s.shell := rfl
@[simp] theorem modBr_step : (modBr s f).step = s.step := rfl
@[simp] theorem modBr_mirror : (modBr s f).mirror = s.mirror := rfl
@[simp] theorem modBr_supply : (modBr s f).supply = s.supply := rfl
@[simp] theorem modBr_thermal : (modBr s f).thermal = s.thermal := rfl
@[simp] theorem modBr_sec : (modBr s f).sec = s.sec := rfl
@[simp] theorem modBr_cas : (modBr s f).cas = s.cas := rfl
@[simp] theorem modBr_mem : (modBr s f).mem = s.mem := rfl
@[simp] theorem modBr_obs : (modBr s f).obs = s.obs := rfl
end

section
variable (f : Shell → Shell)
@[simp] theorem modShell_build : (modShell s f).build = s.build := rfl
@[simp] theorem modShell_pending : (modShell s f).pending = s.pending := rfl
@[simp] theorem modShell_work : (modShell s f).work = s.work := rfl
@[simp] theorem modShell_tiles : (modShell s f).tiles = s.tiles := rfl
@[simp] theorem modShell_time : (modShell s f).time = s.time := rfl
@[simp] theorem modShell_mode : (modShell s f).mode = s.mode := rfl
@[simp] theorem modShell_fault : (modShell s f).fault = s.fault := rfl
@[simp] theorem modShell_ladder : (modShell s f).ladder = s.ladder := rfl
@[simp] theorem modShell_search : (modShell s f).search = s.search := rfl
@[simp] theorem modShell_hangReg : (modShell s f).hangReg = s.hangReg := rfl
@[simp] theorem modShell_stop : (modShell s f).stop = s.stop := rfl
@[simp] theorem modShell_stopReg : (modShell s f).stopReg = s.stopReg := rfl
@[simp] theorem modShell_rcd : (modShell s f).rcd = s.rcd := rfl
@[simp] theorem modShell_gran : (modShell s f).gran = s.gran := rfl
@[simp] theorem modShell_qrs : (modShell s f).qrs = s.qrs := rfl
@[simp] theorem modShell_loader : (modShell s f).loader = s.loader := rfl
@[simp] theorem modShell_dma : (modShell s f).dma = s.dma := rfl
@[simp] theorem modShell_seq : (modShell s f).seq = s.seq := rfl
@[simp] theorem modShell_mail : (modShell s f).mail = s.mail := rfl
@[simp] theorem modShell_step : (modShell s f).step = s.step := rfl
@[simp] theorem modShell_mirror : (modShell s f).mirror = s.mirror := rfl
@[simp] theorem modShell_supply : (modShell s f).supply = s.supply := rfl
@[simp] theorem modShell_thermal : (modShell s f).thermal = s.thermal := rfl
@[simp] theorem modShell_sec : (modShell s f).sec = s.sec := rfl
@[simp] theorem modShell_cas : (modShell s f).cas = s.cas := rfl
@[simp] theorem modShell_bring : (modShell s f).bring = s.bring := rfl
@[simp] theorem modShell_mem : (modShell s f).mem = s.mem := rfl
@[simp] theorem modShell_obs : (modShell s f).obs = s.obs := rfl
end

section
variable (f : Stop → Stop)
@[simp] theorem modStop_build : (modStop s f).build = s.build := rfl
@[simp] theorem modStop_pending : (modStop s f).pending = s.pending := rfl
@[simp] theorem modStop_work : (modStop s f).work = s.work := rfl
@[simp] theorem modStop_tiles : (modStop s f).tiles = s.tiles := rfl
@[simp] theorem modStop_time : (modStop s f).time = s.time := rfl
@[simp] theorem modStop_mode : (modStop s f).mode = s.mode := rfl
@[simp] theorem modStop_fault : (modStop s f).fault = s.fault := rfl
@[simp] theorem modStop_ladder : (modStop s f).ladder = s.ladder := rfl
@[simp] theorem modStop_search : (modStop s f).search = s.search := rfl
@[simp] theorem modStop_hangReg : (modStop s f).hangReg = s.hangReg := rfl
@[simp] theorem modStop_stopReg : (modStop s f).stopReg = s.stopReg := rfl
@[simp] theorem modStop_rcd : (modStop s f).rcd = s.rcd := rfl
@[simp] theorem modStop_gran : (modStop s f).gran = s.gran := rfl
@[simp] theorem modStop_qrs : (modStop s f).qrs = s.qrs := rfl
@[simp] theorem modStop_loader : (modStop s f).loader = s.loader := rfl
@[simp] theorem modStop_dma : (modStop s f).dma = s.dma := rfl
@[simp] theorem modStop_seq : (modStop s f).seq = s.seq := rfl
@[simp] theorem modStop_mail : (modStop s f).mail = s.mail := rfl
@[simp] theorem modStop_shell : (modStop s f).shell = s.shell := rfl
@[simp] theorem modStop_step : (modStop s f).step = s.step := rfl
@[simp] theorem modStop_mirror : (modStop s f).mirror = s.mirror := rfl
@[simp] theorem modStop_supply : (modStop s f).supply = s.supply := rfl
@[simp] theorem modStop_thermal : (modStop s f).thermal = s.thermal := rfl
@[simp] theorem modStop_sec : (modStop s f).sec = s.sec := rfl
@[simp] theorem modStop_cas : (modStop s f).cas = s.cas := rfl
@[simp] theorem modStop_bring : (modStop s f).bring = s.bring := rfl
@[simp] theorem modStop_mem : (modStop s f).mem = s.mem := rfl
@[simp] theorem modStop_obs : (modStop s f).obs = s.obs := rfl
end

section
variable (f : Search → Search)
@[simp] theorem modSearch_build : (modSearch s f).build = s.build := rfl
@[simp] theorem modSearch_pending : (modSearch s f).pending = s.pending := rfl
@[simp] theorem modSearch_work : (modSearch s f).work = s.work := rfl
@[simp] theorem modSearch_tiles : (modSearch s f).tiles = s.tiles := rfl
@[simp] theorem modSearch_time : (modSearch s f).time = s.time := rfl
@[simp] theorem modSearch_mode : (modSearch s f).mode = s.mode := rfl
@[simp] theorem modSearch_fault : (modSearch s f).fault = s.fault := rfl
@[simp] theorem modSearch_ladder : (modSearch s f).ladder = s.ladder := rfl
@[simp] theorem modSearch_hangReg : (modSearch s f).hangReg = s.hangReg := rfl
@[simp] theorem modSearch_stop : (modSearch s f).stop = s.stop := rfl
@[simp] theorem modSearch_stopReg : (modSearch s f).stopReg = s.stopReg := rfl
@[simp] theorem modSearch_rcd : (modSearch s f).rcd = s.rcd := rfl
@[simp] theorem modSearch_gran : (modSearch s f).gran = s.gran := rfl
@[simp] theorem modSearch_qrs : (modSearch s f).qrs = s.qrs := rfl
@[simp] theorem modSearch_loader : (modSearch s f).loader = s.loader := rfl
@[simp] theorem modSearch_dma : (modSearch s f).dma = s.dma := rfl
@[simp] theorem modSearch_seq : (modSearch s f).seq = s.seq := rfl
@[simp] theorem modSearch_mail : (modSearch s f).mail = s.mail := rfl
@[simp] theorem modSearch_shell : (modSearch s f).shell = s.shell := rfl
@[simp] theorem modSearch_step : (modSearch s f).step = s.step := rfl
@[simp] theorem modSearch_mirror : (modSearch s f).mirror = s.mirror := rfl
@[simp] theorem modSearch_supply : (modSearch s f).supply = s.supply := rfl
@[simp] theorem modSearch_thermal : (modSearch s f).thermal = s.thermal := rfl
@[simp] theorem modSearch_sec : (modSearch s f).sec = s.sec := rfl
@[simp] theorem modSearch_cas : (modSearch s f).cas = s.cas := rfl
@[simp] theorem modSearch_bring : (modSearch s f).bring = s.bring := rfl
@[simp] theorem modSearch_mem : (modSearch s f).mem = s.mem := rfl
@[simp] theorem modSearch_obs : (modSearch s f).obs = s.obs := rfl
end

section
variable (f : Ladder → Ladder)
@[simp] theorem modLad_build : (modLad s f).build = s.build := rfl
@[simp] theorem modLad_pending : (modLad s f).pending = s.pending := rfl
@[simp] theorem modLad_work : (modLad s f).work = s.work := rfl
@[simp] theorem modLad_tiles : (modLad s f).tiles = s.tiles := rfl
@[simp] theorem modLad_time : (modLad s f).time = s.time := rfl
@[simp] theorem modLad_mode : (modLad s f).mode = s.mode := rfl
@[simp] theorem modLad_fault : (modLad s f).fault = s.fault := rfl
@[simp] theorem modLad_search : (modLad s f).search = s.search := rfl
@[simp] theorem modLad_hangReg : (modLad s f).hangReg = s.hangReg := rfl
@[simp] theorem modLad_stop : (modLad s f).stop = s.stop := rfl
@[simp] theorem modLad_stopReg : (modLad s f).stopReg = s.stopReg := rfl
@[simp] theorem modLad_rcd : (modLad s f).rcd = s.rcd := rfl
@[simp] theorem modLad_gran : (modLad s f).gran = s.gran := rfl
@[simp] theorem modLad_qrs : (modLad s f).qrs = s.qrs := rfl
@[simp] theorem modLad_loader : (modLad s f).loader = s.loader := rfl
@[simp] theorem modLad_dma : (modLad s f).dma = s.dma := rfl
@[simp] theorem modLad_seq : (modLad s f).seq = s.seq := rfl
@[simp] theorem modLad_mail : (modLad s f).mail = s.mail := rfl
@[simp] theorem modLad_shell : (modLad s f).shell = s.shell := rfl
@[simp] theorem modLad_step : (modLad s f).step = s.step := rfl
@[simp] theorem modLad_mirror : (modLad s f).mirror = s.mirror := rfl
@[simp] theorem modLad_supply : (modLad s f).supply = s.supply := rfl
@[simp] theorem modLad_thermal : (modLad s f).thermal = s.thermal := rfl
@[simp] theorem modLad_sec : (modLad s f).sec = s.sec := rfl
@[simp] theorem modLad_cas : (modLad s f).cas = s.cas := rfl
@[simp] theorem modLad_bring : (modLad s f).bring = s.bring := rfl
@[simp] theorem modLad_mem : (modLad s f).mem = s.mem := rfl
@[simp] theorem modLad_obs : (modLad s f).obs = s.obs := rfl
end

section
variable (f : Granary → Granary)
@[simp] theorem modGran_build : (modGran s f).build = s.build := rfl
@[simp] theorem modGran_pending : (modGran s f).pending = s.pending := rfl
@[simp] theorem modGran_work : (modGran s f).work = s.work := rfl
@[simp] theorem modGran_tiles : (modGran s f).tiles = s.tiles := rfl
@[simp] theorem modGran_time : (modGran s f).time = s.time := rfl
@[simp] theorem modGran_mode : (modGran s f).mode = s.mode := rfl
@[simp] theorem modGran_fault : (modGran s f).fault = s.fault := rfl
@[simp] theorem modGran_ladder : (modGran s f).ladder = s.ladder := rfl
@[simp] theorem modGran_search : (modGran s f).search = s.search := rfl
@[simp] theorem modGran_hangReg : (modGran s f).hangReg = s.hangReg := rfl
@[simp] theorem modGran_stop : (modGran s f).stop = s.stop := rfl
@[simp] theorem modGran_stopReg : (modGran s f).stopReg = s.stopReg := rfl
@[simp] theorem modGran_rcd : (modGran s f).rcd = s.rcd := rfl
@[simp] theorem modGran_qrs : (modGran s f).qrs = s.qrs := rfl
@[simp] theorem modGran_loader : (modGran s f).loader = s.loader := rfl
@[simp] theorem modGran_dma : (modGran s f).dma = s.dma := rfl
@[simp] theorem modGran_seq : (modGran s f).seq = s.seq := rfl
@[simp] theorem modGran_mail : (modGran s f).mail = s.mail := rfl
@[simp] theorem modGran_shell : (modGran s f).shell = s.shell := rfl
@[simp] theorem modGran_step : (modGran s f).step = s.step := rfl
@[simp] theorem modGran_mirror : (modGran s f).mirror = s.mirror := rfl
@[simp] theorem modGran_supply : (modGran s f).supply = s.supply := rfl
@[simp] theorem modGran_thermal : (modGran s f).thermal = s.thermal := rfl
@[simp] theorem modGran_sec : (modGran s f).sec = s.sec := rfl
@[simp] theorem modGran_cas : (modGran s f).cas = s.cas := rfl
@[simp] theorem modGran_bring : (modGran s f).bring = s.bring := rfl
@[simp] theorem modGran_mem : (modGran s f).mem = s.mem := rfl
@[simp] theorem modGran_obs : (modGran s f).obs = s.obs := rfl
end

section
variable (f : Qrs → Qrs)
@[simp] theorem modQrs_build : (modQrs s f).build = s.build := rfl
@[simp] theorem modQrs_pending : (modQrs s f).pending = s.pending := rfl
@[simp] theorem modQrs_work : (modQrs s f).work = s.work := rfl
@[simp] theorem modQrs_tiles : (modQrs s f).tiles = s.tiles := rfl
@[simp] theorem modQrs_time : (modQrs s f).time = s.time := rfl
@[simp] theorem modQrs_mode : (modQrs s f).mode = s.mode := rfl
@[simp] theorem modQrs_fault : (modQrs s f).fault = s.fault := rfl
@[simp] theorem modQrs_ladder : (modQrs s f).ladder = s.ladder := rfl
@[simp] theorem modQrs_search : (modQrs s f).search = s.search := rfl
@[simp] theorem modQrs_hangReg : (modQrs s f).hangReg = s.hangReg := rfl
@[simp] theorem modQrs_stop : (modQrs s f).stop = s.stop := rfl
@[simp] theorem modQrs_stopReg : (modQrs s f).stopReg = s.stopReg := rfl
@[simp] theorem modQrs_rcd : (modQrs s f).rcd = s.rcd := rfl
@[simp] theorem modQrs_gran : (modQrs s f).gran = s.gran := rfl
@[simp] theorem modQrs_loader : (modQrs s f).loader = s.loader := rfl
@[simp] theorem modQrs_dma : (modQrs s f).dma = s.dma := rfl
@[simp] theorem modQrs_seq : (modQrs s f).seq = s.seq := rfl
@[simp] theorem modQrs_mail : (modQrs s f).mail = s.mail := rfl
@[simp] theorem modQrs_shell : (modQrs s f).shell = s.shell := rfl
@[simp] theorem modQrs_step : (modQrs s f).step = s.step := rfl
@[simp] theorem modQrs_mirror : (modQrs s f).mirror = s.mirror := rfl
@[simp] theorem modQrs_supply : (modQrs s f).supply = s.supply := rfl
@[simp] theorem modQrs_thermal : (modQrs s f).thermal = s.thermal := rfl
@[simp] theorem modQrs_sec : (modQrs s f).sec = s.sec := rfl
@[simp] theorem modQrs_cas : (modQrs s f).cas = s.cas := rfl
@[simp] theorem modQrs_bring : (modQrs s f).bring = s.bring := rfl
@[simp] theorem modQrs_mem : (modQrs s f).mem = s.mem := rfl
@[simp] theorem modQrs_obs : (modQrs s f).obs = s.obs := rfl
end

section
variable (n : Nat) (f : Mbox → Mbox)
@[simp] theorem updMbox_build : (updMbox s n f).build = s.build := rfl
@[simp] theorem updMbox_pending : (updMbox s n f).pending = s.pending := rfl
@[simp] theorem updMbox_work : (updMbox s n f).work = s.work := rfl
@[simp] theorem updMbox_tiles : (updMbox s n f).tiles = s.tiles := rfl
@[simp] theorem updMbox_time : (updMbox s n f).time = s.time := rfl
@[simp] theorem updMbox_mode : (updMbox s n f).mode = s.mode := rfl
@[simp] theorem updMbox_fault : (updMbox s n f).fault = s.fault := rfl
@[simp] theorem updMbox_ladder : (updMbox s n f).ladder = s.ladder := rfl
@[simp] theorem updMbox_search : (updMbox s n f).search = s.search := rfl
@[simp] theorem updMbox_hangReg : (updMbox s n f).hangReg = s.hangReg := rfl
@[simp] theorem updMbox_stop : (updMbox s n f).stop = s.stop := rfl
@[simp] theorem updMbox_stopReg : (updMbox s n f).stopReg = s.stopReg := rfl
@[simp] theorem updMbox_rcd : (updMbox s n f).rcd = s.rcd := rfl
@[simp] theorem updMbox_gran : (updMbox s n f).gran = s.gran := rfl
@[simp] theorem updMbox_qrs : (updMbox s n f).qrs = s.qrs := rfl
@[simp] theorem updMbox_loader : (updMbox s n f).loader = s.loader := rfl
@[simp] theorem updMbox_dma : (updMbox s n f).dma = s.dma := rfl
@[simp] theorem updMbox_seq : (updMbox s n f).seq = s.seq := rfl
@[simp] theorem updMbox_shell : (updMbox s n f).shell = s.shell := rfl
@[simp] theorem updMbox_step : (updMbox s n f).step = s.step := rfl
@[simp] theorem updMbox_mirror : (updMbox s n f).mirror = s.mirror := rfl
@[simp] theorem updMbox_supply : (updMbox s n f).supply = s.supply := rfl
@[simp] theorem updMbox_thermal : (updMbox s n f).thermal = s.thermal := rfl
@[simp] theorem updMbox_sec : (updMbox s n f).sec = s.sec := rfl
@[simp] theorem updMbox_cas : (updMbox s n f).cas = s.cas := rfl
@[simp] theorem updMbox_bring : (updMbox s n f).bring = s.bring := rfl
@[simp] theorem updMbox_mem : (updMbox s n f).mem = s.mem := rfl
@[simp] theorem updMbox_obs : (updMbox s n f).obs = s.obs := rfl
end

section
variable (f : Step → Step)
@[simp] theorem modEng_build : (modEng s f).build = s.build := rfl
@[simp] theorem modEng_pending : (modEng s f).pending = s.pending := rfl
@[simp] theorem modEng_work : (modEng s f).work = s.work := rfl
@[simp] theorem modEng_tiles : (modEng s f).tiles = s.tiles := rfl
@[simp] theorem modEng_time : (modEng s f).time = s.time := rfl
@[simp] theorem modEng_mode : (modEng s f).mode = s.mode := rfl
@[simp] theorem modEng_fault : (modEng s f).fault = s.fault := rfl
@[simp] theorem modEng_ladder : (modEng s f).ladder = s.ladder := rfl
@[simp] theorem modEng_search : (modEng s f).search = s.search := rfl
@[simp] theorem modEng_hangReg : (modEng s f).hangReg = s.hangReg := rfl
@[simp] theorem modEng_stop : (modEng s f).stop = s.stop := rfl
@[simp] theorem modEng_stopReg : (modEng s f).stopReg = s.stopReg := rfl
@[simp] theorem modEng_rcd : (modEng s f).rcd = s.rcd := rfl
@[simp] theorem modEng_gran : (modEng s f).gran = s.gran := rfl
@[simp] theorem modEng_qrs : (modEng s f).qrs = s.qrs := rfl
@[simp] theorem modEng_loader : (modEng s f).loader = s.loader := rfl
@[simp] theorem modEng_dma : (modEng s f).dma = s.dma := rfl
@[simp] theorem modEng_seq : (modEng s f).seq = s.seq := rfl
@[simp] theorem modEng_mail : (modEng s f).mail = s.mail := rfl
@[simp] theorem modEng_shell : (modEng s f).shell = s.shell := rfl
@[simp] theorem modEng_mirror : (modEng s f).mirror = s.mirror := rfl
@[simp] theorem modEng_supply : (modEng s f).supply = s.supply := rfl
@[simp] theorem modEng_thermal : (modEng s f).thermal = s.thermal := rfl
@[simp] theorem modEng_sec : (modEng s f).sec = s.sec := rfl
@[simp] theorem modEng_cas : (modEng s f).cas = s.cas := rfl
@[simp] theorem modEng_bring : (modEng s f).bring = s.bring := rfl
@[simp] theorem modEng_mem : (modEng s f).mem = s.mem := rfl
@[simp] theorem modEng_obs : (modEng s f).obs = s.obs := rfl
end

section
variable (f : VoteState → VoteState)
@[simp] theorem modVote_build : (modVote s f).build = s.build := rfl
@[simp] theorem modVote_pending : (modVote s f).pending = s.pending := rfl
@[simp] theorem modVote_work : (modVote s f).work = s.work := rfl
@[simp] theorem modVote_tiles : (modVote s f).tiles = s.tiles := rfl
@[simp] theorem modVote_time : (modVote s f).time = s.time := rfl
@[simp] theorem modVote_mode : (modVote s f).mode = s.mode := rfl
@[simp] theorem modVote_fault : (modVote s f).fault = s.fault := rfl
@[simp] theorem modVote_ladder : (modVote s f).ladder = s.ladder := rfl
@[simp] theorem modVote_search : (modVote s f).search = s.search := rfl
@[simp] theorem modVote_hangReg : (modVote s f).hangReg = s.hangReg := rfl
@[simp] theorem modVote_stop : (modVote s f).stop = s.stop := rfl
@[simp] theorem modVote_stopReg : (modVote s f).stopReg = s.stopReg := rfl
@[simp] theorem modVote_rcd : (modVote s f).rcd = s.rcd := rfl
@[simp] theorem modVote_gran : (modVote s f).gran = s.gran := rfl
@[simp] theorem modVote_qrs : (modVote s f).qrs = s.qrs := rfl
@[simp] theorem modVote_loader : (modVote s f).loader = s.loader := rfl
@[simp] theorem modVote_dma : (modVote s f).dma = s.dma := rfl
@[simp] theorem modVote_seq : (modVote s f).seq = s.seq := rfl
@[simp] theorem modVote_mail : (modVote s f).mail = s.mail := rfl
@[simp] theorem modVote_shell : (modVote s f).shell = s.shell := rfl
@[simp] theorem modVote_mirror : (modVote s f).mirror = s.mirror := rfl
@[simp] theorem modVote_supply : (modVote s f).supply = s.supply := rfl
@[simp] theorem modVote_thermal : (modVote s f).thermal = s.thermal := rfl
@[simp] theorem modVote_sec : (modVote s f).sec = s.sec := rfl
@[simp] theorem modVote_cas : (modVote s f).cas = s.cas := rfl
@[simp] theorem modVote_bring : (modVote s f).bring = s.bring := rfl
@[simp] theorem modVote_mem : (modVote s f).mem = s.mem := rfl
@[simp] theorem modVote_obs : (modVote s f).obs = s.obs := rfl
end

section
variable (f : Gate → Gate)
@[simp] theorem modGate_build : (modGate s f).build = s.build := rfl
@[simp] theorem modGate_pending : (modGate s f).pending = s.pending := rfl
@[simp] theorem modGate_work : (modGate s f).work = s.work := rfl
@[simp] theorem modGate_tiles : (modGate s f).tiles = s.tiles := rfl
@[simp] theorem modGate_time : (modGate s f).time = s.time := rfl
@[simp] theorem modGate_mode : (modGate s f).mode = s.mode := rfl
@[simp] theorem modGate_fault : (modGate s f).fault = s.fault := rfl
@[simp] theorem modGate_ladder : (modGate s f).ladder = s.ladder := rfl
@[simp] theorem modGate_search : (modGate s f).search = s.search := rfl
@[simp] theorem modGate_hangReg : (modGate s f).hangReg = s.hangReg := rfl
@[simp] theorem modGate_stop : (modGate s f).stop = s.stop := rfl
@[simp] theorem modGate_stopReg : (modGate s f).stopReg = s.stopReg := rfl
@[simp] theorem modGate_rcd : (modGate s f).rcd = s.rcd := rfl
@[simp] theorem modGate_gran : (modGate s f).gran = s.gran := rfl
@[simp] theorem modGate_qrs : (modGate s f).qrs = s.qrs := rfl
@[simp] theorem modGate_loader : (modGate s f).loader = s.loader := rfl
@[simp] theorem modGate_dma : (modGate s f).dma = s.dma := rfl
@[simp] theorem modGate_seq : (modGate s f).seq = s.seq := rfl
@[simp] theorem modGate_mail : (modGate s f).mail = s.mail := rfl
@[simp] theorem modGate_shell : (modGate s f).shell = s.shell := rfl
@[simp] theorem modGate_mirror : (modGate s f).mirror = s.mirror := rfl
@[simp] theorem modGate_supply : (modGate s f).supply = s.supply := rfl
@[simp] theorem modGate_thermal : (modGate s f).thermal = s.thermal := rfl
@[simp] theorem modGate_sec : (modGate s f).sec = s.sec := rfl
@[simp] theorem modGate_cas : (modGate s f).cas = s.cas := rfl
@[simp] theorem modGate_bring : (modGate s f).bring = s.bring := rfl
@[simp] theorem modGate_mem : (modGate s f).mem = s.mem := rfl
@[simp] theorem modGate_obs : (modGate s f).obs = s.obs := rfl
end

section
variable (f : Journal → Journal)
@[simp] theorem modJnl_build : (modJnl s f).build = s.build := rfl
@[simp] theorem modJnl_pending : (modJnl s f).pending = s.pending := rfl
@[simp] theorem modJnl_work : (modJnl s f).work = s.work := rfl
@[simp] theorem modJnl_tiles : (modJnl s f).tiles = s.tiles := rfl
@[simp] theorem modJnl_time : (modJnl s f).time = s.time := rfl
@[simp] theorem modJnl_mode : (modJnl s f).mode = s.mode := rfl
@[simp] theorem modJnl_fault : (modJnl s f).fault = s.fault := rfl
@[simp] theorem modJnl_ladder : (modJnl s f).ladder = s.ladder := rfl
@[simp] theorem modJnl_search : (modJnl s f).search = s.search := rfl
@[simp] theorem modJnl_hangReg : (modJnl s f).hangReg = s.hangReg := rfl
@[simp] theorem modJnl_stop : (modJnl s f).stop = s.stop := rfl
@[simp] theorem modJnl_stopReg : (modJnl s f).stopReg = s.stopReg := rfl
@[simp] theorem modJnl_rcd : (modJnl s f).rcd = s.rcd := rfl
@[simp] theorem modJnl_gran : (modJnl s f).gran = s.gran := rfl
@[simp] theorem modJnl_qrs : (modJnl s f).qrs = s.qrs := rfl
@[simp] theorem modJnl_loader : (modJnl s f).loader = s.loader := rfl
@[simp] theorem modJnl_dma : (modJnl s f).dma = s.dma := rfl
@[simp] theorem modJnl_seq : (modJnl s f).seq = s.seq := rfl
@[simp] theorem modJnl_mail : (modJnl s f).mail = s.mail := rfl
@[simp] theorem modJnl_shell : (modJnl s f).shell = s.shell := rfl
@[simp] theorem modJnl_mirror : (modJnl s f).mirror = s.mirror := rfl
@[simp] theorem modJnl_supply : (modJnl s f).supply = s.supply := rfl
@[simp] theorem modJnl_thermal : (modJnl s f).thermal = s.thermal := rfl
@[simp] theorem modJnl_sec : (modJnl s f).sec = s.sec := rfl
@[simp] theorem modJnl_cas : (modJnl s f).cas = s.cas := rfl
@[simp] theorem modJnl_bring : (modJnl s f).bring = s.bring := rfl
@[simp] theorem modJnl_mem : (modJnl s f).mem = s.mem := rfl
@[simp] theorem modJnl_obs : (modJnl s f).obs = s.obs := rfl
end

section
variable (f : Cov → Cov)
@[simp] theorem modCov_build : (modCov s f).build = s.build := rfl
@[simp] theorem modCov_pending : (modCov s f).pending = s.pending := rfl
@[simp] theorem modCov_work : (modCov s f).work = s.work := rfl
@[simp] theorem modCov_tiles : (modCov s f).tiles = s.tiles := rfl
@[simp] theorem modCov_time : (modCov s f).time = s.time := rfl
@[simp] theorem modCov_mode : (modCov s f).mode = s.mode := rfl
@[simp] theorem modCov_fault : (modCov s f).fault = s.fault := rfl
@[simp] theorem modCov_ladder : (modCov s f).ladder = s.ladder := rfl
@[simp] theorem modCov_search : (modCov s f).search = s.search := rfl
@[simp] theorem modCov_hangReg : (modCov s f).hangReg = s.hangReg := rfl
@[simp] theorem modCov_stop : (modCov s f).stop = s.stop := rfl
@[simp] theorem modCov_stopReg : (modCov s f).stopReg = s.stopReg := rfl
@[simp] theorem modCov_rcd : (modCov s f).rcd = s.rcd := rfl
@[simp] theorem modCov_gran : (modCov s f).gran = s.gran := rfl
@[simp] theorem modCov_qrs : (modCov s f).qrs = s.qrs := rfl
@[simp] theorem modCov_loader : (modCov s f).loader = s.loader := rfl
@[simp] theorem modCov_dma : (modCov s f).dma = s.dma := rfl
@[simp] theorem modCov_seq : (modCov s f).seq = s.seq := rfl
@[simp] theorem modCov_mail : (modCov s f).mail = s.mail := rfl
@[simp] theorem modCov_shell : (modCov s f).shell = s.shell := rfl
@[simp] theorem modCov_mirror : (modCov s f).mirror = s.mirror := rfl
@[simp] theorem modCov_supply : (modCov s f).supply = s.supply := rfl
@[simp] theorem modCov_thermal : (modCov s f).thermal = s.thermal := rfl
@[simp] theorem modCov_sec : (modCov s f).sec = s.sec := rfl
@[simp] theorem modCov_cas : (modCov s f).cas = s.cas := rfl
@[simp] theorem modCov_bring : (modCov s f).bring = s.bring := rfl
@[simp] theorem modCov_mem : (modCov s f).mem = s.mem := rfl
@[simp] theorem modCov_obs : (modCov s f).obs = s.obs := rfl
end

section
variable (f : StepRegs → StepRegs)
@[simp] theorem modRegs_build : (modRegs s f).build = s.build := rfl
@[simp] theorem modRegs_pending : (modRegs s f).pending = s.pending := rfl
@[simp] theorem modRegs_work : (modRegs s f).work = s.work := rfl
@[simp] theorem modRegs_tiles : (modRegs s f).tiles = s.tiles := rfl
@[simp] theorem modRegs_time : (modRegs s f).time = s.time := rfl
@[simp] theorem modRegs_mode : (modRegs s f).mode = s.mode := rfl
@[simp] theorem modRegs_fault : (modRegs s f).fault = s.fault := rfl
@[simp] theorem modRegs_ladder : (modRegs s f).ladder = s.ladder := rfl
@[simp] theorem modRegs_search : (modRegs s f).search = s.search := rfl
@[simp] theorem modRegs_hangReg : (modRegs s f).hangReg = s.hangReg := rfl
@[simp] theorem modRegs_stop : (modRegs s f).stop = s.stop := rfl
@[simp] theorem modRegs_stopReg : (modRegs s f).stopReg = s.stopReg := rfl
@[simp] theorem modRegs_rcd : (modRegs s f).rcd = s.rcd := rfl
@[simp] theorem modRegs_gran : (modRegs s f).gran = s.gran := rfl
@[simp] theorem modRegs_qrs : (modRegs s f).qrs = s.qrs := rfl
@[simp] theorem modRegs_loader : (modRegs s f).loader = s.loader := rfl
@[simp] theorem modRegs_dma : (modRegs s f).dma = s.dma := rfl
@[simp] theorem modRegs_seq : (modRegs s f).seq = s.seq := rfl
@[simp] theorem modRegs_mail : (modRegs s f).mail = s.mail := rfl
@[simp] theorem modRegs_shell : (modRegs s f).shell = s.shell := rfl
@[simp] theorem modRegs_mirror : (modRegs s f).mirror = s.mirror := rfl
@[simp] theorem modRegs_supply : (modRegs s f).supply = s.supply := rfl
@[simp] theorem modRegs_thermal : (modRegs s f).thermal = s.thermal := rfl
@[simp] theorem modRegs_sec : (modRegs s f).sec = s.sec := rfl
@[simp] theorem modRegs_cas : (modRegs s f).cas = s.cas := rfl
@[simp] theorem modRegs_bring : (modRegs s f).bring = s.bring := rfl
@[simp] theorem modRegs_mem : (modRegs s f).mem = s.mem := rfl
@[simp] theorem modRegs_obs : (modRegs s f).obs = s.obs := rfl
end

section
variable (f : Cert → Cert)
@[simp] theorem modCert_build : (modCert s f).build = s.build := rfl
@[simp] theorem modCert_pending : (modCert s f).pending = s.pending := rfl
@[simp] theorem modCert_work : (modCert s f).work = s.work := rfl
@[simp] theorem modCert_tiles : (modCert s f).tiles = s.tiles := rfl
@[simp] theorem modCert_time : (modCert s f).time = s.time := rfl
@[simp] theorem modCert_mode : (modCert s f).mode = s.mode := rfl
@[simp] theorem modCert_fault : (modCert s f).fault = s.fault := rfl
@[simp] theorem modCert_ladder : (modCert s f).ladder = s.ladder := rfl
@[simp] theorem modCert_search : (modCert s f).search = s.search := rfl
@[simp] theorem modCert_hangReg : (modCert s f).hangReg = s.hangReg := rfl
@[simp] theorem modCert_stop : (modCert s f).stop = s.stop := rfl
@[simp] theorem modCert_stopReg : (modCert s f).stopReg = s.stopReg := rfl
@[simp] theorem modCert_rcd : (modCert s f).rcd = s.rcd := rfl
@[simp] theorem modCert_gran : (modCert s f).gran = s.gran := rfl
@[simp] theorem modCert_qrs : (modCert s f).qrs = s.qrs := rfl
@[simp] theorem modCert_loader : (modCert s f).loader = s.loader := rfl
@[simp] theorem modCert_dma : (modCert s f).dma = s.dma := rfl
@[simp] theorem modCert_seq : (modCert s f).seq = s.seq := rfl
@[simp] theorem modCert_mail : (modCert s f).mail = s.mail := rfl
@[simp] theorem modCert_shell : (modCert s f).shell = s.shell := rfl
@[simp] theorem modCert_mirror : (modCert s f).mirror = s.mirror := rfl
@[simp] theorem modCert_supply : (modCert s f).supply = s.supply := rfl
@[simp] theorem modCert_thermal : (modCert s f).thermal = s.thermal := rfl
@[simp] theorem modCert_sec : (modCert s f).sec = s.sec := rfl
@[simp] theorem modCert_cas : (modCert s f).cas = s.cas := rfl
@[simp] theorem modCert_bring : (modCert s f).bring = s.bring := rfl
@[simp] theorem modCert_mem : (modCert s f).mem = s.mem := rfl
@[simp] theorem modCert_obs : (modCert s f).obs = s.obs := rfl
end

@[simp] theorem modLd_loader (f : Loader → Loader) : (modLd s f).loader = f s.loader := rfl
@[simp] theorem modMir_mirror (f : Mirror → Mirror) : (modMir s f).mirror = f s.mirror := rfl
@[simp] theorem modRcd_rcd (f : Recorder → Recorder) : (modRcd s f).rcd = f s.rcd := rfl
@[simp] theorem modFault_fault (f : FaultUnit → FaultUnit) : (modFault s f).fault = f s.fault := rfl
@[simp] theorem modSec_sec (f : Security → Security) : (modSec s f).sec = f s.sec := rfl
@[simp] theorem modCas_cas (f : Cascade → Cascade) : (modCas s f).cas = f s.cas := rfl
@[simp] theorem modOb_obs (f : Observe → Observe) : (modOb s f).obs = f s.obs := rfl
@[simp] theorem modDma_dma (f : Dma → Dma) : (modDma s f).dma = f s.dma := rfl
@[simp] theorem modTime_time (f : TimeKeep → TimeKeep) : (modTime s f).time = f s.time := rfl
@[simp] theorem modSup_supply (f : Supply → Supply) : (modSup s f).supply = f s.supply := rfl
@[simp] theorem modTh_thermal (f : Thermal → Thermal) : (modTh s f).thermal = f s.thermal := rfl
@[simp] theorem modMt_mem (f : Memtest → Memtest) : (modMt s f).mem = f s.mem := rfl
@[simp] theorem modBr_bring (f : Bringup → Bringup) : (modBr s f).bring = f s.bring := rfl
@[simp] theorem modShell_shell (f : Shell → Shell) : (modShell s f).shell = f s.shell := rfl
@[simp] theorem modStop_stop (f : Stop → Stop) : (modStop s f).stop = f s.stop := rfl
@[simp] theorem modSearch_search (f : Search → Search) : (modSearch s f).search = f s.search := rfl
@[simp] theorem modLad_ladder (f : Ladder → Ladder) : (modLad s f).ladder = f s.ladder := rfl
@[simp] theorem modGran_gran (f : Granary → Granary) : (modGran s f).gran = f s.gran := rfl
@[simp] theorem modQrs_qrs (f : Qrs → Qrs) : (modQrs s f).qrs = f s.qrs := rfl
section
variable (f : Step → Step)
@[simp] theorem modEng_step_eng : (modEng s f).step.eng = f s.step.eng := rfl
@[simp] theorem modEng_step_regs : (modEng s f).step.regs = s.step.regs := rfl
@[simp] theorem modEng_step_jnl : (modEng s f).step.jnl = s.step.jnl := rfl
@[simp] theorem modEng_step_vote : (modEng s f).step.vote = s.step.vote := rfl
@[simp] theorem modEng_step_gate : (modEng s f).step.gate = s.step.gate := rfl
@[simp] theorem modEng_step_cert : (modEng s f).step.cert = s.step.cert := rfl
@[simp] theorem modEng_step_cov : (modEng s f).step.cov = s.step.cov := rfl
@[simp] theorem modEng_step_covReady : (modEng s f).step.covReady = s.step.covReady := rfl
@[simp] theorem modEng_step_covHeld : (modEng s f).step.covHeld = s.step.covHeld := rfl
@[simp] theorem modEng_step_chains : (modEng s f).step.chains = s.step.chains := rfl
@[simp] theorem modEng_step_z : (modEng s f).step.z = s.step.z := rfl
@[simp] theorem modEng_step_exchSeen : (modEng s f).step.exchSeen = s.step.exchSeen := rfl
@[simp] theorem modEng_step_exchZ : (modEng s f).step.exchZ = s.step.exchZ := rfl
@[simp] theorem modEng_step_exchChains : (modEng s f).step.exchChains = s.step.exchChains := rfl
@[simp] theorem modEng_step_exchSeq : (modEng s f).step.exchSeq = s.step.exchSeq := rfl
end

section
variable (f : VoteState → VoteState)
@[simp] theorem modVote_step_eng : (modVote s f).step.eng = s.step.eng := rfl
@[simp] theorem modVote_step_regs : (modVote s f).step.regs = s.step.regs := rfl
@[simp] theorem modVote_step_jnl : (modVote s f).step.jnl = s.step.jnl := rfl
@[simp] theorem modVote_step_vote : (modVote s f).step.vote = f s.step.vote := rfl
@[simp] theorem modVote_step_gate : (modVote s f).step.gate = s.step.gate := rfl
@[simp] theorem modVote_step_cert : (modVote s f).step.cert = s.step.cert := rfl
@[simp] theorem modVote_step_cov : (modVote s f).step.cov = s.step.cov := rfl
@[simp] theorem modVote_step_covReady : (modVote s f).step.covReady = s.step.covReady := rfl
@[simp] theorem modVote_step_covHeld : (modVote s f).step.covHeld = s.step.covHeld := rfl
@[simp] theorem modVote_step_chains : (modVote s f).step.chains = s.step.chains := rfl
@[simp] theorem modVote_step_z : (modVote s f).step.z = s.step.z := rfl
@[simp] theorem modVote_step_exchSeen : (modVote s f).step.exchSeen = s.step.exchSeen := rfl
@[simp] theorem modVote_step_exchZ : (modVote s f).step.exchZ = s.step.exchZ := rfl
@[simp] theorem modVote_step_exchChains : (modVote s f).step.exchChains = s.step.exchChains := rfl
@[simp] theorem modVote_step_exchSeq : (modVote s f).step.exchSeq = s.step.exchSeq := rfl
end

section
variable (f : Gate → Gate)
@[simp] theorem modGate_step_eng : (modGate s f).step.eng = s.step.eng := rfl
@[simp] theorem modGate_step_regs : (modGate s f).step.regs = s.step.regs := rfl
@[simp] theorem modGate_step_jnl : (modGate s f).step.jnl = s.step.jnl := rfl
@[simp] theorem modGate_step_vote : (modGate s f).step.vote = s.step.vote := rfl
@[simp] theorem modGate_step_gate : (modGate s f).step.gate = f s.step.gate := rfl
@[simp] theorem modGate_step_cert : (modGate s f).step.cert = s.step.cert := rfl
@[simp] theorem modGate_step_cov : (modGate s f).step.cov = s.step.cov := rfl
@[simp] theorem modGate_step_covReady : (modGate s f).step.covReady = s.step.covReady := rfl
@[simp] theorem modGate_step_covHeld : (modGate s f).step.covHeld = s.step.covHeld := rfl
@[simp] theorem modGate_step_chains : (modGate s f).step.chains = s.step.chains := rfl
@[simp] theorem modGate_step_z : (modGate s f).step.z = s.step.z := rfl
@[simp] theorem modGate_step_exchSeen : (modGate s f).step.exchSeen = s.step.exchSeen := rfl
@[simp] theorem modGate_step_exchZ : (modGate s f).step.exchZ = s.step.exchZ := rfl
@[simp] theorem modGate_step_exchChains : (modGate s f).step.exchChains = s.step.exchChains := rfl
@[simp] theorem modGate_step_exchSeq : (modGate s f).step.exchSeq = s.step.exchSeq := rfl
end

section
variable (f : Journal → Journal)
@[simp] theorem modJnl_step_eng : (modJnl s f).step.eng = s.step.eng := rfl
@[simp] theorem modJnl_step_regs : (modJnl s f).step.regs = s.step.regs := rfl
@[simp] theorem modJnl_step_jnl : (modJnl s f).step.jnl = f s.step.jnl := rfl
@[simp] theorem modJnl_step_vote : (modJnl s f).step.vote = s.step.vote := rfl
@[simp] theorem modJnl_step_gate : (modJnl s f).step.gate = s.step.gate := rfl
@[simp] theorem modJnl_step_cert : (modJnl s f).step.cert = s.step.cert := rfl
@[simp] theorem modJnl_step_cov : (modJnl s f).step.cov = s.step.cov := rfl
@[simp] theorem modJnl_step_covReady : (modJnl s f).step.covReady = s.step.covReady := rfl
@[simp] theorem modJnl_step_covHeld : (modJnl s f).step.covHeld = s.step.covHeld := rfl
@[simp] theorem modJnl_step_chains : (modJnl s f).step.chains = s.step.chains := rfl
@[simp] theorem modJnl_step_z : (modJnl s f).step.z = s.step.z := rfl
@[simp] theorem modJnl_step_exchSeen : (modJnl s f).step.exchSeen = s.step.exchSeen := rfl
@[simp] theorem modJnl_step_exchZ : (modJnl s f).step.exchZ = s.step.exchZ := rfl
@[simp] theorem modJnl_step_exchChains : (modJnl s f).step.exchChains = s.step.exchChains := rfl
@[simp] theorem modJnl_step_exchSeq : (modJnl s f).step.exchSeq = s.step.exchSeq := rfl
end

section
variable (f : Cov → Cov)
@[simp] theorem modCov_step_eng : (modCov s f).step.eng = s.step.eng := rfl
@[simp] theorem modCov_step_regs : (modCov s f).step.regs = s.step.regs := rfl
@[simp] theorem modCov_step_jnl : (modCov s f).step.jnl = s.step.jnl := rfl
@[simp] theorem modCov_step_vote : (modCov s f).step.vote = s.step.vote := rfl
@[simp] theorem modCov_step_gate : (modCov s f).step.gate = s.step.gate := rfl
@[simp] theorem modCov_step_cert : (modCov s f).step.cert = s.step.cert := rfl
@[simp] theorem modCov_step_cov : (modCov s f).step.cov = f s.step.cov := rfl
@[simp] theorem modCov_step_covReady : (modCov s f).step.covReady = s.step.covReady := rfl
@[simp] theorem modCov_step_covHeld : (modCov s f).step.covHeld = s.step.covHeld := rfl
@[simp] theorem modCov_step_chains : (modCov s f).step.chains = s.step.chains := rfl
@[simp] theorem modCov_step_z : (modCov s f).step.z = s.step.z := rfl
@[simp] theorem modCov_step_exchSeen : (modCov s f).step.exchSeen = s.step.exchSeen := rfl
@[simp] theorem modCov_step_exchZ : (modCov s f).step.exchZ = s.step.exchZ := rfl
@[simp] theorem modCov_step_exchChains : (modCov s f).step.exchChains = s.step.exchChains := rfl
@[simp] theorem modCov_step_exchSeq : (modCov s f).step.exchSeq = s.step.exchSeq := rfl
end

section
variable (f : StepRegs → StepRegs)
@[simp] theorem modRegs_step_eng : (modRegs s f).step.eng = s.step.eng := rfl
@[simp] theorem modRegs_step_regs : (modRegs s f).step.regs = f s.step.regs := rfl
@[simp] theorem modRegs_step_jnl : (modRegs s f).step.jnl = s.step.jnl := rfl
@[simp] theorem modRegs_step_vote : (modRegs s f).step.vote = s.step.vote := rfl
@[simp] theorem modRegs_step_gate : (modRegs s f).step.gate = s.step.gate := rfl
@[simp] theorem modRegs_step_cert : (modRegs s f).step.cert = s.step.cert := rfl
@[simp] theorem modRegs_step_cov : (modRegs s f).step.cov = s.step.cov := rfl
@[simp] theorem modRegs_step_covReady : (modRegs s f).step.covReady = s.step.covReady := rfl
@[simp] theorem modRegs_step_covHeld : (modRegs s f).step.covHeld = s.step.covHeld := rfl
@[simp] theorem modRegs_step_chains : (modRegs s f).step.chains = s.step.chains := rfl
@[simp] theorem modRegs_step_z : (modRegs s f).step.z = s.step.z := rfl
@[simp] theorem modRegs_step_exchSeen : (modRegs s f).step.exchSeen = s.step.exchSeen := rfl
@[simp] theorem modRegs_step_exchZ : (modRegs s f).step.exchZ = s.step.exchZ := rfl
@[simp] theorem modRegs_step_exchChains : (modRegs s f).step.exchChains = s.step.exchChains := rfl
@[simp] theorem modRegs_step_exchSeq : (modRegs s f).step.exchSeq = s.step.exchSeq := rfl
end

section
variable (f : Cert → Cert)
@[simp] theorem modCert_step_eng : (modCert s f).step.eng = s.step.eng := rfl
@[simp] theorem modCert_step_regs : (modCert s f).step.regs = s.step.regs := rfl
@[simp] theorem modCert_step_jnl : (modCert s f).step.jnl = s.step.jnl := rfl
@[simp] theorem modCert_step_vote : (modCert s f).step.vote = s.step.vote := rfl
@[simp] theorem modCert_step_gate : (modCert s f).step.gate = s.step.gate := rfl
@[simp] theorem modCert_step_cert : (modCert s f).step.cert = f s.step.cert := rfl
@[simp] theorem modCert_step_cov : (modCert s f).step.cov = s.step.cov := rfl
@[simp] theorem modCert_step_covReady : (modCert s f).step.covReady = s.step.covReady := rfl
@[simp] theorem modCert_step_covHeld : (modCert s f).step.covHeld = s.step.covHeld := rfl
@[simp] theorem modCert_step_chains : (modCert s f).step.chains = s.step.chains := rfl
@[simp] theorem modCert_step_z : (modCert s f).step.z = s.step.z := rfl
@[simp] theorem modCert_step_exchSeen : (modCert s f).step.exchSeen = s.step.exchSeen := rfl
@[simp] theorem modCert_step_exchZ : (modCert s f).step.exchZ = s.step.exchZ := rfl
@[simp] theorem modCert_step_exchChains : (modCert s f).step.exchChains = s.step.exchChains := rfl
@[simp] theorem modCert_step_exchSeq : (modCert s f).step.exchSeq = s.step.exchSeq := rfl
end

@[simp] theorem post_work (w : Work) : (post s w).work = s.work ++ [w] := rfl

/-! The counters of the instance, and what the step before sent. -/

@[simp] theorem cnt_build (i k : Nat) : (cnt s i k).build = s.build := by unfold cnt; split <;> rfl
@[simp] theorem cnt_pending (i k : Nat) : (cnt s i k).pending = s.pending := by unfold cnt; split <;> rfl
@[simp] theorem cnt_work (i k : Nat) : (cnt s i k).work = s.work := by unfold cnt; split <;> rfl
@[simp] theorem cnt_tiles (i k : Nat) : (cnt s i k).tiles = s.tiles := by unfold cnt; split <;> rfl
@[simp] theorem cnt_time (i k : Nat) : (cnt s i k).time = s.time := by unfold cnt; split <;> rfl
@[simp] theorem cnt_mode (i k : Nat) : (cnt s i k).mode = s.mode := by unfold cnt; split <;> rfl
@[simp] theorem cnt_fault (i k : Nat) : (cnt s i k).fault = s.fault := by unfold cnt; split <;> rfl
@[simp] theorem cnt_ladder (i k : Nat) : (cnt s i k).ladder = s.ladder := by unfold cnt; split <;> rfl
@[simp] theorem cnt_search (i k : Nat) : (cnt s i k).search = s.search := by unfold cnt; split <;> rfl
@[simp] theorem cnt_hangReg (i k : Nat) : (cnt s i k).hangReg = s.hangReg := by unfold cnt; split <;> rfl
@[simp] theorem cnt_stop (i k : Nat) : (cnt s i k).stop = s.stop := by unfold cnt; split <;> rfl
@[simp] theorem cnt_stopReg (i k : Nat) : (cnt s i k).stopReg = s.stopReg := by unfold cnt; split <;> rfl
@[simp] theorem cnt_rcd (i k : Nat) : (cnt s i k).rcd = s.rcd := by unfold cnt; split <;> rfl
@[simp] theorem cnt_gran (i k : Nat) : (cnt s i k).gran = s.gran := by unfold cnt; split <;> rfl
@[simp] theorem cnt_qrs (i k : Nat) : (cnt s i k).qrs = s.qrs := by unfold cnt; split <;> rfl
@[simp] theorem cnt_loader (i k : Nat) : (cnt s i k).loader = s.loader := by unfold cnt; split <;> rfl
@[simp] theorem cnt_dma (i k : Nat) : (cnt s i k).dma = s.dma := by unfold cnt; split <;> rfl
@[simp] theorem cnt_seq (i k : Nat) : (cnt s i k).seq = s.seq := by unfold cnt; split <;> rfl
@[simp] theorem cnt_mail (i k : Nat) : (cnt s i k).mail = s.mail := by unfold cnt; split <;> rfl
@[simp] theorem cnt_shell (i k : Nat) : (cnt s i k).shell = s.shell := by unfold cnt; split <;> rfl
@[simp] theorem cnt_step (i k : Nat) : (cnt s i k).step = s.step := by unfold cnt; split <;> rfl
@[simp] theorem cnt_mirror (i k : Nat) : (cnt s i k).mirror = s.mirror := by unfold cnt; split <;> rfl
@[simp] theorem cnt_supply (i k : Nat) : (cnt s i k).supply = s.supply := by unfold cnt; split <;> rfl
@[simp] theorem cnt_thermal (i k : Nat) : (cnt s i k).thermal = s.thermal := by unfold cnt; split <;> rfl
@[simp] theorem cnt_sec (i k : Nat) : (cnt s i k).sec = s.sec := by unfold cnt; split <;> rfl
@[simp] theorem cnt_cas (i k : Nat) : (cnt s i k).cas = s.cas := by unfold cnt; split <;> rfl
@[simp] theorem cnt_bring (i k : Nat) : (cnt s i k).bring = s.bring := by unfold cnt; split <;> rfl
@[simp] theorem cnt_mem (i k : Nat) : (cnt s i k).mem = s.mem := by unfold cnt; split <;> rfl
@[simp] theorem bumpGen_build : (bumpGen s).build = s.build := by simp [bumpGen]
@[simp] theorem bumpGen_pending : (bumpGen s).pending = s.pending := by simp [bumpGen]
@[simp] theorem bumpGen_work : (bumpGen s).work = s.work := by simp [bumpGen]
@[simp] theorem bumpGen_tiles : (bumpGen s).tiles = s.tiles := by simp [bumpGen]
@[simp] theorem bumpGen_time : (bumpGen s).time = s.time := by simp [bumpGen]
@[simp] theorem bumpGen_fault : (bumpGen s).fault = s.fault := by simp [bumpGen]
@[simp] theorem bumpGen_ladder : (bumpGen s).ladder = s.ladder := by simp [bumpGen]
@[simp] theorem bumpGen_search : (bumpGen s).search = s.search := by simp [bumpGen]
@[simp] theorem bumpGen_hangReg : (bumpGen s).hangReg = s.hangReg := by simp [bumpGen]
@[simp] theorem bumpGen_stop : (bumpGen s).stop = s.stop := by simp [bumpGen]
@[simp] theorem bumpGen_stopReg : (bumpGen s).stopReg = s.stopReg := by simp [bumpGen]
@[simp] theorem bumpGen_rcd : (bumpGen s).rcd = s.rcd := by simp [bumpGen]
@[simp] theorem bumpGen_gran : (bumpGen s).gran = s.gran := by simp [bumpGen]
@[simp] theorem bumpGen_qrs : (bumpGen s).qrs = s.qrs := by simp [bumpGen]
@[simp] theorem bumpGen_loader : (bumpGen s).loader = s.loader := by simp [bumpGen]
@[simp] theorem bumpGen_dma : (bumpGen s).dma = s.dma := by simp [bumpGen]
@[simp] theorem bumpGen_seq : (bumpGen s).seq = s.seq := by simp [bumpGen]
@[simp] theorem bumpGen_mail : (bumpGen s).mail = s.mail := by simp [bumpGen]
@[simp] theorem bumpGen_shell : (bumpGen s).shell = s.shell := by simp [bumpGen]
@[simp] theorem bumpGen_step : (bumpGen s).step = s.step := by simp [bumpGen]
@[simp] theorem bumpGen_mirror : (bumpGen s).mirror = s.mirror := by simp [bumpGen]
@[simp] theorem bumpGen_supply : (bumpGen s).supply = s.supply := by simp [bumpGen]
@[simp] theorem bumpGen_thermal : (bumpGen s).thermal = s.thermal := by simp [bumpGen]
@[simp] theorem bumpGen_sec : (bumpGen s).sec = s.sec := by simp [bumpGen]
@[simp] theorem bumpGen_cas : (bumpGen s).cas = s.cas := by simp [bumpGen]
@[simp] theorem bumpGen_bring : (bumpGen s).bring = s.bring := by simp [bumpGen]
@[simp] theorem bumpGen_mem : (bumpGen s).mem = s.mem := by simp [bumpGen]
@[simp] theorem clearSent_build : (clearSent s).build = s.build := rfl
@[simp] theorem clearSent_pending : (clearSent s).pending = s.pending := rfl
@[simp] theorem clearSent_work : (clearSent s).work = s.work := rfl
@[simp] theorem clearSent_tiles : (clearSent s).tiles = s.tiles := rfl
@[simp] theorem clearSent_time : (clearSent s).time = s.time := rfl
@[simp] theorem clearSent_mode : (clearSent s).mode = s.mode := rfl
@[simp] theorem clearSent_fault : (clearSent s).fault = s.fault := rfl
@[simp] theorem clearSent_ladder : (clearSent s).ladder = s.ladder := rfl
@[simp] theorem clearSent_search : (clearSent s).search = s.search := rfl
@[simp] theorem clearSent_hangReg : (clearSent s).hangReg = s.hangReg := rfl
@[simp] theorem clearSent_stop : (clearSent s).stop = s.stop := rfl
@[simp] theorem clearSent_stopReg : (clearSent s).stopReg = s.stopReg := rfl
@[simp] theorem clearSent_rcd : (clearSent s).rcd = s.rcd := rfl
@[simp] theorem clearSent_gran : (clearSent s).gran = s.gran := rfl
@[simp] theorem clearSent_qrs : (clearSent s).qrs = s.qrs := rfl
@[simp] theorem clearSent_loader : (clearSent s).loader = s.loader := rfl
@[simp] theorem clearSent_dma : (clearSent s).dma = s.dma := rfl
@[simp] theorem clearSent_seq : (clearSent s).seq = s.seq := rfl
@[simp] theorem clearSent_mail : (clearSent s).mail = s.mail := rfl
@[simp] theorem clearSent_step : (clearSent s).step = s.step := rfl
@[simp] theorem clearSent_mirror : (clearSent s).mirror = s.mirror := rfl
@[simp] theorem clearSent_supply : (clearSent s).supply = s.supply := rfl
@[simp] theorem clearSent_thermal : (clearSent s).thermal = s.thermal := rfl
@[simp] theorem clearSent_sec : (clearSent s).sec = s.sec := rfl
@[simp] theorem clearSent_bring : (clearSent s).bring = s.bring := rfl
@[simp] theorem clearSent_mem : (clearSent s).mem = s.mem := rfl
@[simp] theorem clearSent_obs : (clearSent s).obs = s.obs := rfl
@[simp] theorem clearSent_cas_strap : (clearSent s).cas.strap = s.cas.strap := rfl
@[simp] theorem clearSent_cas_role : (clearSent s).cas.role = s.cas.role := rfl
@[simp] theorem clearSent_cas_roleKnown : (clearSent s).cas.roleKnown = s.cas.roleKnown := rfl
@[simp] theorem clearSent_cas_ringOk : (clearSent s).cas.ringOk = s.cas.ringOk := rfl
@[simp] theorem clearSent_cas_masterLost : (clearSent s).cas.masterLost = s.cas.masterLost := rfl
@[simp] theorem clearSent_cas_instances : (clearSent s).cas.instances = s.cas.instances := rfl
@[simp] theorem clearSent_cas_position : (clearSent s).cas.position = s.cas.position := rfl
@[simp] theorem clearSent_cas_linkDowns : (clearSent s).cas.linkDowns = s.cas.linkDowns := rfl
@[simp] theorem clearSent_cas_chip : (clearSent s).cas.chip = s.cas.chip := rfl
@[simp] theorem clearSent_cas_members : (clearSent s).cas.members = s.cas.members := rfl
@[simp] theorem clearSent_cas_enumOut : (clearSent s).cas.enumOut = s.cas.enumOut := rfl
@[simp] theorem clearSent_cas_armChecks : (clearSent s).cas.armChecks = s.cas.armChecks := rfl
@[simp] theorem clearSent_cas_armWait : (clearSent s).cas.armWait = s.cas.armWait := rfl
@[simp] theorem clearSent_cas_armRole : (clearSent s).cas.armRole = s.cas.armRole := rfl
@[simp] theorem clearSent_cas_late : (clearSent s).cas.late = s.cas.late := rfl
@[simp] theorem clearSent_cas_armParams : (clearSent s).cas.armParams = s.cas.armParams := rfl
@[simp] theorem clearSent_cas_armOk : (clearSent s).cas.armOk = s.cas.armOk := rfl
@[simp] theorem clearSent_cas_decSeq : (clearSent s).cas.decSeq = s.cas.decSeq := rfl
@[simp] theorem clearSent_cas_failVerdicts : (clearSent s).cas.failVerdicts = s.cas.failVerdicts := rfl
@[simp] theorem clearSent_cas_lastDec : (clearSent s).cas.lastDec = s.cas.lastDec := rfl
@[simp] theorem clearSent_shell_porstLow : (clearSent s).shell.porstLow = s.shell.porstLow := rfl
@[simp] theorem clearSent_shell_blkRstLow : (clearSent s).shell.blkRstLow = s.shell.blkRstLow := rfl
@[simp] theorem clearSent_shell_krp : (clearSent s).shell.krp = s.shell.krp := rfl
@[simp] theorem clearSent_shell_net : (clearSent s).shell.net = s.shell.net := rfl
@[simp] theorem clearSent_shell_netTag : (clearSent s).shell.netTag = s.shell.netTag := rfl
@[simp] theorem clearSent_shell_keySeedReady : (clearSent s).shell.keySeedReady = s.shell.keySeedReady := rfl
@[simp] theorem clearSent_shell_fuseWords : (clearSent s).shell.fuseWords = s.shell.fuseWords := rfl
@[simp] theorem clearSent_shell_fuseReading : (clearSent s).shell.fuseReading = s.shell.fuseReading := rfl
@[simp] theorem clearSent_shell_fuseBuf : (clearSent s).shell.fuseBuf = s.shell.fuseBuf := rfl
@[simp] theorem clearSent_shell_trayAddr : (clearSent s).shell.trayAddr = s.shell.trayAddr := rfl
@[simp] theorem clearSent_shell_trayEid : (clearSent s).shell.trayEid = s.shell.trayEid := rfl
@[simp] theorem clearSent_shell_trayEvents : (clearSent s).shell.trayEvents = s.shell.trayEvents := rfl
@[simp] theorem clearSent_shell_jtag : (clearSent s).shell.jtag = s.shell.jtag := rfl
@[simp] theorem clearSent_shell_included : (clearSent s).shell.included = s.shell.included := rfl
@[simp] theorem clearSent_shell_denied : (clearSent s).shell.denied = s.shell.denied := rfl

end Sys2Proof.Machine
end

