-- ==== Sys2Proof/Laws/Run.lean ====
section
/-! SUPPORT. What one step can do, said once: a command acts, or changes nothing but the queue, or names a unit that does
not exist; and what a register command does where its access completes. -/
namespace Sys2Proof.Machine

set_option Elab.async false

/-- A command that can happen and can act concludes with its effect. -/
theorem run_acts {i : Instr} {f : State → State} {s : State} (h : wellFormed s.build i = true) (ha : acts s i = true) :
    run i f s = .next (concluded (clearSent s) (f (clearSent s))) := by simp [run, h, ha]

/-- A command that cannot act now changes nothing. -/
theorem run_idle {i : Instr} {f : State → State} {s : State} (h : wellFormed s.build i = true) (ha : acts s i = false) :
    run i f s = .next s := by simp [run, h, ha]

/-- A command that names a unit the build has not stops. -/
theorem run_bad {i : Instr} {f : State → State} {s : State} (h : wellFormed s.build i = false) :
    run i f s = .fault .noSuchUnit := by simp [run, h]

/-- On a running block every command acts. -/
theorem acts_running {s : State} (h : Running s) (i : Instr) : acts s i = true := by
  obtain ⟨h1, h2, h3⟩ := h
  cases i <;> simp [acts, h1, h2, h3]

/-- A register command whose access completes with OK has its effect and answers OK. -/
theorem regCmd_ok {rq : Acc} {off : Nat} {v : Word} {f : State → State} {s : State} (hid : rq.id < 0xFFF0)
    (h : accessCode (cnt s 10) rq off true = 0) : regCmd rq off v f s = krpDone (f (cnt s 10)) rq.id 0 0 := by
  have : ¬ rq.id ≥ 0xFFF0 := by omega
  simp [regCmd, krpAccess, this, h]

/-- A register command whose access is denied has no effect and answers DENIED. -/
theorem regCmd_denied {rq : Acc} {off : Nat} {v : Word} {f : State → State} {s : State} (hid : rq.id < 0xFFF0)
    (h : accessCode (cnt s 10) rq off true = 1) : regCmd rq off v f s = krpDone (cnt s 10) rq.id 1 0 := by
  have : ¬ rq.id ≥ 0xFFF0 := by omega
  simp [regCmd, krpAccess, this, h]

/-- One that meets no register has no effect either and answers NOREG. -/
theorem regCmd_noReg {rq : Acc} {off : Nat} {v : Word} {f : State → State} {s : State} (hid : rq.id < 0xFFF0)
    (h : accessCode (cnt s 10) rq off true = 2) : regCmd rq off v f s = krpDone (cnt s 10) rq.id 2 0 := by
  have : ¬ rq.id ≥ 0xFFF0 := by omega
  simp [regCmd, krpAccess, this, h]

/-- What it takes to show that a command ends with an effect, where it can act. -/
theorem does_acts {c : Instr} {f g : State → State} {s : State} (h : exec c s = run c g s)
    (hw : wellFormed s.build c = true) (ha : acts s c = true) (he : g (clearSent s) = f (clearSent s)) : Does c s f := by
  unfold Does
  rw [h, run_acts hw ha, he]

/-- The same on a running block. -/
theorem does_of {c : Instr} {f g : State → State} {s : State} (h : exec c s = run c g s)
    (hw : wellFormed s.build c = true) (hr : Running s) (he : g (clearSent s) = f (clearSent s)) : Does c s f :=
  does_acts h hw (acts_running hr c) he

/-- The same of a register write. -/
theorem writes_of {c : Instr} {rq : Acc} {off : Nat} {v : Word} {f g : State → State} {s : State}
    (h : exec c s = run c (regCmd rq off v g) s) (hw : wellFormed s.build c = true) (hr : Running s) (hid : rq.id < 0xFFF0)
    (hc : accessCode (cnt (clearSent s) 10) rq off true = 0)
    (he : g (cnt (clearSent s) 10) = f (cnt (clearSent s) 10)) (hq : requester c = rq.id := by rfl) : Writes c s f := by
  unfold Writes
  exact does_of h hw hr (by rw [regCmd_ok hid hc, he, hq])

/-- The queue and the build are no part of an effect. -/
@[simp] theorem concluded_pending (a e : State) : (concluded a e).pending = a.pending := rfl
@[simp] theorem concluded_build (a e : State) : (concluded a e).build = a.build := rfl

/-- Every command is carried out by `run` with an effect of its own. -/
theorem exec_run (c : Instr) (s : State) : ∃ f, exec c s = run c f s := by
  cases c
  case regionVerifyDone => exact ⟨fun s => regionVerified (isReg s) s, rfl⟩
  case structTestTimeout n => exact ⟨fun s => structEnds s n 4, rfl⟩
  case selftestTimeout n => exact ⟨fun s => selfEnds s n 6 0, rfl⟩
  case reactionTimerExpiry n => exact ⟨fun s => reactExpires s n, rfl⟩
  case detailTimeout n => exact ⟨fun s => setDetail s n [] true, rfl⟩
  all_goals exact ⟨_, rfl⟩

/-- No command changes the build or the queue. -/
theorem run_next {c : Instr} {f : State → State} {s t : State} (h : run c f s = .next t) : t.build = s.build ∧ t.pending = s.pending := by
  unfold run at h
  split at h
  · cases h
  · split at h
    · cases h; exact ⟨rfl, rfl⟩
    · cases h; exact ⟨rfl, rfl⟩

/-- A step takes one command off the queue and changes neither the rest of it nor the build. -/
theorem step_next {s t : State} (h : step s = .next t) : t.build = s.build ∧ t.pending = s.pending.drop 1 := by
  unfold step at h
  split at h
  · cases h; simp [*]
  · rename_i c rest hp
    obtain ⟨f, hf⟩ := exec_run c { s with pending := rest }
    rw [hf] at h
    have := run_next h
    simp [hp, this]

/-- A run whose first step answers a next state goes on from it. -/
theorem run_succ {M : Host.Core} {k : Nat} {s s' : M.State} (h : M.step s = .next s') : M.run (k + 1) s = M.run k s' := by
  simp [Host.Core.run, h]

/-- A run whose first step stops has stopped. -/
theorem run_fault {M : Host.Core} {k : Nat} {s : M.State} {r} (h : M.step s = .fault r) : M.run (k + 1) s = .fault r := by
  simp [Host.Core.run, h]
theorem run_refused {M : Host.Core} {k : Nat} {s : M.State} {r} (h : M.step s = .refused r) : M.run (k + 1) s = .refused r := by
  simp [Host.Core.run, h]

/-- A register command whose access is denied completes so, with no effect. -/
theorem denies {c : Instr} {rq : Acc} {off : Nat} {v : Word} {g : State → State} {s : State}
    (h : exec c s = run c (regCmd rq off v g) s) (hw : wellFormed s.build c = true) (hr : Running s) (hid : rq.id < 0xFFF0)
    (hc : accessCode (cnt (clearSent s) 10) rq off true = 1) : Does c s fun a => krpDone (cnt a 10) rq.id 1 0 :=
  does_of h hw hr (regCmd_denied hid hc)

end Sys2Proof.Machine
end

