-- ==== Sys2Proof/Laws/Access.lean ====
section
/-! SUPPORT. What a write of each command register meets (R9, R486). -/
namespace Sys2Proof.Machine

set_option Elab.async false

set_option linter.unusedSimpArgs false
variable (s : State) (rq : Acc)

theorem access_001108 (h : rq.sec = true) : accessCode s rq 0x001108 true = 0 := by
  simp [accessCode, isReg, readReg, inTiles, viewGlobal, viewTime, viewMode, viewLadder, viewBring, viewFault, viewRecorder, viewStep, viewColl, viewCov, viewMirror, viewDma, viewConfig, viewMemtest, viewQrs, viewSec, viewObs, viewCas, viewSeq, riserStops, deniedAt, mailChannel, secureOnly, lockedNow, isArmed, h]

theorem access_001120 : accessCode s rq 0x001120 true = 0 := by
  simp [accessCode, isReg, readReg, inTiles, viewGlobal, viewTime, viewMode, viewLadder, viewBring, viewFault, viewRecorder, viewStep, viewColl, viewCov, viewMirror, viewDma, viewConfig, viewMemtest, viewQrs, viewSec, viewObs, viewCas, viewSeq, riserStops, deniedAt, mailChannel, secureOnly, lockedNow, isArmed]

theorem access_001130 : accessCode s rq 0x001130 true = 0 := by
  simp [accessCode, isReg, readReg, inTiles, viewGlobal, viewTime, viewMode, viewLadder, viewBring, viewFault, viewRecorder, viewStep, viewColl, viewCov, viewMirror, viewDma, viewConfig, viewMemtest, viewQrs, viewSec, viewObs, viewCas, viewSeq, riserStops, deniedAt, mailChannel, secureOnly, lockedNow, isArmed]

theorem access_001208 (h : rq.sec = true) : accessCode s rq 0x001208 true = 0 := by
  simp [accessCode, isReg, readReg, inTiles, viewGlobal, viewTime, viewMode, viewLadder, viewBring, viewFault, viewRecorder, viewStep, viewColl, viewCov, viewMirror, viewDma, viewConfig, viewMemtest, viewQrs, viewSec, viewObs, viewCas, viewSeq, riserStops, deniedAt, mailChannel, secureOnly, lockedNow, isArmed, h]

theorem access_001228 (h : rq.sec = true) : accessCode s rq 0x001228 true = 0 := by
  simp [accessCode, isReg, readReg, inTiles, viewGlobal, viewTime, viewMode, viewLadder, viewBring, viewFault, viewRecorder, viewStep, viewColl, viewCov, viewMirror, viewDma, viewConfig, viewMemtest, viewQrs, viewSec, viewObs, viewCas, viewSeq, riserStops, deniedAt, mailChannel, secureOnly, lockedNow, isArmed, h]

theorem access_001240 (h : rq.sec = true) : accessCode s rq 0x001240 true = 0 := by
  simp [accessCode, isReg, readReg, inTiles, viewGlobal, viewTime, viewMode, viewLadder, viewBring, viewFault, viewRecorder, viewStep, viewColl, viewCov, viewMirror, viewDma, viewConfig, viewMemtest, viewQrs, viewSec, viewObs, viewCas, viewSeq, riserStops, deniedAt, mailChannel, secureOnly, lockedNow, isArmed, h]

theorem access_001300 (h : rq.sec = true) : accessCode s rq 0x001300 true = 0 := by
  simp [accessCode, isReg, readReg, inTiles, viewGlobal, viewTime, viewMode, viewLadder, viewBring, viewFault, viewRecorder, viewStep, viewColl, viewCov, viewMirror, viewDma, viewConfig, viewMemtest, viewQrs, viewSec, viewObs, viewCas, viewSeq, riserStops, deniedAt, mailChannel, secureOnly, lockedNow, isArmed, h]

theorem access_010008 (h : rq.sec = true) : accessCode s rq 0x010008 true = 0 := by
  simp [accessCode, isReg, readReg, inTiles, viewGlobal, viewTime, viewMode, viewLadder, viewBring, viewFault, viewRecorder, viewStep, viewColl, viewCov, viewMirror, viewDma, viewConfig, viewMemtest, viewQrs, viewSec, viewObs, viewCas, viewSeq, riserStops, deniedAt, mailChannel, secureOnly, lockedNow, isArmed, h]

theorem access_010028 (h : rq.sec = true) : accessCode s rq 0x010028 true = 0 := by
  simp [accessCode, isReg, readReg, inTiles, viewGlobal, viewTime, viewMode, viewLadder, viewBring, viewFault, viewRecorder, viewStep, viewColl, viewCov, viewMirror, viewDma, viewConfig, viewMemtest, viewQrs, viewSec, viewObs, viewCas, viewSeq, riserStops, deniedAt, mailChannel, secureOnly, lockedNow, isArmed, h]

theorem access_010040 (h : rq.sec = true) : accessCode s rq 0x010040 true = 0 := by
  simp [accessCode, isReg, readReg, inTiles, viewGlobal, viewTime, viewMode, viewLadder, viewBring, viewFault, viewRecorder, viewStep, viewColl, viewCov, viewMirror, viewDma, viewConfig, viewMemtest, viewQrs, viewSec, viewObs, viewCas, viewSeq, riserStops, deniedAt, mailChannel, secureOnly, lockedNow, isArmed, h]

theorem access_010048 (h : rq.sec = true) : accessCode s rq 0x010048 true = 0 := by
  simp [accessCode, isReg, readReg, inTiles, viewGlobal, viewTime, viewMode, viewLadder, viewBring, viewFault, viewRecorder, viewStep, viewColl, viewCov, viewMirror, viewDma, viewConfig, viewMemtest, viewQrs, viewSec, viewObs, viewCas, viewSeq, riserStops, deniedAt, mailChannel, secureOnly, lockedNow, isArmed, h]

theorem access_020030 (h : rq.sec = true) : accessCode s rq 0x020030 true = 0 := by
  simp [accessCode, isReg, readReg, inTiles, viewGlobal, viewTime, viewMode, viewLadder, viewBring, viewFault, viewRecorder, viewStep, viewColl, viewCov, viewMirror, viewDma, viewConfig, viewMemtest, viewQrs, viewSec, viewObs, viewCas, viewSeq, riserStops, deniedAt, mailChannel, secureOnly, lockedNow, isArmed, h]

theorem access_020048 : accessCode s rq 0x020048 true = 0 := by
  simp [accessCode, isReg, readReg, inTiles, viewGlobal, viewTime, viewMode, viewLadder, viewBring, viewFault, viewRecorder, viewStep, viewColl, viewCov, viewMirror, viewDma, viewConfig, viewMemtest, viewQrs, viewSec, viewObs, viewCas, viewSeq, riserStops, deniedAt, mailChannel, secureOnly, lockedNow, isArmed]

theorem access_050000 : accessCode s rq 0x050000 true = 0 := by
  simp [accessCode, isReg, readReg, inTiles, viewGlobal, viewTime, viewMode, viewLadder, viewBring, viewFault, viewRecorder, viewStep, viewColl, viewCov, viewMirror, viewDma, viewConfig, viewMemtest, viewQrs, viewSec, viewObs, viewCas, viewSeq, riserStops, deniedAt, mailChannel, secureOnly, lockedNow, isArmed]

theorem access_050008 (h : s.step.eng.armed = false) : accessCode s rq 0x050008 true = 0 := by
  simp [accessCode, isReg, readReg, inTiles, viewGlobal, viewTime, viewMode, viewLadder, viewBring, viewFault, viewRecorder, viewStep, viewColl, viewCov, viewMirror, viewDma, viewConfig, viewMemtest, viewQrs, viewSec, viewObs, viewCas, viewSeq, riserStops, deniedAt, mailChannel, secureOnly, lockedNow, isArmed, h]

theorem access_050038 : accessCode s rq 0x050038 true = 0 := by
  simp [accessCode, isReg, readReg, inTiles, viewGlobal, viewTime, viewMode, viewLadder, viewBring, viewFault, viewRecorder, viewStep, viewColl, viewCov, viewMirror, viewDma, viewConfig, viewMemtest, viewQrs, viewSec, viewObs, viewCas, viewSeq, riserStops, deniedAt, mailChannel, secureOnly, lockedNow, isArmed]

theorem access_050048 : accessCode s rq 0x050048 true = 0 := by
  simp [accessCode, isReg, readReg, inTiles, viewGlobal, viewTime, viewMode, viewLadder, viewBring, viewFault, viewRecorder, viewStep, viewColl, viewCov, viewMirror, viewDma, viewConfig, viewMemtest, viewQrs, viewSec, viewObs, viewCas, viewSeq, riserStops, deniedAt, mailChannel, secureOnly, lockedNow, isArmed]

theorem access_050050 : accessCode s rq 0x050050 true = 0 := by
  simp [accessCode, isReg, readReg, inTiles, viewGlobal, viewTime, viewMode, viewLadder, viewBring, viewFault, viewRecorder, viewStep, viewColl, viewCov, viewMirror, viewDma, viewConfig, viewMemtest, viewQrs, viewSec, viewObs, viewCas, viewSeq, riserStops, deniedAt, mailChannel, secureOnly, lockedNow, isArmed]

theorem access_050810 : accessCode s rq 0x050810 true = 0 := by
  simp [accessCode, isReg, readReg, inTiles, viewGlobal, viewTime, viewMode, viewLadder, viewBring, viewFault, viewRecorder, viewStep, viewColl, viewCov, viewMirror, viewDma, viewConfig, viewMemtest, viewQrs, viewSec, viewObs, viewCas, viewSeq, riserStops, deniedAt, mailChannel, secureOnly, lockedNow, isArmed]

theorem access_050908 : accessCode s rq 0x050908 true = 0 := by
  simp [accessCode, isReg, readReg, inTiles, viewGlobal, viewTime, viewMode, viewLadder, viewBring, viewFault, viewRecorder, viewStep, viewColl, viewCov, viewMirror, viewDma, viewConfig, viewMemtest, viewQrs, viewSec, viewObs, viewCas, viewSeq, riserStops, deniedAt, mailChannel, secureOnly, lockedNow, isArmed]

theorem access_060010 : accessCode s rq 0x060010 true = 0 := by
  simp [accessCode, isReg, readReg, inTiles, viewGlobal, viewTime, viewMode, viewLadder, viewBring, viewFault, viewRecorder, viewStep, viewColl, viewCov, viewMirror, viewDma, viewConfig, viewMemtest, viewQrs, viewSec, viewObs, viewCas, viewSeq, riserStops, deniedAt, mailChannel, secureOnly, lockedNow, isArmed]

theorem access_060058 : accessCode s rq 0x060058 true = 0 := by
  simp [accessCode, isReg, readReg, inTiles, viewGlobal, viewTime, viewMode, viewLadder, viewBring, viewFault, viewRecorder, viewStep, viewColl, viewCov, viewMirror, viewDma, viewConfig, viewMemtest, viewQrs, viewSec, viewObs, viewCas, viewSeq, riserStops, deniedAt, mailChannel, secureOnly, lockedNow, isArmed]

theorem access_070018 (h : rq.sec = true) : accessCode s rq 0x070018 true = 0 := by
  simp [accessCode, isReg, readReg, inTiles, viewGlobal, viewTime, viewMode, viewLadder, viewBring, viewFault, viewRecorder, viewStep, viewColl, viewCov, viewMirror, viewDma, viewConfig, viewMemtest, viewQrs, viewSec, viewObs, viewCas, viewSeq, riserStops, deniedAt, mailChannel, secureOnly, lockedNow, isArmed, h]

theorem access_070020 (h : rq.sec = true) : accessCode s rq 0x070020 true = 0 := by
  simp [accessCode, isReg, readReg, inTiles, viewGlobal, viewTime, viewMode, viewLadder, viewBring, viewFault, viewRecorder, viewStep, viewColl, viewCov, viewMirror, viewDma, viewConfig, viewMemtest, viewQrs, viewSec, viewObs, viewCas, viewSeq, riserStops, deniedAt, mailChannel, secureOnly, lockedNow, isArmed, h]

theorem access_080008 (h : rq.sec = true) : accessCode s rq 0x080008 true = 0 := by
  simp [accessCode, isReg, readReg, inTiles, viewGlobal, viewTime, viewMode, viewLadder, viewBring, viewFault, viewRecorder, viewStep, viewColl, viewCov, viewMirror, viewDma, viewConfig, viewMemtest, viewQrs, viewSec, viewObs, viewCas, viewSeq, riserStops, deniedAt, mailChannel, secureOnly, lockedNow, isArmed, h]

theorem access_080010 (h : rq.sec = true) : accessCode s rq 0x080010 true = 0 := by
  simp [accessCode, isReg, readReg, inTiles, viewGlobal, viewTime, viewMode, viewLadder, viewBring, viewFault, viewRecorder, viewStep, viewColl, viewCov, viewMirror, viewDma, viewConfig, viewMemtest, viewQrs, viewSec, viewObs, viewCas, viewSeq, riserStops, deniedAt, mailChannel, secureOnly, lockedNow, isArmed, h]

theorem access_080038 (h : rq.sec = true) : accessCode s rq 0x080038 true = 0 := by
  simp [accessCode, isReg, readReg, inTiles, viewGlobal, viewTime, viewMode, viewLadder, viewBring, viewFault, viewRecorder, viewStep, viewColl, viewCov, viewMirror, viewDma, viewConfig, viewMemtest, viewQrs, viewSec, viewObs, viewCas, viewSeq, riserStops, deniedAt, mailChannel, secureOnly, lockedNow, isArmed, h]

theorem access_090008 : accessCode s rq 0x090008 true = 0 := by
  simp [accessCode, isReg, readReg, inTiles, viewGlobal, viewTime, viewMode, viewLadder, viewBring, viewFault, viewRecorder, viewStep, viewColl, viewCov, viewMirror, viewDma, viewConfig, viewMemtest, viewQrs, viewSec, viewObs, viewCas, viewSeq, riserStops, deniedAt, mailChannel, secureOnly, lockedNow, isArmed]

theorem access_090028 : accessCode s rq 0x090028 true = 0 := by
  simp [accessCode, isReg, readReg, inTiles, viewGlobal, viewTime, viewMode, viewLadder, viewBring, viewFault, viewRecorder, viewStep, viewColl, viewCov, viewMirror, viewDma, viewConfig, viewMemtest, viewQrs, viewSec, viewObs, viewCas, viewSeq, riserStops, deniedAt, mailChannel, secureOnly, lockedNow, isArmed]

theorem access_090100 (h : rq.sec = true) : accessCode s rq 0x090100 true = 0 := by
  simp [accessCode, isReg, readReg, inTiles, viewGlobal, viewTime, viewMode, viewLadder, viewBring, viewFault, viewRecorder, viewStep, viewColl, viewCov, viewMirror, viewDma, viewConfig, viewMemtest, viewQrs, viewSec, viewObs, viewCas, viewSeq, riserStops, deniedAt, mailChannel, secureOnly, lockedNow, isArmed, h]

theorem access_0A0008 (h : rq.sec = true) : accessCode s rq 0x0A0008 true = 0 := by
  simp [accessCode, isReg, readReg, inTiles, viewGlobal, viewTime, viewMode, viewLadder, viewBring, viewFault, viewRecorder, viewStep, viewColl, viewCov, viewMirror, viewDma, viewConfig, viewMemtest, viewQrs, viewSec, viewObs, viewCas, viewSeq, riserStops, deniedAt, mailChannel, secureOnly, lockedNow, isArmed, h]

theorem access_0B0000 (h : rq.sec = true) : accessCode s rq 0x0B0000 true = 0 := by
  simp [accessCode, isReg, readReg, inTiles, viewGlobal, viewTime, viewMode, viewLadder, viewBring, viewFault, viewRecorder, viewStep, viewColl, viewCov, viewMirror, viewDma, viewConfig, viewMemtest, viewQrs, viewSec, viewObs, viewCas, viewSeq, riserStops, deniedAt, mailChannel, secureOnly, lockedNow, isArmed, h]

theorem access_0B0010 (h : rq.sec = true) : accessCode s rq 0x0B0010 true = 0 := by
  simp [accessCode, isReg, readReg, inTiles, viewGlobal, viewTime, viewMode, viewLadder, viewBring, viewFault, viewRecorder, viewStep, viewColl, viewCov, viewMirror, viewDma, viewConfig, viewMemtest, viewQrs, viewSec, viewObs, viewCas, viewSeq, riserStops, deniedAt, mailChannel, secureOnly, lockedNow, isArmed, h]

theorem access_0B0038 (h : rq.sec = true) : accessCode s rq 0x0B0038 true = 0 := by
  simp [accessCode, isReg, readReg, inTiles, viewGlobal, viewTime, viewMode, viewLadder, viewBring, viewFault, viewRecorder, viewStep, viewColl, viewCov, viewMirror, viewDma, viewConfig, viewMemtest, viewQrs, viewSec, viewObs, viewCas, viewSeq, riserStops, deniedAt, mailChannel, secureOnly, lockedNow, isArmed, h]

theorem access_0B0048 (h : rq.sec = true) : accessCode s rq 0x0B0048 true = 0 := by
  simp [accessCode, isReg, readReg, inTiles, viewGlobal, viewTime, viewMode, viewLadder, viewBring, viewFault, viewRecorder, viewStep, viewColl, viewCov, viewMirror, viewDma, viewConfig, viewMemtest, viewQrs, viewSec, viewObs, viewCas, viewSeq, riserStops, deniedAt, mailChannel, secureOnly, lockedNow, isArmed, h]

theorem access_0C0010 (h : rq.sec = true) : accessCode s rq 0x0C0010 true = 0 := by
  simp [accessCode, isReg, readReg, inTiles, viewGlobal, viewTime, viewMode, viewLadder, viewBring, viewFault, viewRecorder, viewStep, viewColl, viewCov, viewMirror, viewDma, viewConfig, viewMemtest, viewQrs, viewSec, viewObs, viewCas, viewSeq, riserStops, deniedAt, mailChannel, secureOnly, lockedNow, isArmed, h]

theorem access_0D0020 (h : rq.sec = true) : accessCode s rq 0x0D0020 true = 0 := by
  simp [accessCode, isReg, readReg, inTiles, viewGlobal, viewTime, viewMode, viewLadder, viewBring, viewFault, viewRecorder, viewStep, viewColl, viewCov, viewMirror, viewDma, viewConfig, viewMemtest, viewQrs, viewSec, viewObs, viewCas, viewSeq, riserStops, deniedAt, mailChannel, secureOnly, lockedNow, isArmed, h]

theorem access_0D0080 (h : rq.sec = true) : accessCode s rq 0x0D0080 true = 0 := by
  simp [accessCode, isReg, readReg, inTiles, viewGlobal, viewTime, viewMode, viewLadder, viewBring, viewFault, viewRecorder, viewStep, viewColl, viewCov, viewMirror, viewDma, viewConfig, viewMemtest, viewQrs, viewSec, viewObs, viewCas, viewSeq, riserStops, deniedAt, mailChannel, secureOnly, lockedNow, isArmed, h]

/-- What a write of an acknowledgement in the window of a tile on a live riser meets (R14, R92). -/
theorem access_tile (s : State) (rq : Acc) (t off : Nat) (hb : s.build.ok = true) (ht : t < s.build.tiles) (hu : riserUp s t = true) (ho : off = 0x100018 + 0x400 * t ∨ off = 0x100040 + 0x400 * t) :
    accessCode s rq off true = 0 := by
  have h4 : t < 4096 := by simp [Build.ok] at hb; omega
  have e1 : inTiles off = true := by simp [inTiles]; omega
  have e2 : tileAt off = t := by simp [tileAt]; omega
  have e3 : off % 8 = 0 := by omega
  have hr : off = 0x100018 + 0x400 * t ∨ off = 0x100040 + 0x400 * t := ho
  have e4 : (off - 0x100000) % 0x400 = 0x18 ∨ (off - 0x100000) % 0x400 = 0x40 := by omega
  have e5 : isReg s off = true := by
    rcases e4 with e4 | e4 <;> simp [isReg, readReg, e1, e2, e3, ht, e4, viewTile, viewScreen]
  have e6 : deniedAt s rq off true = false := by
    have m : mailChannel off = none := by simp [mailChannel]; omega
    have b1 : off / 0x10000 ≥ 16 := by omega
    simp [deniedAt, m, secureOnly, lockedNow]
    have b2 : ∀ k < 16, ¬ off / 0x10000 = k := by omega
    refine ⟨fun h => by exfalso; omega, ?_⟩
    split
    · omega
    · split
      · omega
      · intro _; omega
  simp [accessCode, e5, riserStops, e1, e2, ht, hu, e6]

/-- An access to a tile window at or above PHYS_TILES meets no register (R486). -/
theorem access_unbuilt (s : State) (rq : Acc) (t off : Nat) (w : Bool) (ht : s.build.tiles ≤ t) (h4 : t < 4096)
    (h1 : 0x100000 + 0x400 * t ≤ off) (h2 : off < 0x100400 + 0x400 * t) : accessCode s rq off w = 2 := by
  have e1 : inTiles off = true := by simp [inTiles]; omega
  have e2 : tileAt off = t := by simp [tileAt]; omega
  simp [accessCode, isReg, readReg, e1, e2, Nat.not_lt.2 ht]

/-- What a write of a mailbox register that is not a sequencer's meets (R364, R369). -/
theorem access_mail (s : State) (rq : Acc) (c o off : Nat) (hc : c < 8) (hr : mbAllowed rq c = true)
    (ho : o = 0x00 ∨ o = 0x10 ∨ o = 0x20 ∨ o = 0x48 ∨ o = 0x50 ∨ o = 0x58) (hoff : off = 0x030000 + 0x100 * c + o) :
    accessCode s rq off true = 0 := by
  have e1 : inTiles off = false := by simp [inTiles]; omega
  have e2 : off % 8 = 0 := by omega
  have e3 : off / 0x10000 = 3 := by omega
  have e4 : (off - 0x030000) / 0x100 = c := by omega
  have e5 : (off - 0x030000) % 0x100 = o := by omega
  have e6 : off % 0x100 = o := by omega
  have e7 : (0x030000 ≤ off) ∧ off < 0x030800 := by omega
  have e8 : off ≠ 0x030800 := by omega
  have r : isReg s off = true := by
    rcases ho with h | h | h | h | h | h <;> simp [isReg, readReg, viewMail, e1, e2, e3, e4, e5, e7, e8, h]
  have d : deniedAt s rq off true = false := by
    rcases ho with h | h | h | h | h | h <;> simp [deniedAt, mailChannel, e4, e6, e7, hr, h]
  simp [accessCode, r, d, riserStops, e1]

/-- An access to the offset of a mailbox channel that there is not meets no register, MB_BLOCK_EPOCH apart (R375). -/
theorem access_noChannel (s : State) (rq : Acc) (c off : Nat) (w : Bool) (h8 : 8 ≤ c) (h256 : c < 256)
    (h1 : 0x030000 + 0x100 * c ≤ off) (h2 : off < 0x030100 + 0x100 * c) (he : off ≠ 0x030800) : accessCode s rq off w = 2 := by
  have e1 : inTiles off = false := by simp [inTiles]; omega
  have e2 : off / 0x10000 = 3 := by omega
  have e3 : ¬ off < 0x030800 := by omega
  have r : isReg s off = false := by
    unfold isReg readReg
    split
    · rfl
    · simp [e1, e2, viewMail, he, e3]
  simp [accessCode, r]

/-- A register of the secure side denies a write without the secure attribute. -/
theorem access_nonsecure {s : State} {rq : Acc} {off : Nat} (h : accessCode s { rq with sec := true } off true = 0)
    (hd : secureOnly off = true) (hm : mailChannel off = none) (hq : rq.sec = false) : accessCode s rq off true = 1 := by
  unfold accessCode at h ⊢
  have hdn : deniedAt s rq off true = true := by simp [deniedAt, hm, hd, hq]
  split at h
  · cases h
  · split at h
    · cases h
    · simp [*]

/-- So does a register of a secure mailbox channel. -/
theorem access_mail_nonsecure {s : State} {rq : Acc} {c o off : Nat} (hc : c < 4) (hq : rq.sec = false)
    (ho : o = 0x00 ∨ o = 0x10 ∨ o = 0x20 ∨ o = 0x48 ∨ o = 0x50 ∨ o = 0x58) (hoff : off = 0x030000 + 0x100 * c + o) :
    accessCode s rq off true = 1 := by
  have h := access_mail s { rq with sec := true } c o off (by omega) (by simp [mbAllowed]) ho hoff
  have e4 : (off - 0x030000) / 0x100 = c := by omega
  have e7 : (0x030000 ≤ off) ∧ off < 0x030800 := by omega
  have hdn : deniedAt s rq off true = true := by simp [deniedAt, mailChannel, e4, e7, mbAllowed, hq]; omega
  unfold accessCode at h ⊢
  split at h
  · cases h
  · split at h
    · cases h
    · rename_i h1 h2
      simp [h1, h2, hdn]

/-- Which offsets of the FAULT block hold a register depends on no state. -/
theorem viewFault_reg (s t : State) (off : Nat) : (viewFault s off).isSome = (viewFault t off).isSome := by
  simp only [viewFault, apply_ite Option.isSome, Option.isSome_some, Option.isSome_none]
  iterate 8 refine ite_congr rfl (fun _ => rfl) fun _ => ?_
  refine ite_congr rfl (fun _ => ?_) fun _ => rfl
  split <;> rfl

/-! ### What the step before sent shows in no register -/

section
variable (c : Instr) (s : State) (off n : Nat)

theorem viewStep_clearSent : viewStep (clearSent s) off = viewStep s off := by unfold viewStep; rfl
theorem viewCas_clearSent : viewCas (clearSent s) off = viewCas s off := by unfold viewCas; rfl
theorem viewIdent_clearSent : viewIdent (clearSent s) off = viewIdent s off := by unfold viewIdent; rfl
theorem viewTime_clearSent : viewTime (clearSent s) off = viewTime s off := by unfold viewTime; rfl
theorem viewMode_clearSent : viewMode (clearSent s) off = viewMode s off := by unfold viewMode; rfl
theorem viewLadder_clearSent : viewLadder (clearSent s) off = viewLadder s off := by unfold viewLadder; rfl
theorem viewBring_clearSent : viewBring (clearSent s) off = viewBring s off := by unfold viewBring; rfl
theorem viewFault_clearSent : viewFault (clearSent s) off = viewFault s off := by
  have e : reactView (clearSent s) = reactView s := rfl
  have e1 : faultStatus (clearSent s) = faultStatus s := rfl
  have e2 : (clearSent s).fault = s.fault := rfl
  unfold viewFault
  rw [e, e1, e2]
theorem viewRecorder_clearSent : viewRecorder (clearSent s) off = viewRecorder s off := by unfold viewRecorder; rfl
theorem viewMail_clearSent : viewMail (clearSent s) off = viewMail s off := by
  have e : mbox (clearSent s) = mbox s := rfl
  have e1 : (clearSent s).mail = s.mail := rfl
  unfold viewMail
  rw [e, e1]
theorem viewThermal_clearSent : viewThermal (clearSent s) off = viewThermal s off := by unfold viewThermal; rfl
theorem viewSupply_clearSent : viewSupply (clearSent s) off = viewSupply s off := by unfold viewSupply; rfl
theorem viewColl_clearSent : viewColl (clearSent s) off = viewColl s off := by unfold viewColl; rfl
theorem viewCov_clearSent : viewCov (clearSent s) off = viewCov s off := by unfold viewCov; rfl
theorem viewMirror_clearSent : viewMirror (clearSent s) off = viewMirror s off := by unfold viewMirror; rfl
theorem viewDma_clearSent : viewDma (clearSent s) off = viewDma s off := by
  have e : chan (clearSent s) = chan s := rfl
  have e1 : dmaStatus (clearSent s) = dmaStatus s := rfl
  have e2 : (clearSent s).dma = s.dma := rfl
  unfold viewDma
  rw [e, e1, e2]
theorem viewConfig_clearSent : viewConfig (clearSent s) off = viewConfig s off := by unfold viewConfig; rfl
theorem viewMemtest_clearSent : viewMemtest (clearSent s) off = viewMemtest s off := by unfold viewMemtest; rfl
theorem viewQrs_clearSent : viewQrs (clearSent s) off = viewQrs s off := by unfold viewQrs; rfl
theorem viewSec_clearSent : viewSec (clearSent s) off = viewSec s off := by unfold viewSec; rfl
theorem viewObs_clearSent : viewObs (clearSent s) off = viewObs s off := by unfold viewObs; rfl
theorem viewSeq_clearSent : viewSeq (clearSent s) off = viewSeq s off := by unfold viewSeq; rfl
theorem viewTile_clearSent : viewTile (clearSent s) n off = viewTile s n off := by unfold viewTile; rfl

theorem viewGlobal_clearSent : viewGlobal (clearSent s) off = viewGlobal s off := by
  unfold viewGlobal
  rw [viewTime_clearSent, viewMode_clearSent, viewLadder_clearSent, viewBring_clearSent]

theorem readReg_clearSent : readReg (clearSent s) off = readReg s off := by
  unfold readReg
  simp only [viewStep_clearSent, viewCas_clearSent, viewIdent_clearSent, viewFault_clearSent, viewRecorder_clearSent, viewMail_clearSent, viewThermal_clearSent, viewSupply_clearSent, viewColl_clearSent, viewCov_clearSent, viewMirror_clearSent, viewDma_clearSent, viewConfig_clearSent, viewMemtest_clearSent, viewQrs_clearSent, viewSec_clearSent, viewObs_clearSent, viewSeq_clearSent, viewTile_clearSent, viewGlobal_clearSent]
  rfl

@[simp] theorem accessCode_clearSent (rq : Acc) (w : Bool) : accessCode (clearSent s) rq off w = accessCode s rq off w := by
  unfold accessCode isReg
  rw [readReg_clearSent]
  rfl

/-- A count and what was sent have nothing to do with each other. -/
theorem cnt_clearSent (k : Nat) : cnt (clearSent s) k = clearSent (cnt s k) := by
  unfold cnt
  split
  · rename_i h; rw [if_pos (show s.obs.running = true from h)]; rfl
  · rename_i h; rw [if_neg (show ¬ s.obs.running = true from h)]

end

end Sys2Proof.Machine
end

