-- ==== Sys2Proof/Laws/Dma.lean ====
section
/-! SUPPORT. What the DMA channels can change: themselves, the work they raise, the latches of the sequencers and the
counters; and what a journal record can change besides. -/
namespace Sys2Proof.Machine

set_option Elab.async false

/-- Everything that no DMA channel changes. -/
def offDma (s : State) : State := { s with dma := {}, work := [], seq := {}, obs := {} }

variable (s : State)

@[simp] theorem offDma_post (w : Work) : offDma (post s w) = offDma s := rfl
@[simp] theorem offDma_raise (c : Cap) : offDma (raise s c) = offDma s := rfl
@[simp] theorem offDma_raiseI (code master addr : Nat) (p : Option Nat) : offDma (raiseI s code master addr p) = offDma s := rfl
@[simp] theorem offDma_raisePort (code g b w : Nat) (p : Option Nat) : offDma (raisePort s code g b w p) = offDma s := rfl
@[simp] theorem offDma_raiseMem (code c a : Nat) (w : Bool) : offDma (raiseMem s code c a w) = offDma s := rfl
@[simp] theorem offDma_updChan (c : Nat) (f : Channel → Channel) : offDma (updChan s c f) = offDma s := rfl
@[simp] theorem offDma_modDma (f : Dma → Dma) : offDma (modDma s f) = offDma s := rfl
@[simp] theorem offDma_latch (n l : Nat) : offDma (latch s n l) = offDma s := rfl
@[simp] theorem offDma_cnt (i k : Nat) : offDma (cnt s i k) = offDma s := by unfold cnt; split <;> rfl

@[simp] theorem offDma_walkEnds (c : Nat) : offDma (walkEnds s c) = offDma s := rfl

@[simp] theorem offDma_dmaStops (c st : Nat) : offDma (dmaStops s c st) = offDma s := by
  unfold dmaStops; dsimp only; rw [offDma_updChan]; split <;> rfl

@[simp] theorem offDma_dmaEnds (c st : Nat) : offDma (dmaEnds s c st) = offDma s := by
  unfold dmaEnds; dsimp only; rw [offDma_post]; split <;> simp

@[simp] theorem offDma_dmaFault (c : Nat) (f : DmaFault) : offDma (dmaFault s c f) = offDma s := by
  have h : offDma (if f.code = 0 then s else raiseMem s f.code c f.addr f.write) = offDma s := by split <;> rfl
  unfold dmaFault; dsimp only; split <;> simpa using h

@[simp] theorem offDma_memIssue (c a p : Nat) (w : Bool) (x : DmaWait) (l : List Byte) :
    offDma (memIssue s c a p w x l) = offDma s := by
  unfold memIssue; dsimp only; rw [offDma_updChan, offDma_modDma]

@[simp] theorem offDma_dataIssue (c p j : Nat) (w : Bool) (l : List Byte) : offDma (dataIssue s c p j w l) = offDma s := by
  unfold dataIssue; split <;> simp

@[simp] theorem offDma_walkIssue (c a l t : Nat) (w : Bool) : offDma (walkIssue s c a l t w) = offDma s := by
  unfold walkIssue; dsimp only; split
  · rfl
  · split <;> simp

@[simp] theorem offDma_walkStart (c a : Nat) (w : Bool) : offDma (walkStart s c a w) = offDma s := by
  unfold walkStart; dsimp only; split <;> rw [offDma_walkIssue] <;> rfl

@[simp] theorem offDma_jobAccess (c a : Nat) (w : Bool) (l : List Byte) : offDma (jobAccess s c a w l) = offDma s := by
  unfold jobAccess; dsimp only; split
  · simp
  · split
    · simp
    · split <;> simp

@[simp] theorem offDma_granuleDone (c : Nat) : offDma (granuleDone s c) = offDma s := by
  unfold granuleDone; dsimp only; rw [offDma_updChan]
  repeat' split
  all_goals simp

@[simp] theorem offDma_dmaAdvance (c : Nat) : offDma (dmaAdvance s c) = offDma s := by
  unfold dmaAdvance; dsimp only
  split
  · simp
  · split
    · split
      · simp
      · simp
      · split <;> simp
    · split <;> simp

@[simp] theorem offDma_dmaForm (c : Nat) : offDma (dmaForm s c) = offDma s := by unfold dmaForm; split <;> simp

/-- A channel that runs changes nothing else. -/
@[simp] theorem offDma_dmaRun (f c : Nat) : offDma (dmaRun f c s) = offDma s := by
  induction f generalizing s with
  | zero => rfl
  | succ f ih =>
    unfold dmaRun; dsimp only
    split
    · rfl
    · split
      · split
        · rw [ih]; simp
        · rfl
      · split
        · rfl
        · rw [ih]; simp

/-- A descriptor that is posted changes nothing else. -/
@[simp] theorem offDma_dmaPost (c : Nat) (src dst ctl : Word) (w : DmaWork) (b : List Byte) :
    offDma (dmaPost c src dst ctl w b s) = offDma s := by
  unfold dmaPost; dsimp only
  split
  · split <;> rfl
  · split
    · simp [dmaGo]
    · rfl

/-- What the step engine holds besides its journal. -/
theorem step_of_offDma {a b : State} (h : offDma a = offDma b) : a.step = b.step := by
  have := congrArg State.step h
  exact this

@[simp] theorem dmaPost_step (c : Nat) (src dst ctl : Word) (w : DmaWork) (b : List Byte) :
    (dmaPost c src dst ctl w b s).step = s.step := step_of_offDma (offDma_dmaPost ..)

/-! ### The journal -/

/-- Everything that no journal record changes. -/
def offJnl (s : State) : State :=
  offDma { s with step := { s.step with jnl := {}, eng := { s.step.eng with jnlBad := false } } }

theorem offJnl_of_offDma {a b : State} (h : offDma a = offDma b) : offJnl a = offJnl b := by
  have hs := step_of_offDma h
  have e : ∀ x : State, offJnl x = { offDma x with step := { x.step with jnl := {}, eng := { x.step.eng with jnlBad := false } } } := fun _ => rfl
  rw [e, e, h, hs]

@[simp] theorem offJnl_modJnl (f : Journal → Journal) : offJnl (modJnl s f) = offJnl s := rfl
@[simp] theorem offJnl_updSlot (i : Nat) (f : Slot → Slot) : offJnl (updSlot s i f) = offJnl s := rfl
@[simp] theorem offJnl_post (w : Work) : offJnl (post s w) = offJnl s := rfl
@[simp] theorem offJnl_jnlFails (code : Nat) : offJnl (jnlFails s code) = offJnl s := rfl

/-- A record changes the journal, the channels, and what the step engine holds of records that could not be written. -/
@[simp] theorem offJnl_journalPut (r : JRec) : offJnl (journalPut r s) = offJnl s := by
  unfold journalPut; dsimp only
  split
  · rfl
  · split
    · rfl
    · split
      · rfl
      · unfold jnlPut
        rw [offJnl_of_offDma (offDma_dmaPost ..), offJnl_of_offDma (offDma_cnt ..)]
        rfl

@[simp] theorem offJnl_flushSigs : offJnl (flushSigs s) = offJnl s := by unfold flushSigs; split <;> simp
@[simp] theorem offJnl_flushColls : offJnl (flushColls s) = offJnl s := by unfold flushColls; split <;> simp
@[simp] theorem offJnl_flushPend : offJnl (flushPend s) = offJnl s := by simp [flushPend]

/-- A record leaves the step engine alone, but for whether one could not be written. -/
theorem eng_of_offJnl {a b : State} (h : offJnl a = offJnl b) :
    { a.step.eng with jnlBad := false } = { b.step.eng with jnlBad := false } := by
  have := congrArg (fun x => x.step.eng) h
  exact this

theorem journalPut_eng (r : JRec) :
    { (journalPut r s).step.eng with jnlBad := false } = { s.step.eng with jnlBad := false } :=
  eng_of_offJnl (offJnl_journalPut ..)

end Sys2Proof.Machine
end

