-- ==== Sys2Proof/Laws/Map.lean ====
section
/-! SUPPORT. Sparse arrays: a write is read back, leaves every other index alone, and keeps the canonical form. -/
namespace Sys2Proof.Machine

set_option Elab.async false

variable {α : Type} [DecidableEq α] {d : α}

/-- A written value that is not the default is read back. -/
theorem sget_sset_self {m : SMap α} {k : Nat} {v : α} (h : v ≠ d) : sget d (sset d m k v) k = v := by
  induction m with
  | nil => simp [sset, h, sget]
  | cons p r ih =>
    obtain ⟨i, x⟩ := p
    simp only [sset]
    split
    · simp [sget]
    · split
      · simp [sget]
      · rename_i h2; simp [sget, h2, ih]

/-- A write leaves every other index alone. -/
theorem sget_sset_of_ne {m : SMap α} {j k : Nat} {v : α} (h : j ≠ k) : sget d (sset d m k v) j = sget d m j := by
  have h' : (k == j) = false := by simpa using fun e => h e.symm
  induction m with
  | nil => simp only [sset]; split <;> simp [sget, h']
  | cons p r ih =>
    obtain ⟨i, x⟩ := p
    simp only [sset]
    split
    · split <;> simp [sget, h']
    · split
      · rename_i h2
        have h3 : i = k := by simpa using h2
        subst h3
        split <;> simp [sget, h']
      · simp [sget, ih]

/-- Nothing below the lowest index is listed. -/
theorem sget_of_lt {m : SMap α} {lo k : Nat} (hw : swfFrom d lo m = true) (h : k < lo) : sget d m k = d := by
  induction m generalizing lo with
  | nil => rfl
  | cons p r ih =>
    obtain ⟨i, x⟩ := p
    simp only [swfFrom, Bool.and_eq_true, decide_eq_true_eq] at hw
    have : (i == k) = false := by simpa using by omega
    simp only [sget, this]
    exact ih hw.2 (by omega)

/-- No default is listed. -/
theorem ne_of_mem {m : SMap α} {lo : Nat} {p : Nat × α} (hw : swfFrom d lo m = true) (h : p ∈ m) : p.2 ≠ d := by
  induction m generalizing lo with
  | nil => cases h
  | cons q r ih =>
    simp only [swfFrom, Bool.and_eq_true, decide_eq_true_eq] at hw
    rcases List.mem_cons.1 h with h | h
    · subst h; exact hw.1.2
    · exact ih hw.2 h

/-- What is listed is read. -/
theorem sget_of_mem {m : SMap α} {lo : Nat} {p : Nat × α} (hw : swfFrom d lo m = true) (h : p ∈ m) : sget d m p.1 = p.2 := by
  induction m generalizing lo with
  | nil => cases h
  | cons q r ih =>
    obtain ⟨i, x⟩ := q
    simp only [swfFrom, Bool.and_eq_true, decide_eq_true_eq] at hw
    rcases List.mem_cons.1 h with h | h
    · subst h; simp [sget]
    · have hi := ih hw.2 h
      by_cases he : i = p.1
      · have : sget d r p.1 = d := sget_of_lt hw.2 (by omega)
        exact absurd (hi.symm.trans this) (ne_of_mem hw.2 h)
      · have : (i == p.1) = false := by simpa using he
        simpa [sget, this] using hi

/-- The canonical form from a lower bound on. -/
theorem swfFrom_mono {m : SMap α} {lo hi : Nat} (h : lo ≤ hi) (hw : swfFrom d hi m = true) : swfFrom d lo m = true := by
  cases m with
  | nil => rfl
  | cons p r =>
    simp only [swfFrom, Bool.and_eq_true, decide_eq_true_eq] at hw ⊢
    exact ⟨⟨by omega, hw.1.2⟩, hw.2⟩

/-- A write keeps the canonical form. -/
theorem swfFrom_sset {m : SMap α} {lo k : Nat} {v : α} (h : lo ≤ k) (hw : swfFrom d lo m = true) :
    swfFrom d lo (sset d m k v) = true := by
  induction m generalizing lo with
  | nil => simp only [sset]; split <;> simp_all [swfFrom]
  | cons p r ih =>
    obtain ⟨i, x⟩ := p
    simp only [swfFrom, Bool.and_eq_true, decide_eq_true_eq] at hw
    simp only [sset]
    split
    · split
      · simp [swfFrom, hw]
      · simp only [swfFrom, Bool.and_eq_true, decide_eq_true_eq]
        exact ⟨⟨h, by assumption⟩, ⟨by omega, hw.1.2⟩, hw.2⟩
    · split
      · rename_i h2
        have h3 : i = k := by simpa using h2
        subst h3
        split
        · exact swfFrom_mono (by omega) hw.2
        · simp only [swfFrom, Bool.and_eq_true, decide_eq_true_eq]
          exact ⟨⟨h, by assumption⟩, hw.2⟩
      · rename_i h1 h2
        have h3 : ¬ i = k := by simpa using h2
        simp only [swfFrom, Bool.and_eq_true, decide_eq_true_eq]
        exact ⟨hw.1, ih (by omega) hw.2⟩

/-- A write keeps the canonical form. -/
theorem swf_sset {m : SMap α} {k : Nat} {v : α} (hw : swf d m = true) : swf d (sset d m k v) = true :=
  swfFrom_sset (Nat.zero_le _) hw

/-- Rewriting keeps the canonical form. -/
theorem swf_supd {m : SMap α} {k : Nat} {f : α → α} (hw : swf d m = true) : swf d (supd d m k f) = true := swf_sset hw

/-- On a canonical array every written value is read back. -/
theorem sget_sset_self' {m : SMap α} {k : Nat} {v : α} (hw : swf d m = true) : sget d (sset d m k v) k = v := by
  suffices ∀ lo, lo ≤ k → swfFrom d lo m = true → sget d (sset d m k v) k = v from this 0 (Nat.zero_le _) hw
  clear hw
  intro lo hlo hw
  by_cases h : v = d
  · subst h
    induction m generalizing lo with
    | nil => simp [sset, sget]
    | cons p r ih =>
      obtain ⟨i, x⟩ := p
      have hw' := hw
      simp only [swfFrom, Bool.and_eq_true, decide_eq_true_eq] at hw
      simp only [sset]
      split
      · have : (i == k) = false := by simpa using by omega
        simp only [if_true, sget, this]
        exact sget_of_lt hw.2 (by omega)
      · split
        · rename_i h2
          have h3 : i = k := by simpa using h2
          subst h3
          simp only [if_true]
          exact sget_of_lt hw.2 (by omega)
        · rename_i h1 h2
          simp only [sget, h2]
          have h3 : ¬ i = k := by simpa using h2
          exact ih (i + 1) (by omega) hw.2
  · exact sget_sset_self h

/-- On a canonical array, what is rewritten is read back. -/
theorem sget_supd_self {m : SMap α} {k : Nat} {f : α → α} (hw : swf d m = true) :
    sget d (supd d m k f) k = f (sget d m k) := sget_sset_self' hw

/-- Rewriting leaves every other index alone. -/
theorem sget_supd_of_ne {m : SMap α} {j k : Nat} {f : α → α} (h : j ≠ k) : sget d (supd d m k f) j = sget d m j :=
  sget_sset_of_ne h

end Sys2Proof.Machine
end

