-- ==== Sys2Proof/Laws/PerInstr.lean ====
section
/-! SUPPORT. For every command: a command that can happen on a build can happen on every build that is no smaller. -/
namespace Sys2Proof.Laws.Grows

open Machine (Build)

set_option Elab.async false

/-- What can happen on a build can happen on one with at least as many tiles, columns, partitions and MEM ports. -/
def Statement (i : Instr) : Prop :=
  ∀ b c : Build, b.tiles ≤ c.tiles → b.cols ≤ c.cols → b.partitions ≤ c.partitions → b.memPorts ≤ c.memPorts →
    wellFormed b i = true → wellFormed c i = true

/-- A list of columns of the smaller build is one of the larger. -/
theorem columns {b c : Build} (h : b.cols ≤ c.cols) {l : List Nat} (hl : (l.all fun x => decide (x < b.cols)) = true) :
    (l.all fun x => decide (x < c.cols)) = true := by
  simp only [List.all_eq_true, decide_eq_true_eq] at hl ⊢
  intro x hx
  have := hl x hx
  omega

/-- It has at least as many clusters. -/
theorem clusters {b c : Build} (h : b.tiles ≤ c.tiles) : b.clusters ≤ c.clusters := Nat.div_le_div_right h

theorem timeSample : ∀ value osc, Statement (.timeSample value osc) := by intro _ _ _ _ _ _ _ _ h; exact h
theorem timeLost : ∀ osc, Statement (.timeLost osc) := by intro _ _ _ _ _ _ _ h; exact h
theorem rateWindowEnd : ∀ spine slowest cluster, Statement (.rateWindowEnd spine slowest cluster) := by intro _ _ _ _ _ _ _ _ _ h; exact h
theorem riserDown : ∀ col, Statement (.riserDown col) := by intro _ b c _ _ _ _ h; simp [wellFormed] at h ⊢; omega
theorem tapDescWord : ∀ tile word last, Statement (.tapDescWord tile word last) := by intro _ _ _ b c _ _ _ _ h; simp [wellFormed] at h ⊢; omega
theorem tapBeat : ∀ tile stream opseq data scale last droppedAt skippedAt, Statement (.tapBeat tile stream opseq data scale last droppedAt skippedAt) := by intro _ _ _ _ _ _ _ _ b c _ _ _ _ h; simp [wellFormed] at h ⊢; omega
theorem pipOutcome : ∀ tile, Statement (.pipOutcome tile) := by intro _ b c _ _ _ _ h; simp [wellFormed] at h ⊢; omega
theorem verdictLate : ∀ kind tile, Statement (.verdictLate kind tile) := by intro _ _ b c _ _ _ _ h; simp [wellFormed] at h ⊢; omega
theorem beaconSample : ∀ tile value, Statement (.beaconSample tile value) := by intro _ _ b c _ _ _ _ h; simp [wellFormed] at h ⊢; omega
theorem hang : ∀ tile, Statement (.hang tile) := by intro _ b c _ _ _ _ h; simp [wellFormed] at h ⊢; omega
theorem tileRstReq : ∀ tile, Statement (.tileRstReq tile) := by intro _ b c _ _ _ _ h; simp [wellFormed] at h ⊢; omega
theorem tileRstReqFall : ∀ tile, Statement (.tileRstReqFall tile) := by intro _ b c _ _ _ _ h; simp [wellFormed] at h ⊢; omega
theorem fwdMarker : ∀ mb replay arg, Statement (.fwdMarker mb replay arg) := by intro _ _ _ _ _ _ _ _ _ h; exact h
theorem bwdMarker : ∀ mb item, Statement (.bwdMarker mb item) := by intro _ _ _ _ _ _ _ _ h; exact h
theorem exchMarker : ∀ item, Statement (.exchMarker item) := by intro _ _ _ _ _ _ _ h; exact h
theorem updMarker : ∀ item, Statement (.updMarker item) := by intro _ _ _ _ _ _ _ h; exact h
theorem endMarker : ∀ item, Statement (.endMarker item) := by intro _ _ _ _ _ _ _ h; exact h
theorem coverageSummary : Statement .coverageSummary := by intro _ _ _ _ _ _ h; exact h
theorem lossScalar : ∀ mb bits, Statement (.lossScalar mb bits) := by intro _ _ _ _ _ _ _ _ h; exact h
theorem gradNormScalar : ∀ item, Statement (.gradNormScalar item) := by intro _ _ _ _ _ _ _ h; exact h
theorem nonfiniteFlag : Statement .nonfiniteFlag := by intro _ _ _ _ _ _ h; exact h
theorem stepVerdict : Statement .stepVerdict := by intro _ _ _ _ _ _ h; exact h
theorem voteMsg : ∀ vote revote auth src, Statement (.voteMsg vote revote auth src) := by intro _ _ _ _ _ _ _ _ _ _ h; exact h
theorem voteAbsentTimeout : Statement .voteAbsentTimeout := by intro _ _ _ _ _ _ h; exact h
theorem backupAck : ∀ job step replayNo auth src, Statement (.backupAck job step replayNo auth src) := by intro _ _ _ _ _ _ _ _ _ _ _ h; exact h
theorem backupWaitExpiry : Statement .backupWaitExpiry := by intro _ _ _ _ _ _ h; exact h
theorem decisionMsg : ∀ dec record auth src, Statement (.decisionMsg dec record auth src) := by intro _ _ _ _ _ _ _ _ _ _ h; exact h
theorem decisionTimeout : Statement .decisionTimeout := by intro _ _ _ _ _ _ h; exact h
theorem voteLost : Statement .voteLost := by intro _ _ _ _ _ _ h; exact h
theorem decisionQuery : ∀ job step src auth, Statement (.decisionQuery job step src auth) := by intro _ _ _ _ _ _ _ _ _ _ h; exact h
theorem collReport : ∀ rep, Statement (.collReport rep) := by intro _ _ _ _ _ _ _ h; exact h
theorem undoCopyDone : Statement .undoCopyDone := by intro _ _ _ _ _ _ h; exact h
theorem undoRestoreDone : Statement .undoRestoreDone := by intro _ _ _ _ _ _ h; exact h
theorem updOpen : Statement .updOpen := by intro _ _ _ _ _ _ h; exact h
theorem tokenPresent : ∀ group tag, Statement (.tokenPresent group tag) := by intro _ _ _ _ _ _ _ _ h; exact h
theorem tokenRelease : Statement .tokenRelease := by intro _ _ _ _ _ _ h; exact h
theorem tokenOutTimeout : Statement .tokenOutTimeout := by intro _ _ _ _ _ _ h; exact h
theorem certDigestDone : ∀ u, Statement (.certDigestDone u) := by intro _ _ _ _ _ _ _ h; exact h
theorem stepArm : ∀ value rq, Statement (.stepArm value rq) := by intro _ _ _ _ _ _ _ _ h; exact h
theorem armPairWaitExpiry : Statement .armPairWaitExpiry := by intro _ _ _ _ _ _ h; exact h
theorem stepConfigWrite : ∀ value rq, Statement (.stepConfigWrite value rq) := by intro _ _ _ _ _ _ _ _ h; exact h
theorem stepSkip : ∀ step rq, Statement (.stepSkip step rq) := by intro _ _ _ _ _ _ _ _ h; exact h
theorem stepHalt : ∀ step rq, Statement (.stepHalt step rq) := by intro _ _ _ _ _ _ _ _ h; exact h
theorem stepDisarm : ∀ step rq, Statement (.stepDisarm step rq) := by intro _ _ _ _ _ _ _ _ h; exact h
theorem stepRecover : ∀ rq, Statement (.stepRecover rq) := by intro _ _ _ _ _ _ _ h; exact h
theorem stepJoin : ∀ step rq, Statement (.stepJoin step rq) := by intro _ _ _ _ _ _ _ _ h; exact h
theorem stepCert : ∀ step rq, Statement (.stepCert step rq) := by intro _ _ _ _ _ _ _ _ h; exact h
theorem stepFetch : ∀ step mb rq, Statement (.stepFetch step mb rq) := by intro _ _ _ _ _ _ _ _ _ h; exact h
theorem stepRevote : ∀ step rq, Statement (.stepRevote step rq) := by intro _ _ _ _ _ _ _ _ h; exact h
theorem resMismatchAck : ∀ tile value rq, Statement (.resMismatchAck tile value rq) := by intro _ _ _ _ _ _ _ _ _ h; exact h
theorem pipMismatchAck : ∀ tile value rq, Statement (.pipMismatchAck tile value rq) := by intro _ _ _ _ _ _ _ _ _ h; exact h
theorem collMismatchAck : ∀ value rq, Statement (.collMismatchAck value rq) := by intro _ _ _ _ _ _ _ _ h; exact h
theorem stepCovAck : ∀ value rq, Statement (.stepCovAck value rq) := by intro _ _ _ _ _ _ _ _ h; exact h
theorem stepVerdictAck : ∀ value rq, Statement (.stepVerdictAck value rq) := by intro _ _ _ _ _ _ _ _ h; exact h
theorem stepDecisionAck : ∀ value rq, Statement (.stepDecisionAck value rq) := by intro _ _ _ _ _ _ _ _ h; exact h
theorem mirrorCheckAck : ∀ value rq, Statement (.mirrorCheckAck value rq) := by intro _ _ _ _ _ _ _ _ h; exact h
theorem qrsEventAck : ∀ value rq, Statement (.qrsEventAck value rq) := by intro _ _ _ _ _ _ _ _ h; exact h
theorem modeRefusedAck : ∀ value rq, Statement (.modeRefusedAck value rq) := by intro _ _ _ _ _ _ _ _ h; exact h
theorem faultFirstAck : ∀ value rq, Statement (.faultFirstAck value rq) := by intro _ _ _ _ _ _ _ _ h; exact h
theorem hangEventAck : ∀ value rq, Statement (.hangEventAck value rq) := by intro _ _ _ _ _ _ _ _ h; exact h
theorem stopAck : ∀ value rq, Statement (.stopAck value rq) := by intro _ _ _ _ _ _ _ _ h; exact h
theorem configEventAck : ∀ value rq, Statement (.configEventAck value rq) := by intro _ _ _ _ _ _ _ _ h; exact h
theorem obsDumpResultAck : ∀ value rq, Statement (.obsDumpResultAck value rq) := by intro _ _ _ _ _ _ _ _ h; exact h
theorem melPair : ∀ arg rq, Statement (.melPair arg rq) := by intro _ _ _ _ _ _ _ _ h; exact h
theorem melRepair : ∀ rq, Statement (.melRepair rq) := by intro _ _ _ _ _ _ _ h; exact h
theorem melUnpair : ∀ rq, Statement (.melUnpair rq) := by intro _ _ _ _ _ _ _ h; exact h
theorem melPull : ∀ arg shards rq, Statement (.melPull arg shards rq) := by intro _ _ _ _ _ _ _ _ _ h; exact h
theorem melAbortPull : ∀ rq, Statement (.melAbortPull rq) := by intro _ _ _ _ _ _ _ h; exact h
theorem melHello : ∀ hello nbrId, Statement (.melHello hello nbrId) := by intro _ _ _ _ _ _ _ _ h; exact h
theorem melKey : ∀ ct pairSeq tagOk, Statement (.melKey ct pairSeq tagOk) := by intro _ _ _ _ _ _ _ _ _ h; exact h
theorem melFinish : ∀ pairSeq tagOk transcriptOk, Statement (.melFinish pairSeq tagOk transcriptOk) := by intro _ _ _ _ _ _ _ _ _ h; exact h
theorem melBeat : ∀ phase step pairSeq tagOk, Statement (.melBeat phase step pairSeq tagOk) := by intro _ _ _ _ _ _ _ _ _ _ h; exact h
theorem melNotice : ∀ step mb words pairSeq tagOk, Statement (.melNotice step mb words pairSeq tagOk) := by intro _ _ _ _ _ _ _ _ _ _ _ h; exact h
theorem melCommitted : ∀ com pairSeq tagOk, Statement (.melCommitted com pairSeq tagOk) := by intro _ _ _ _ _ _ _ _ _ h; exact h
theorem melNotCommitted : ∀ step decision pairSeq tagOk, Statement (.melNotCommitted step decision pairSeq tagOk) := by intro _ _ _ _ _ _ _ _ _ _ h; exact h
theorem melAuditSig : ∀ id sig pairSeq tagOk, Statement (.melAuditSig id sig pairSeq tagOk) := by intro _ _ _ _ _ _ _ _ _ _ h; exact h
theorem copyChunk : ∀ step chunk bytes pairSeq tagOk, Statement (.copyChunk step chunk bytes pairSeq tagOk) := by intro _ _ _ _ _ _ _ _ _ _ _ h; exact h
theorem copyAck : ∀ step chunk pairSeq tagOk, Statement (.copyAck step chunk pairSeq tagOk) := by intro _ _ _ _ _ _ _ _ _ _ h; exact h
theorem copyNack : ∀ step chunk pairSeq tagOk, Statement (.copyNack step chunk pairSeq tagOk) := by intro _ _ _ _ _ _ _ _ _ _ h; exact h
theorem copyEnd : ∀ step chunks digest pairSeq tagOk, Statement (.copyEnd step chunks digest pairSeq tagOk) := by intro _ _ _ _ _ _ _ _ _ _ _ h; exact h
theorem copyDone : ∀ step digest pairSeq tagOk, Statement (.copyDone step digest pairSeq tagOk) := by intro _ _ _ _ _ _ _ _ _ _ h; exact h
theorem pullReq : ∀ step lens pairSeq tagOk, Statement (.pullReq step lens pairSeq tagOk) := by intro _ _ _ _ _ _ _ _ _ _ h; exact h
theorem pullChunk : ∀ step chunk bytes pairSeq tagOk, Statement (.pullChunk step chunk bytes pairSeq tagOk) := by intro _ _ _ _ _ _ _ _ _ _ _ h; exact h
theorem pullEnd : ∀ step chunks digest notices pairSeq tagOk, Statement (.pullEnd step chunks digest notices pairSeq tagOk) := by intro _ _ _ _ _ _ _ _ _ _ _ _ h; exact h
theorem pullRefuse : ∀ cause pairSeq tagOk, Statement (.pullRefuse cause pairSeq tagOk) := by intro _ _ _ _ _ _ _ _ _ h; exact h
theorem helloTimer : Statement .helloTimer := by intro _ _ _ _ _ _ h; exact h
theorem beatTimer : Statement .beatTimer := by intro _ _ _ _ _ _ h; exact h
theorem melPairTimeout : Statement .melPairTimeout := by intro _ _ _ _ _ _ h; exact h
theorem keyingTimeout : Statement .keyingTimeout := by intro _ _ _ _ _ _ h; exact h
theorem melLinkLost : Statement .melLinkLost := by intro _ _ _ _ _ _ h; exact h
theorem chunkAckTimeout : Statement .chunkAckTimeout := by intro _ _ _ _ _ _ h; exact h
theorem mirrorCheckTimeout : Statement .mirrorCheckTimeout := by intro _ _ _ _ _ _ h; exact h
theorem copyGapTimeout : Statement .copyGapTimeout := by intro _ _ _ _ _ _ h; exact h
theorem qrsFence : ∀ logical tag rq, Statement (.qrsFence logical tag rq) := by intro _ _ _ _ _ _ _ _ _ h; exact h
theorem qrsStruct : ∀ tile tag rq, Statement (.qrsStruct tile tag rq) := by intro _ _ _ _ _ _ _ _ _ h; exact h
theorem qrsSelftest : ∀ tile tag rq, Statement (.qrsSelftest tile tag rq) := by intro _ _ _ _ _ _ _ _ _ h; exact h
theorem qrsReturnChecker : ∀ tile tag rq, Statement (.qrsReturnChecker tile tag rq) := by intro _ _ _ _ _ _ _ _ _ h; exact h
theorem qrsReconcile : ∀ word rq, Statement (.qrsReconcile word rq) := by intro _ _ _ _ _ _ _ _ h; exact h
theorem qrsCancel : ∀ word rq, Statement (.qrsCancel word rq) := by intro _ _ _ _ _ _ _ _ h; exact h
theorem structTestDone : ∀ pos responses, Statement (.structTestDone pos responses) := by intro _ _ b c _ _ _ _ h; simp [wellFormed] at h ⊢; omega
theorem structTestTimeout : ∀ pos, Statement (.structTestTimeout pos) := by intro _ b c _ _ _ _ h; simp [wellFormed] at h ⊢; omega
theorem selftestDone : ∀ pos clean injected, Statement (.selftestDone pos clean injected) := by intro _ _ _ b c _ _ _ _ h; simp only [wellFormed, Bool.and_eq_true, decide_eq_true_eq] at h ⊢; exact ⟨⟨⟨by omega, h.1.1.2⟩, h.1.2⟩, h.2⟩
theorem selftestTimeout : ∀ pos, Statement (.selftestTimeout pos) := by intro _ b c _ _ _ _ h; simp [wellFormed] at h ⊢; omega
theorem spareTestInterval : ∀ pos, Statement (.spareTestInterval pos) := by intro _ b c _ _ _ _ h; simp [wellFormed] at h ⊢; omega
theorem modeLevelReqWrite : ∀ value rq, Statement (.modeLevelReqWrite value rq) := by intro _ _ _ _ _ _ _ _ h; exact h
theorem modeQuiesce : ∀ rq, Statement (.modeQuiesce rq) := by intro _ _ _ _ _ _ _ h; exact h
theorem modeResume : ∀ rq, Statement (.modeResume rq) := by intro _ _ _ _ _ _ _ h; exact h
theorem reactionTimerExpiry : ∀ cls, Statement (.reactionTimerExpiry cls) := by intro _ _ _ _ _ _ _ h; exact h
theorem faultPendingWrite : ∀ value rq, Statement (.faultPendingWrite value rq) := by intro _ _ _ _ _ _ _ _ h; exact h
theorem faultEscalate : ∀ value rq, Statement (.faultEscalate value rq) := by intro _ _ _ _ _ _ _ _ h; exact h
theorem faultInject : ∀ value rq, Statement (.faultInject value rq) := by intro _ _ _ _ _ _ _ _ h; exact h
theorem collectorParity : Statement .collectorParity := by intro _ _ _ _ _ _ h; exact h
theorem collectorGrantTimeout : ∀ cap, Statement (.collectorGrantTimeout cap) := by intro _ _ _ _ _ _ _ h; exact h
theorem engRstAck : ∀ scope id, Statement (.engRstAck scope id) := by intro _ _ _ _ _ _ _ _ h; exact h
theorem partRstAck : ∀ part trained, Statement (.partRstAck part trained) := by intro _ _ b c _ hc hp _ h; simp only [wellFormed, Bool.and_eq_true, decide_eq_true_eq] at h ⊢; exact ⟨by omega, columns hc h.2⟩
theorem resetEngTimeout : Statement .resetEngTimeout := by intro _ _ _ _ _ _ h; exact h
theorem resetPartTimeout : Statement .resetPartTimeout := by intro _ _ _ _ _ _ h; exact h
theorem resetChipTimeout : Statement .resetChipTimeout := by intro _ _ _ _ _ _ h; exact h
theorem rstReqNotTaken : ∀ group, Statement (.rstReqNotTaken group) := by intro _ _ _ _ _ _ _ h; exact h
theorem crashDumpEnd : ∀ cut, Statement (.crashDumpEnd cut) := by intro _ _ _ _ _ _ _ h; exact h
theorem powerCycleAck : Statement .powerCycleAck := by intro _ _ _ _ _ _ h; exact h
theorem trayAckTimeout : Statement .trayAckTimeout := by intro _ _ _ _ _ _ h; exact h
theorem blkRstAssert : Statement .blkRstAssert := by intro _ _ _ _ _ _ h; exact h
theorem blkRstRelease : ∀ strap, Statement (.blkRstRelease strap) := by intro _ _ _ _ _ _ _ h; exact h
theorem porstAssert : Statement .porstAssert := by intro _ _ _ _ _ _ h; exact h
theorem porstRelease : ∀ strap, Statement (.porstRelease strap) := by intro _ _ _ _ _ _ _ h; exact h
theorem ladderStop : ∀ rq, Statement (.ladderStop rq) := by intro _ _ _ _ _ _ _ h; exact h
theorem stopTimeout : Statement .stopTimeout := by intro _ _ _ _ _ _ h; exact h
theorem dumpWritten : Statement .dumpWritten := by intro _ _ _ _ _ _ h; exact h
theorem searchReplay : ∀ value rq, Statement (.searchReplay value rq) := by intro _ _ _ _ _ _ _ _ h; exact h
theorem searchDone : ∀ rq, Statement (.searchDone rq) := by intro _ _ _ _ _ _ _ h; exact h
theorem searchEnd : ∀ rq, Statement (.searchEnd rq) := by intro _ _ _ _ _ _ _ h; exact h
theorem detailTimeout : ∀ seq, Statement (.detailTimeout seq) := by intro _ _ _ _ _ _ _ h; exact h
theorem emramWriteDone : ∀ ok, Statement (.emramWriteDone ok) := by intro _ _ _ _ _ _ _ h; exact h
theorem granaryScanDone : Statement .granaryScanDone := by intro _ _ _ _ _ _ h; exact h
theorem recorderRdSel : ∀ value rq, Statement (.recorderRdSel value rq) := by intro _ _ _ _ _ _ _ _ h; exact h
theorem recArchive : ∀ value rq, Statement (.recArchive value rq) := by intro _ _ _ _ _ _ _ _ h; exact h
theorem recVerify : ∀ value rq, Statement (.recVerify value rq) := by intro _ _ _ _ _ _ _ _ h; exact h
theorem recClear : ∀ value rq, Statement (.recClear value rq) := by intro _ _ _ _ _ _ _ _ h; exact h
theorem recorderCmdDone : Statement .recorderCmdDone := by intro _ _ _ _ _ _ h; exact h
theorem dmaPost : ∀ ch src dst ctl work buf, Statement (.dmaPost ch src dst ctl work buf) := by intro _ _ _ _ _ _ _ _ _ _ _ _ h; exact h
theorem memResponse : ∀ port id status data, Statement (.memResponse port id status data) := by intro _ _ _ _ b c _ _ _ _ h; simp [wellFormed] at h ⊢; omega
theorem memTimeout : ∀ ch, Statement (.memTimeout ch) := by intro _ _ _ _ _ _ _ h; exact h
theorem memReqTimeout : ∀ ch, Statement (.memReqTimeout ch) := by intro _ _ _ _ _ _ _ h; exact h
theorem dmaResume : ∀ ch rq, Statement (.dmaResume ch rq) := by intro _ _ _ _ _ _ _ _ h; exact h
theorem dmaAbandon : ∀ ch rq, Statement (.dmaAbandon ch rq) := by intro _ _ _ _ _ _ _ _ h; exact h
theorem xlateInvAll : ∀ rq, Statement (.xlateInvAll rq) := by intro _ _ _ _ _ _ _ h; exact h
theorem xlateInvRange : ∀ value rq, Statement (.xlateInvRange value rq) := by intro _ _ _ _ _ _ _ _ h; exact h
theorem configBegin : ∀ rq, Statement (.configBegin rq) := by intro _ _ _ _ _ _ _ h; exact h
theorem configReload : ∀ value rq, Statement (.configReload value rq) := by intro _ _ _ _ _ _ _ _ h; exact h
theorem configEnd : ∀ rq, Statement (.configEnd rq) := by intro _ _ _ _ _ _ _ h; exact h
theorem configAbort : ∀ rq, Statement (.configAbort rq) := by intro _ _ _ _ _ _ _ h; exact h
theorem configLoadData : ∀ word rq, Statement (.configLoadData word rq) := by intro _ _ _ _ _ _ _ _ h; exact h
theorem headerCheckDone : ∀ sigOk fuse, Statement (.headerCheckDone sigOk fuse) := by intro _ _ _ _ _ _ _ _ h; exact h
theorem loadTimeout : Statement .loadTimeout := by intro _ _ _ _ _ _ h; exact h
theorem drainEnd : ∀ region, Statement (.drainEnd region) := by intro _ _ _ _ _ _ _ h; exact h
theorem regionVerifyDone : Statement .regionVerifyDone := by intro _ _ _ _ _ _ h; exact h
theorem ldi : ∀ core, Statement (.ldi core) := by intro _ _ _ _ _ _ _ h; exact h
theorem shi : ∀ core, Statement (.shi core) := by intro _ _ _ _ _ _ _ h; exact h
theorem add : ∀ core, Statement (.add core) := by intro _ _ _ _ _ _ _ h; exact h
theorem sub : ∀ core, Statement (.sub core) := by intro _ _ _ _ _ _ _ h; exact h
theorem andR : ∀ core, Statement (.andR core) := by intro _ _ _ _ _ _ _ h; exact h
theorem orR : ∀ core, Statement (.orR core) := by intro _ _ _ _ _ _ _ h; exact h
theorem xorR : ∀ core, Statement (.xorR core) := by intro _ _ _ _ _ _ _ h; exact h
theorem sh : ∀ core, Statement (.sh core) := by intro _ _ _ _ _ _ _ h; exact h
theorem addi : ∀ core, Statement (.addi core) := by intro _ _ _ _ _ _ _ h; exact h
theorem ld : ∀ core, Statement (.ld core) := by intro _ _ _ _ _ _ _ h; exact h
theorem st : ∀ core, Statement (.st core) := by intro _ _ _ _ _ _ _ h; exact h
theorem ldb : ∀ core, Statement (.ldb core) := by intro _ _ _ _ _ _ _ h; exact h
theorem stb : ∀ core, Statement (.stb core) := by intro _ _ _ _ _ _ _ h; exact h
theorem cmp : ∀ core, Statement (.cmp core) := by intro _ _ _ _ _ _ _ h; exact h
theorem br : ∀ core, Statement (.br core) := by intro _ _ _ _ _ _ _ h; exact h
theorem jal : ∀ core, Statement (.jal core) := by intro _ _ _ _ _ _ _ h; exact h
theorem jr : ∀ core, Statement (.jr core) := by intro _ _ _ _ _ _ _ h; exact h
theorem waitR : ∀ core, Statement (.waitR core) := by intro _ _ _ _ _ _ _ h; exact h
theorem waitReturn : ∀ core, Statement (.waitReturn core) := by intro _ _ _ _ _ _ _ h; exact h
theorem sqTimer : ∀ core, Statement (.sqTimer core) := by intro _ _ _ _ _ _ _ h; exact h
theorem sqTime : ∀ core, Statement (.sqTime core) := by intro _ _ _ _ _ _ _ h; exact h
theorem post : ∀ core, Statement (.post core) := by intro _ _ _ _ _ _ _ h; exact h
theorem mbox : ∀ core, Statement (.mbox core) := by intro _ _ _ _ _ _ _ h; exact h
theorem esc : ∀ core, Statement (.esc core) := by intro _ _ _ _ _ _ _ h; exact h
theorem sqDma : ∀ core, Statement (.sqDma core) := by intro _ _ _ _ _ _ _ h; exact h
theorem raiseR : ∀ core, Statement (.raiseR core) := by intro _ _ _ _ _ _ _ h; exact h
theorem sqTimerExpiry : ∀ core n, Statement (.sqTimerExpiry core n) := by intro _ _ _ _ _ _ _ _ h; exact h
theorem sqStall : ∀ core watchdog, Statement (.sqStall core watchdog) := by intro _ _ _ _ _ _ _ _ h; exact h
theorem controlOverload : ∀ core latch, Statement (.controlOverload core latch) := by intro _ _ _ _ _ _ _ _ h; exact h
theorem seqRestart : ∀ core rq, Statement (.seqRestart core rq) := by intro _ _ _ _ _ _ _ _ h; exact h
theorem seqFreeze : ∀ core rq, Statement (.seqFreeze core rq) := by intro _ _ _ _ _ _ _ _ h; exact h
theorem seqThaw : ∀ core rq, Statement (.seqThaw core rq) := by intro _ _ _ _ _ _ _ _ h; exact h
theorem seqTraceSel : ∀ value rq, Statement (.seqTraceSel value rq) := by intro _ _ _ _ _ _ _ _ h; exact h
theorem mbInPtr : ∀ ch value rq, Statement (.mbInPtr ch value rq) := by intro _ _ _ _ _ _ _ _ _ h; exact h
theorem mbInDb : ∀ ch value rq, Statement (.mbInDb ch value rq) := by intro _ _ _ _ _ _ _ _ _ h; exact h
theorem mbInRxDone : ∀ ch value core, Statement (.mbInRxDone ch value core) := by intro _ _ _ _ _ _ _ _ _ h; exact h
theorem mbInDbClr : ∀ ch value core, Statement (.mbInDbClr ch value core) := by intro _ _ _ _ _ _ _ _ _ h; exact h
theorem mbOutRxDone : ∀ ch value rq, Statement (.mbOutRxDone ch value rq) := by intro _ _ _ _ _ _ _ _ _ h; exact h
theorem mbOutDb : ∀ ch value rq, Statement (.mbOutDb ch value rq) := by intro _ _ _ _ _ _ _ _ _ h; exact h
theorem collisionClear : ∀ ch outbound value rq, Statement (.collisionClear ch outbound value rq) := by intro _ _ _ _ _ _ _ _ _ _ h; exact h
theorem outAckWaitTimeout : ∀ ch, Statement (.outAckWaitTimeout ch) := by intro _ _ _ _ _ _ _ h; exact h
theorem krpRequest : ∀ id addr write data secure, Statement (.krpRequest id addr write data secure) := by intro _ _ _ _ _ _ _ _ _ _ _ h; exact h
theorem krpGrantTimeout : ∀ id addr write data secure, Statement (.krpGrantTimeout id addr write data secure) := by intro _ _ _ _ _ _ _ _ _ _ _ h; exact h
theorem krpRspTimeout : Statement .krpRspTimeout := by intro _ _ _ _ _ _ h; exact h
theorem registerWrite : ∀ addr data rq, Statement (.registerWrite addr data rq) := by intro _ _ _ _ _ _ _ _ _ h; exact h
theorem netAck : ∀ tag unreachable, Statement (.netAck tag unreachable) := by intro _ _ _ _ _ _ _ _ h; exact h
theorem netTimeout : ∀ tag, Statement (.netTimeout tag) := by intro _ _ _ _ _ _ _ h; exact h
theorem netBeatTimeout : ∀ tag, Statement (.netBeatTimeout tag) := by intro _ _ _ _ _ _ _ h; exact h
theorem tsensReading : ∀ id code, Statement (.tsensReading id code) := by intro _ _ _ _ _ _ _ _ h; exact h
theorem onDieSensorRead : ∀ k code, Statement (.onDieSensorRead k code) := by intro _ _ b c h1 _ _ _ h; simp only [wellFormed, Bool.and_eq_true, decide_eq_true_eq] at h ⊢; have := clusters h1; omega
theorem sensorTimeout : ∀ s_, Statement (.sensorTimeout s_) := by intro _ _ _ _ _ _ _ h; exact h
theorem sensorStuck : ∀ s_, Statement (.sensorStuck s_) := by intro _ _ _ _ _ _ _ h; exact h
theorem sensorRecover : ∀ s_, Statement (.sensorRecover s_) := by intro _ _ _ _ _ _ _ h; exact h
theorem keySeed : ∀ seed, Statement (.keySeed seed) := by intro _ _ _ _ _ _ _ h; exact h
theorem keySeedTimeout : Statement .keySeedTimeout := by intro _ _ _ _ _ _ h; exact h
theorem fuseMapTransfer : ∀ word, Statement (.fuseMapTransfer word) := by intro _ _ _ _ _ _ _ h; exact h
theorem fuseTimeout : Statement .fuseTimeout := by intro _ _ _ _ _ _ h; exact h
theorem tamperN : Statement .tamperN := by intro _ _ _ _ _ _ h; exact h
theorem railOut : ∀ r, Statement (.railOut r) := by intro _ _ _ _ _ _ _ h; exact h
theorem railIn : ∀ r, Statement (.railIn r) := by intro _ _ _ _ _ _ _ h; exact h
theorem emramInterlock : Statement .emramInterlock := by intro _ _ _ _ _ _ h; exact h
theorem clusterVddcOut : ∀ k, Statement (.clusterVddcOut k) := by intro _ b c h1 _ _ _ h; simp only [wellFormed, decide_eq_true_eq] at h ⊢; have := clusters h1; omega
theorem clusterVddcIn : ∀ k, Statement (.clusterVddcIn k) := by intro _ b c h1 _ _ _ h; simp only [wellFormed, decide_eq_true_eq] at h ⊢; have := clusters h1; omega
theorem droopWindow : ∀ mins rails, Statement (.droopWindow mins rails) := by intro _ _ _ _ _ _ _ _ h; exact h
theorem secLoadCert : ∀ cert sigOk sig rq, Statement (.secLoadCert cert sigOk sig rq) := by intro _ _ _ _ _ _ _ _ _ _ h; exact h
theorem secCommitState : ∀ written rq, Statement (.secCommitState written rq) := by intro _ _ _ _ _ _ _ _ h; exact h
theorem secSeal : ∀ written rq, Statement (.secSeal written rq) := by intro _ _ _ _ _ _ _ _ h; exact h
theorem secLock : ∀ written rq, Statement (.secLock written rq) := by intro _ _ _ _ _ _ _ _ h; exact h
theorem secReprovision : ∀ written rq, Statement (.secReprovision written rq) := by intro _ _ _ _ _ _ _ _ h; exact h
theorem secZeroise : ∀ rq, Statement (.secZeroise rq) := by intro _ _ _ _ _ _ _ h; exact h
theorem secUnwrap : ∀ blob tagOk key rq, Statement (.secUnwrap blob tagOk key rq) := by intro _ _ _ _ _ _ _ _ _ _ h; exact h
theorem secLoadPermit : ∀ permit sigOk rq, Statement (.secLoadPermit permit sigOk rq) := by intro _ _ _ _ _ _ _ _ _ h; exact h
theorem secClearPermits : ∀ rq, Statement (.secClearPermits rq) := by intro _ _ _ _ _ _ _ h; exact h
theorem huskDone : Statement .huskDone := by intro _ _ _ _ _ _ h; exact h
theorem casRetrain : ∀ rq, Statement (.casRetrain rq) := by intro _ _ _ _ _ _ _ h; exact h
theorem casEnum : ∀ count, Statement (.casEnum count) := by intro _ _ _ _ _ _ _ h; exact h
theorem enumTimeout : Statement .enumTimeout := by intro _ _ _ _ _ _ h; exact h
theorem roleEnumTimeout : Statement .roleEnumTimeout := by intro _ _ _ _ _ _ h; exact h
theorem heartbeat : ∀ gen chip, Statement (.heartbeat gen chip) := by intro _ _ _ _ _ _ _ _ h; exact h
theorem heartbeatTimer : Statement .heartbeatTimer := by intro _ _ _ _ _ _ h; exact h
theorem heartbeatMiss : Statement .heartbeatMiss := by intro _ _ _ _ _ _ h; exact h
theorem casHandshakeTimeout : Statement .casHandshakeTimeout := by intro _ _ _ _ _ _ h; exact h
theorem armCheck : ∀ src params, Statement (.armCheck src params) := by intro _ _ _ _ _ _ _ _ h; exact h
theorem armOk : ∀ job, Statement (.armOk job) := by intro _ _ _ _ _ _ _ h; exact h
theorem armRefused : ∀ job, Statement (.armRefused job) := by intro _ _ _ _ _ _ _ h; exact h
theorem armCheckTimeout : Statement .armCheckTimeout := by intro _ _ _ _ _ _ h; exact h
theorem casVerdict : ∀ src verdict point nfRepro z step replayNo, Statement (.casVerdict src verdict point nfRepro z step replayNo) := by intro _ _ _ _ _ _ _ _ _ _ _ _ _ h; exact h
theorem casVerdictTimeout : Statement .casVerdictTimeout := by intro _ _ _ _ _ _ h; exact h
theorem casDecision : ∀ word, Statement (.casDecision word) := by intro _ _ _ _ _ _ _ h; exact h
theorem casSummary : ∀ src pending safe validMax globalMax, Statement (.casSummary src pending safe validMax globalMax) := by intro _ _ _ _ _ _ _ _ _ _ _ h; exact h
theorem summaryTimer : Statement .summaryTimer := by intro _ _ _ _ _ _ h; exact h
theorem casStop : Statement .casStop := by intro _ _ _ _ _ _ h; exact h
theorem riserTrain : ∀ rq, Statement (.riserTrain rq) := by intro _ _ _ _ _ _ _ h; exact h
theorem fuseRead : ∀ rq, Statement (.fuseRead rq) := by intro _ _ _ _ _ _ _ h; exact h
theorem selftestAll : ∀ rq, Statement (.selftestAll rq) := by intro _ _ _ _ _ _ _ h; exact h
theorem structAll : ∀ part rq, Statement (.structAll part rq) := by intro _ _ _ _ _ _ _ _ h; exact h
theorem bringupDone : ∀ trained, Statement (.bringupDone trained) := by intro _ b c _ hc _ _ h; exact columns hc h
theorem memtestStart : ∀ suite rq, Statement (.memtestStart suite rq) := by intro _ _ _ _ _ _ _ _ h; exact h
theorem memtestAbort : ∀ rq, Statement (.memtestAbort rq) := by intro _ _ _ _ _ _ _ h; exact h
theorem memtestPauseEnd : Statement .memtestPauseEnd := by intro _ _ _ _ _ _ h; exact h
theorem memtestDone : Statement .memtestDone := by intro _ _ _ _ _ _ h; exact h
theorem cntClearStart : ∀ scope tag target rq, Statement (.cntClearStart scope tag target rq) := by intro _ _ _ _ _ _ _ _ _ _ h; exact h
theorem cntFreeze : ∀ scope tag target rq, Statement (.cntFreeze scope tag target rq) := by intro _ _ _ _ _ _ _ _ _ _ h; exact h
theorem cntRun : ∀ scope tag target rq, Statement (.cntRun scope tag target rq) := by intro _ _ _ _ _ _ _ _ _ _ h; exact h
theorem cntCmdDone : Statement .cntCmdDone := by intro _ _ _ _ _ _ h; exact h
theorem obsRingSel : ∀ value rq, Statement (.obsRingSel value rq) := by intro _ _ _ _ _ _ _ _ h; exact h
theorem dumpArm : ∀ list rq, Statement (.dumpArm list rq) := by intro _ _ _ _ _ _ _ _ h; exact h
theorem dumpCancel : ∀ rq, Statement (.dumpCancel rq) := by intro _ _ _ _ _ _ _ h; exact h
theorem statusRequest : Statement .statusRequest := by intro _ _ _ _ _ _ h; exact h
theorem mctpControl : ∀ cmd arg, Statement (.mctpControl cmd arg) := by intro _ _ _ _ _ _ _ _ h; exact h
theorem i3cCcc : ∀ code arg, Statement (.i3cCcc code arg) := by intro _ _ _ _ _ _ _ _ h; exact h
theorem jtagIdcode : Statement .jtagIdcode := by intro _ _ _ _ _ _ h; exact h
theorem jtagAccess : Statement .jtagAccess := by intro _ _ _ _ _ _ h; exact h
theorem jtagBypass : Statement .jtagBypass := by intro _ _ _ _ _ _ h; exact h
theorem instrumentInclude : ∀ inst, Statement (.instrumentInclude inst) := by intro _ _ _ _ _ _ _ h; exact h
theorem heartbeatNotReturned : Statement .heartbeatNotReturned := by intro _ _ _ _ _ _ h; exact h

end Sys2Proof.Laws.Grows
end

