-- ==== Sys2Proof/Laws/Post.lean ====
section
/-! SUPPORT. A work item that is raised shows in no register and in no judgement of a unit. -/
namespace Sys2Proof.Machine

set_option Elab.async false

section
variable (s : State)

@[simp] theorem post_opPoint (w_ : Work) (phase : Nat) (mb : Nat) : opPoint (post s w_) phase mb = opPoint s phase mb := rfl
@[simp] theorem post_runBusy (w_ : Work) (id : Nat) : runBusy (post s w_) id = runBusy s id := rfl
@[simp] theorem post_suspectChk (w_ : Work) (c : Nat) : suspectChk (post s w_) c = suspectChk s c := rfl
@[simp] theorem post_available (w_ : Work) (x : Nat) (c : Nat) : available (post s w_) x c = available s x c := rfl
@[simp] theorem post_recentTimes (w_ : Work) (a : Arb) : recentTimes (post s w_) a = recentTimes s a := rfl
@[simp] theorem post_arbStatus (w_ : Work) (n : Nat) : arbStatus (post s w_) n = arbStatus s n := rfl
@[simp] theorem post_areaGen (w_ : Work) (a : Nat) : areaGen (post s w_) a = areaGen s a := rfl
@[simp] theorem post_archiveCounts (w_ : Work) (area : Nat) (ws : List Word) : archiveCounts (post s w_) area ws = archiveCounts s area ws := rfl
@[simp] theorem post_fuseWordBad (w_ : Work) (w : Nat) (v : Word) : fuseWordBad (post s w_) w v = fuseWordBad s w v := rfl
@[simp] theorem post_viewBring (w_ : Work) (off : Nat) : viewBring (post s w_) off = viewBring s off := rfl
@[simp] theorem post_isMaster (w_ : Work) : isMaster (post s w_) = isMaster s := rfl
@[simp] theorem post_isMember (w_ : Work) : isMember (post s w_) = isMember s := rfl
@[simp] theorem post_armParamsOf (w_ : Work) : armParamsOf (post s w_) = armParamsOf s := rfl
@[simp] theorem post_memberVoted (w_ : Work) (i : Nat) : memberVoted (post s w_) i = memberVoted s i := rfl
@[simp] theorem post_memberVerdicts (w_ : Work) : memberVerdicts (post s w_) = memberVerdicts s := rfl
@[simp] theorem post_wordDecision (w_ : Work) (w : Word) : wordDecision (post s w_) w = wordDecision s w := rfl
@[simp] theorem post_pendingHigh (w_ : Work) : pendingHigh (post s w_) = pendingHigh s := rfl
@[simp] theorem post_summaryOf (w_ : Work) : summaryOf (post s w_) = summaryOf s := rfl
@[simp] theorem post_pkgTherm (w_ : Work) : pkgTherm (post s w_) = pkgTherm s := rfl
@[simp] theorem post_memberView (w_ : Work) (i : Nat) : memberView (post s w_) i = memberView s i := rfl
@[simp] theorem post_viewCas (w_ : Work) (off : Nat) : viewCas (post s w_) off = viewCas s off := rfl
@[simp] theorem post_collClass (w_ : Work) (r : Report) : collClass (post s w_) r = collClass s r := rfl
@[simp] theorem post_collBounded (w_ : Work) (r : Report) : collBounded (post s w_) r = collBounded s r := rfl
@[simp] theorem post_reportBad (w_ : Work) (r : Report) : reportBad (post s w_) r = reportBad s r := rfl
@[simp] theorem post_chainOf (w_ : Work) (r : Report) : chainOf (post s w_) r = chainOf s r := rfl
@[simp] theorem post_reduceFails (w_ : Work) (r : Report) (ins : List Report) : reduceFails (post s w_) r ins = reduceFails s r ins := rfl
@[simp] theorem post_sameValue (w_ : Work) (r : Report) (q : Report) : sameValue (post s w_) r q = sameValue s r q := rfl
@[simp] theorem post_firstColls (w_ : Work) : firstColls (post s w_) = firstColls s := rfl
@[simp] theorem post_journaledRes (w_ : Work) (r : Report) (k : Nat) : journaledRes (post s w_) r k = journaledRes s r k := rfl
@[simp] theorem post_contribsBefore (w_ : Work) (r : Report) : contribsBefore (post s w_) r = contribsBefore s r := rfl
@[simp] theorem post_viewColl (w_ : Work) (off : Nat) : viewColl (post s w_) off = viewColl s off := rfl
@[simp] theorem post_descLegal (w_ : Work) (c : Nat) (src : Word) (dst : Word) (ctl : Word) : descLegal (post s w_) c src dst ctl = descLegal s c src dst ctl := rfl
@[simp] theorem post_windowOf (w_ : Work) (a : Nat) : windowOf (post s w_) a = windowOf s a := rfl
@[simp] theorem post_tlbLeaf (w_ : Work) (a : Nat) : tlbLeaf (post s w_) a = tlbLeaf s a := rfl
@[simp] theorem post_tlbDir (w_ : Work) (a : Nat) : tlbDir (post s w_) a = tlbDir s a := rfl
@[simp] theorem post_memTaker (w_ : Work) (port : Nat) (id : Nat) : memTaker (post s w_) port id = memTaker s port id := rfl
@[simp] theorem post_freeId (w_ : Work) (port : Nat) : freeId (post s w_) port = freeId s port := rfl
@[simp] theorem post_dmaMayIssue (w_ : Work) : dmaMayIssue (post s w_) = dmaMayIssue s := rfl
@[simp] theorem post_dmaHeld (w_ : Work) (c : Nat) : dmaHeld (post s w_) c = dmaHeld s c := rfl
@[simp] theorem post_dmaRoom (w_ : Work) (c : Nat) : dmaRoom (post s w_) c = dmaRoom s c := rfl
@[simp] theorem post_walking (w_ : Work) : walking (post s w_) = walking s := rfl
@[simp] theorem post_dmaStatus (w_ : Work) : dmaStatus (post s w_) = dmaStatus s := rfl
@[simp] theorem post_mbCount (w_ : Work) : mbCount (post s w_) = mbCount s := rfl
@[simp] theorem post_inOrder (w_ : Work) (ph : Phase) (next : Nat) (bs : List Nat) (m : Marker) (b : Nat) : inOrder (post s w_) ph next bs m b = inOrder s ph next bs m b := rfl
@[simp] theorem post_uncheckedIn (w_ : Work) (i : Nat) : uncheckedIn (post s w_) i = uncheckedIn s i := rfl
@[simp] theorem post_uncheckedPred (w_ : Work) : uncheckedPred (post s w_) = uncheckedPred s := rfl
@[simp] theorem post_mnfPending (w_ : Work) : mnfPending (post s w_) = mnfPending s := rfl
@[simp] theorem post_startPoint (w_ : Work) (m : Marker) (b : Nat) : startPoint (post s w_) m b = startPoint s m b := rfl
@[simp] theorem post_continues (w_ : Work) (r : Run) (m : Marker) (b : Nat) : continues (post s w_) r m b = continues s r m b := rfl
@[simp] theorem post_markerBad (w_ : Work) (m : Marker) (b : Nat) (arg : Nat) : markerBad (post s w_) m b arg = markerBad s m b arg := rfl
@[simp] theorem post_digestBlocks (w_ : Work) : digestBlocks (post s w_) = digestBlocks s := rfl
@[simp] theorem post_updWait (w_ : Work) : updWait (post s w_) = updWait s := rfl
@[simp] theorem post_waitJob (w_ : Work) (w : ArmWait) : waitJob (post s w_) w = waitJob s w := rfl
@[simp] theorem post_casRowFails (w_ : Work) (job : Nat) : casRowFails (post s w_) job = casRowFails s job := rfl
@[simp] theorem post_pairReady (w_ : Work) : pairReady (post s w_) = pairReady s := rfl
@[simp] theorem post_namesStep (w_ : Work) (step : Nat) : namesStep (post s w_) step = namesStep s step := rfl
@[simp] theorem post_configured (w_ : Work) : configured (post s w_) = configured s := rfl
@[simp] theorem post_recRec (w_ : Work) (type : Nat) : recRec (post s w_) type = recRec s type := rfl
@[simp] theorem post_recFor (w_ : Work) (type : Nat) (step : Nat) : recFor (post s w_) type step = recFor s type step := rfl
@[simp] theorem post_recEpoch (w_ : Work) : recEpoch (post s w_) = recEpoch s := rfl
@[simp] theorem post_recDecision (w_ : Work) (n : Nat) (w : Word) : recDecision (post s w_) n w = recDecision s n w := rfl
@[simp] theorem post_recoverPoint (w_ : Work) : recoverPoint (post s w_) = recoverPoint s := rfl
@[simp] theorem post_recoverRun (w_ : Work) : recoverRun (post s w_) = recoverRun s := rfl
@[simp] theorem post_recCommits (w_ : Work) : recCommits (post s w_) = recCommits s := rfl
@[simp] theorem post_recAsks (w_ : Work) : recAsks (post s w_) = recAsks s := rfl
@[simp] theorem post_recBacks (w_ : Work) (d : JRec) : recBacks (post s w_) d = recBacks s d := rfl
@[simp] theorem post_certStep (w_ : Work) : certStep (post s w_) = certStep s := rfl
@[simp] theorem post_certBase (w_ : Work) : certBase (post s w_) = certBase s := rfl
@[simp] theorem post_covRecord (w_ : Work) (n : Nat) : covRecord (post s w_) n = covRecord s n := rfl
@[simp] theorem post_covTotals (w_ : Work) (ws : List Word) : covTotals (post s w_) ws = covTotals s ws := rfl
@[simp] theorem post_certBody (w_ : Work) : certBody (post s w_) = certBody s := rfl
@[simp] theorem post_stepStatus (w_ : Work) : stepStatus (post s w_) = stepStatus s := rfl
@[simp] theorem post_stepReq (w_ : Work) : stepReq (post s w_) = stepReq s := rfl
@[simp] theorem post_viewStep (w_ : Work) (off : Nat) : viewStep (post s w_) off = viewStep s off := rfl
@[simp] theorem post_epochOut (w_ : Work) : epochOut (post s w_) = epochOut s := rfl
@[simp] theorem post_reactWord (w_ : Work) (cls : Nat) : reactWord (post s w_) cls = reactWord s cls := rfl
@[simp] theorem post_react (w_ : Work) (cls : Nat) : react (post s w_) cls = react s cls := rfl
@[simp] theorem post_reactLeft (w_ : Work) (r : React) : reactLeft (post s w_) r = reactLeft s r := rfl
@[simp] theorem post_coalesces (w_ : Work) (c : Cap) : coalesces (post s w_) c = coalesces s c := rfl
@[simp] theorem post_cmdTarget (w_ : Work) (rung : Nat) (t : Nat) : cmdTarget (post s w_) rung t = cmdTarget s rung t := rfl
@[simp] theorem post_escalateOk (w_ : Work) (rung : Nat) (t : Nat) : escalateOk (post s w_) rung t = escalateOk s rung t := rfl
@[simp] theorem post_errLow (w_ : Work) : errLow (post s w_) = errLow s := rfl
@[simp] theorem post_faultIrq (w_ : Work) (ns : Bool) : faultIrq (post s w_) ns = faultIrq s ns := rfl
@[simp] theorem post_safeLow (w_ : Work) : safeLow (post s w_) = safeLow s := rfl
@[simp] theorem post_irqHigh (w_ : Work) (ns : Bool) : irqHigh (post s w_) ns = irqHigh s ns := rfl
@[simp] theorem post_faultStatus (w_ : Work) : faultStatus (post s w_) = faultStatus s := rfl
@[simp] theorem post_reactView (w_ : Work) (c : Nat) : reactView (post s w_) c = reactView s c := rfl
@[simp] theorem post_covWords (w_ : Work) (c : Cov) : covWords (post s w_) c = covWords s c := rfl
@[simp] theorem post_covBusy (w_ : Work) (no : Nat) : covBusy (post s w_) no = covBusy s no := rfl
@[simp] theorem post_viewCov (w_ : Work) (off : Nat) : viewCov (post s w_) off = viewCov s off := rfl
@[simp] theorem post_genBusy (w_ : Work) (id : Nat) : genBusy (post s w_) id = genBusy s id := rfl
@[simp] theorem post_genBad (w_ : Work) (id : Nat) : genBad (post s w_) id = genBad s id := rfl
@[simp] theorem post_genLatest (w_ : Work) (x : GateGen) : genLatest (post s w_) x = genLatest s x := rfl
@[simp] theorem post_groupDone (w_ : Work) : groupDone (post s w_) = groupDone s := rfl
@[simp] theorem post_watched (w_ : Work) (n : Nat) : watched (post s w_) n = watched s n := rfl
@[simp] theorem post_tileBeacon (w_ : Work) (n : Nat) : tileBeacon (post s w_) n = tileBeacon s n := rfl
@[simp] theorem post_hangSearch (w_ : Work) : hangSearch (post s w_) = hangSearch s := rfl
@[simp] theorem post_hangSuspect (w_ : Work) (i : Nat) : hangSuspect (post s w_) i = hangSuspect s i := rfl
@[simp] theorem post_jnlBase (w_ : Work) : jnlBase (post s w_) = jnlBase s := rfl
@[simp] theorem post_slotBytes (w_ : Work) : slotBytes (post s w_) = slotBytes s := rfl
@[simp] theorem post_undoBytes (w_ : Work) : undoBytes (post s w_) = undoBytes s := rfl
@[simp] theorem post_slotAddr (w_ : Work) (i : Nat) : slotAddr (post s w_) i = slotAddr s i := rfl
@[simp] theorem post_undoAddr (w_ : Work) (i : Nat) : undoAddr (post s w_) i = undoAddr s i := rfl
@[simp] theorem post_headerAt (w_ : Work) (type : Nat) : headerAt (post s w_) type = headerAt s type := rfl
@[simp] theorem post_slot (w_ : Work) (i : Nat) : slot (post s w_) i = slot s i := rfl
@[simp] theorem post_curSlot (w_ : Work) : curSlot (post s w_) = curSlot s := rfl
@[simp] theorem post_jnlUnwritten (w_ : Work) : jnlUnwritten (post s w_) = jnlUnwritten s := rfl
@[simp] theorem post_jHeader (w_ : Work) (r : JRec) : jHeader (post s w_) r = jHeader s r := rfl
@[simp] theorem post_jNonce (w_ : Work) (r : JRec) : jNonce (post s w_) r = jNonce s r := rfl
@[simp] theorem post_jBytes (w_ : Work) (r : JRec) : jBytes (post s w_) r = jBytes s r := rfl
@[simp] theorem post_jnlFits (w_ : Work) (r : JRec) : jnlFits (post s w_) r = jnlFits s r := rfl
@[simp] theorem post_jrec (w_ : Work) (type : Nat) (mb : Nat) (pay : JPay) : jrec (post s w_) type mb pay = jrec s type mb pay := rfl
@[simp] theorem post_stepRecs (w_ : Work) : stepRecs (post s w_) = stepRecs s := rfl
@[simp] theorem post_lastRec (w_ : Work) (type : Nat) : lastRec (post s w_) type = lastRec s type := rfl
@[simp] theorem post_journaled (w_ : Work) (logical : Nat) (id : OpId) : journaled (post s w_) logical id = journaled s logical id := rfl
@[simp] theorem post_noticeOf (w_ : Work) (step : Nat) (mb : Nat) : noticeOf (post s w_) step mb = noticeOf s step mb := rfl
@[simp] theorem post_fullTarget (w_ : Work) (t : Target) : fullTarget (post s w_) t = fullTarget s t := rfl
@[simp] theorem post_ladderStatus (w_ : Work) : ladderStatus (post s w_) = ladderStatus s := rfl
@[simp] theorem post_loadTable (w_ : Work) : loadTable (post s w_) = loadTable s := rfl
@[simp] theorem post_matchesPend (w_ : Work) (e : TableEntry) : matchesPend (post s w_) e = matchesPend s e := rfl
@[simp] theorem post_toLoad (w_ : Work) : toLoad (post s w_) = toLoad s := rfl
@[simp] theorem post_pendDiff (w_ : Work) (r : Nat) : pendDiff (post s w_) r = pendDiff s r := rfl
@[simp] theorem post_groupArbBusy (w_ : Work) (g : Nat) : groupArbBusy (post s w_) g = groupArbBusy s g := rfl
@[simp] theorem post_groupTesting (w_ : Work) (g : Nat) : groupTesting (post s w_) g = groupTesting s g := rfl
@[simp] theorem post_reloadAllowed (w_ : Work) (r : Nat) : reloadAllowed (post s w_) r = reloadAllowed s r := rfl
@[simp] theorem post_headerCheck (w_ : Work) (ws : List Word) (sigOk : Bool) (fuse : Nat) : headerCheck (post s w_) ws sigOk fuse = headerCheck s ws sigOk fuse := rfl
@[simp] theorem post_loadOffset (w_ : Work) : loadOffset (post s w_) = loadOffset s := rfl
@[simp] theorem post_configStatus (w_ : Work) : configStatus (post s w_) = configStatus s := rfl
@[simp] theorem post_configRegion (w_ : Work) (r : Nat) : configRegion (post s w_) r = configRegion s r := rfl
@[simp] theorem post_viewConfig (w_ : Work) (off : Nat) : viewConfig (post s w_) off = viewConfig s off := rfl
@[simp] theorem post_mbox (w_ : Work) (c : Nat) : mbox (post s w_) c = mbox s c := rfl
@[simp] theorem post_mailIrq (w_ : Work) (ns : Bool) : mailIrq (post s w_) ns = mailIrq s ns := rfl
@[simp] theorem post_mtRunning (w_ : Work) : mtRunning (post s w_) = mtRunning s := rfl
@[simp] theorem post_mtOwns (w_ : Work) (c : Nat) : mtOwns (post s w_) c = mtOwns s c := rfl
@[simp] theorem post_rangeRouted (w_ : Work) (base : Nat) (limit : Nat) : rangeRouted (post s w_) base limit = rangeRouted s base limit := rfl
@[simp] theorem post_viewMemtest (w_ : Work) (off : Nat) : viewMemtest (post s w_) off = viewMemtest s off := rfl
@[simp] theorem post_isPaired (w_ : Work) : isPaired (post s w_) = isPaired s := rfl
@[simp] theorem post_ownSlot (w_ : Work) : ownSlot (post s w_) = ownSlot s := rfl
@[simp] theorem post_partnerChip (w_ : Work) : partnerChip (post s w_) = partnerChip s := rfl
@[simp] theorem post_partnerRank (w_ : Work) : partnerRank (post s w_) = partnerRank s := rfl
@[simp] theorem post_pairJobOf (w_ : Work) : pairJobOf (post s w_) = pairJobOf s := rfl
@[simp] theorem post_ownRank (w_ : Work) : ownRank (post s w_) = ownRank s := rfl
@[simp] theorem post_bsDigest64 (w_ : Work) : bsDigest64 (post s w_) = bsDigest64 s := rfl
@[simp] theorem post_sourceEpoch (w_ : Work) : sourceEpoch (post s w_) = sourceEpoch s := rfl
@[simp] theorem post_rxSlotBytes (w_ : Work) : rxSlotBytes (post s w_) = rxSlotBytes s := rfl
@[simp] theorem post_rxSlotAddr (w_ : Work) (slot : Nat) : rxSlotAddr (post s w_) slot = rxSlotAddr s slot := rfl
@[simp] theorem post_noticeArea (w_ : Work) : noticeArea (post s w_) = noticeArea s := rfl
@[simp] theorem post_storeOpen (w_ : Work) (nonce : Nat) (bytes : List Byte) : storeOpen (post s w_) nonce bytes = storeOpen s nonce bytes := rfl
@[simp] theorem post_outChunks (w_ : Work) : outChunks (post s w_) = outChunks s := rfl
@[simp] theorem post_serveChunks (w_ : Work) : serveChunks (post s w_) = serveChunks s := rfl
@[simp] theorem post_noticeAt (w_ : Work) (step : Nat) (mb : Nat) : noticeAt (post s w_) step mb = noticeAt s step mb := rfl
@[simp] theorem post_ownEk (w_ : Work) : ownEk (post s w_) = ownEk s := rfl
@[simp] theorem post_ownHelloOf (w_ : Work) (nonce : Nat) : ownHelloOf (post s w_) nonce = ownHelloOf s nonce := rfl
@[simp] theorem post_helloCheck (w_ : Work) (h : Hello) (nbrId : Option Nat) : helloCheck (post s w_) h nbrId = helloCheck s h nbrId := rfl
@[simp] theorem post_transcript (w_ : Work) : transcript (post s w_) = transcript s := rfl
@[simp] theorem post_auditPair (w_ : Work) : auditPair (post s w_) = auditPair s := rfl
@[simp] theorem post_rxLeft (w_ : Work) : rxLeft (post s w_) = rxLeft s := rfl
@[simp] theorem post_mirrorStatus (w_ : Work) : mirrorStatus (post s w_) = mirrorStatus s := rfl
@[simp] theorem post_viewMirror (w_ : Work) (off : Nat) : viewMirror (post s w_) off = viewMirror s off := rfl
@[simp] theorem post_modeStatus (w_ : Work) : modeStatus (post s w_) = modeStatus s := rfl
@[simp] theorem post_sectionCode (w_ : Work) (k : Nat) : sectionCode (post s w_) k = sectionCode s k := rfl
@[simp] theorem post_modeRegions (w_ : Work) : modeRegions (post s w_) = modeRegions s := rfl
@[simp] theorem post_viewMode (w_ : Work) (off : Nat) : viewMode (post s w_) off = viewMode s off := rfl
@[simp] theorem post_cntTiles (w_ : Work) (scope : Nat) (target : Nat) : cntTiles (post s w_) scope target = cntTiles s scope target := rfl
@[simp] theorem post_cntScopeOk (w_ : Work) (scope : Nat) (target : Nat) : cntScopeOk (post s w_) scope target = cntScopeOk s scope target := rfl
@[simp] theorem post_runEntry (w_ : Work) (r : DumpRun) : runEntry (post s w_) r = runEntry s r := rfl
@[simp] theorem post_partLen (w_ : Work) (r : DumpRun) : partLen (post s w_) r = partLen s r := rfl
@[simp] theorem post_huskBytes (w_ : Work) (r : DumpRun) (draw : Nat) : huskBytes (post s w_) r draw = huskBytes s r draw := rfl
@[simp] theorem post_viewObs (w_ : Work) (off : Nat) : viewObs (post s w_) off = viewObs s off := rfl
@[simp] theorem post_tile (w_ : Work) (n : Nat) : tile (post s w_) n = tile s n := rfl
@[simp] theorem post_pos (w_ : Work) (n : Nat) : pos (post s w_) n = pos s n := rfl
@[simp] theorem post_logicalNum (w_ : Work) (n : Nat) : logicalNum (post s w_) n = logicalNum s n := rfl
@[simp] theorem post_now (w_ : Work) : now (post s w_) = now s := rfl
@[simp] theorem post_approx (w_ : Work) : approx (post s w_) = approx s := rfl
@[simp] theorem post_stamp (w_ : Work) : stamp (post s w_) = stamp s := rfl
@[simp] theorem post_ticks (w_ : Work) : ticks (post s w_) = ticks s := rfl
@[simp] theorem post_core (w_ : Work) (n : Nat) : core (post s w_) n = core s n := rfl
@[simp] theorem post_region (w_ : Work) (r : Nat) : region (post s w_) r = region s r := rfl
@[simp] theorem post_regActive (w_ : Work) (r : Nat) : regActive (post s w_) r = regActive s r := rfl
@[simp] theorem post_regUsable (w_ : Work) (r : Nat) : regUsable (post s w_) r = regUsable s r := rfl
@[simp] theorem post_regWord (w_ : Work) (r : Nat) (i : Nat) : regWord (post s w_) r i = regWord s r i := rfl
@[simp] theorem post_posEntry (w_ : Work) (n : Nat) : posEntry (post s w_) n = posEntry s n := rfl
@[simp] theorem post_topoUsable (w_ : Work) : topoUsable (post s w_) = topoUsable s := rfl
@[simp] theorem post_partOf (w_ : Work) (n : Nat) : partOf (post s w_) n = partOf s n := rfl
@[simp] theorem post_part (w_ : Work) (n : Nat) : part (post s w_) n = part s n := rfl
@[simp] theorem post_isSpare (w_ : Work) (n : Nat) : isSpare (post s w_) n = isSpare s n := rfl
@[simp] theorem post_logicalOf (w_ : Work) (n : Nat) : logicalOf (post s w_) n = logicalOf s n := rfl
@[simp] theorem post_partPositions (w_ : Work) (p : Nat) : partPositions (post s w_) p = partPositions s p := rfl
@[simp] theorem post_tgRecord (w_ : Work) (n : Nat) : tgRecord (post s w_) n = tgRecord s n := rfl
@[simp] theorem post_firstWest (w_ : Work) (n : Nat) : firstWest (post s w_) n = firstWest s n := rfl
@[simp] theorem post_pol (w_ : Work) (i : Nat) : pol (post s w_) i = pol s i := rfl
@[simp] theorem post_polReset (w_ : Work) : polReset (post s w_) = polReset s := rfl
@[simp] theorem post_polDomain (w_ : Work) : polDomain (post s w_) = polDomain s := rfl
@[simp] theorem post_polCompat (w_ : Work) : polCompat (post s w_) = polCompat s := rfl
@[simp] theorem post_polOrphanUnscreened (w_ : Work) : polOrphanUnscreened (post s w_) = polOrphanUnscreened s := rfl
@[simp] theorem post_polArbiter (w_ : Work) : polArbiter (post s w_) = polArbiter s := rfl
@[simp] theorem post_polBackup (w_ : Work) : polBackup (post s w_) = polBackup s := rfl
@[simp] theorem post_classOf (w_ : Work) (n : Nat) : classOf (post s w_) n = classOf s n := rfl
@[simp] theorem post_classAssigned (w_ : Work) (c : Nat) : classAssigned (post s w_) c = classAssigned s c := rfl
@[simp] theorem post_contractOf (w_ : Work) (n : Nat) : contractOf (post s w_) n = contractOf s n := rfl
@[simp] theorem post_jobMode (w_ : Work) : jobMode (post s w_) = jobMode s := rfl
@[simp] theorem post_isDecode (w_ : Work) : isDecode (post s w_) = isDecode s := rfl
@[simp] theorem post_isUndo (w_ : Work) : isUndo (post s w_) = isUndo s := rfl
@[simp] theorem post_mirMode (w_ : Work) : mirMode (post s w_) = mirMode s := rfl
@[simp] theorem post_secState (w_ : Work) : secState (post s w_) = secState s := rfl
@[simp] theorem post_recovery (w_ : Work) : recovery (post s w_) = recovery s := rfl
@[simp] theorem post_levelReq (w_ : Work) (c : Nat) : levelReq (post s w_) c = levelReq s c := rfl
@[simp] theorem post_levelDefault (w_ : Work) (c : Nat) : levelDefault (post s w_) c = levelDefault s c := rfl
@[simp] theorem post_classLevel (w_ : Work) (con : Nat) (replay : Bool) (forced : Bool) : classLevel (post s w_) con replay forced = classLevel s con replay forced := rfl
@[simp] theorem post_levelEff (w_ : Work) (c : Nat) : levelEff (post s w_) c = levelEff s c := rfl
@[simp] theorem post_levelEffWord (w_ : Work) : levelEffWord (post s w_) = levelEffWord s := rfl
@[simp] theorem post_lawActive (w_ : Work) : lawActive (post s w_) = lawActive s := rfl
@[simp] theorem post_groupServes (w_ : Work) (n : Nat) : groupServes (post s w_) n = groupServes s n := rfl
@[simp] theorem post_riserUp (w_ : Work) (n : Nat) : riserUp (post s w_) n = riserUp s n := rfl
@[simp] theorem post_clusterOut (w_ : Work) (n : Nat) : clusterOut (post s w_) n = clusterOut s n := rfl
@[simp] theorem post_isArmed (w_ : Work) : isArmed (post s w_) = isArmed s := rfl
@[simp] theorem post_chan (w_ : Work) (c : Nat) : chan (post s w_) c = chan s c := rfl
@[simp] theorem post_netMsg (w_ : Work) (tag : Nat) : netMsg (post s w_) tag = netMsg s tag := rfl
@[simp] theorem post_krpReady (w_ : Work) : krpReady (post s w_) = krpReady s := rfl
@[simp] theorem post_lockedNow (w_ : Work) (off : Nat) : lockedNow (post s w_) off = lockedNow s off := rfl
@[simp] theorem post_deniedAt (w_ : Work) (rq : Acc) (off : Nat) (write : Bool) : deniedAt (post s w_) rq off write = deniedAt s rq off write := rfl
@[simp] theorem post_remapOf (w_ : Work) (l : Nat) : remapOf (post s w_) l = remapOf s l := rfl
@[simp] theorem post_fenced (w_ : Work) (n : Nat) : fenced (post s w_) n = fenced s n := rfl
@[simp] theorem post_chkServes (w_ : Work) (n : Nat) : chkServes (post s w_) n = chkServes s n := rfl
@[simp] theorem post_adoptedBy (w_ : Work) (a : Nat) : adoptedBy (post s w_) a = adoptedBy s a := rfl
@[simp] theorem post_neighbours (w_ : Work) (n : Nat) : neighbours (post s w_) n = neighbours s n := rfl
@[simp] theorem post_eligible (w_ : Work) (a : Nat) : eligible (post s w_) a = eligible s a := rfl
@[simp] theorem post_chooseAdopter (w_ : Work) (n : Nat) (pref : Option Nat) : chooseAdopter (post s w_) n pref = chooseAdopter s n pref := rfl
@[simp] theorem post_chooseSpare (w_ : Work) (p : Nat) : chooseSpare (post s w_) p = chooseSpare s p := rfl
@[simp] theorem post_listed (w_ : Work) (n : Nat) : listed (post s w_) n = listed s n := rfl
@[simp] theorem post_unserved (w_ : Work) (n : Nat) : unserved (post s w_) n = unserved s n := rfl
@[simp] theorem post_structAllowed (w_ : Work) (n : Nat) : structAllowed (post s w_) n = structAllowed s n := rfl
@[simp] theorem post_chkIdle (w_ : Work) (n : Nat) : chkIdle (post s w_) n = chkIdle s n := rfl
@[simp] theorem post_selfAllowed (w_ : Work) (n : Nat) : selfAllowed (post s w_) n = selfAllowed s n := rfl
@[simp] theorem post_testsOpen (w_ : Work) (n : Nat) : testsOpen (post s w_) n = testsOpen s n := rfl
@[simp] theorem post_fuseBad (w_ : Work) (n : Nat) (chk : Bool) : fuseBad (post s w_) n chk = fuseBad s n chk := rfl
@[simp] theorem post_overrideOf (w_ : Work) (n : Nat) (chk : Bool) : overrideOf (post s w_) n chk = overrideOf s n chk := rfl
@[simp] theorem post_reconCounts (w_ : Work) : reconCounts (post s w_) = reconCounts s := rfl
@[simp] theorem post_katEntry (w_ : Work) (d : Desc) : katEntry (post s w_) d = katEntry s d := rfl
@[simp] theorem post_tileState (w_ : Work) (n : Nat) : tileState (post s w_) n = tileState s n := rfl
@[simp] theorem post_tileTest (w_ : Work) (n : Nat) : tileTest (post s w_) n = tileTest s n := rfl
@[simp] theorem post_spareP (w_ : Work) (p : Nat) : spareP (post s w_) p = spareP s p := rfl
@[simp] theorem post_remapView (w_ : Work) (l : Nat) : remapView (post s w_) l = remapView s l := rfl
@[simp] theorem post_qrsStatus (w_ : Work) : qrsStatus (post s w_) = qrsStatus s := rfl
@[simp] theorem post_viewQrs (w_ : Work) (off : Nat) : viewQrs (post s w_) off = viewQrs s off := rfl
@[simp] theorem post_entryFor (w_ : Work) (k : Nat) : entryFor (post s w_) k = entryFor s k := rfl
@[simp] theorem post_queued (w_ : Work) : queued (post s w_) = queued s := rfl
@[simp] theorem post_queueFull (w_ : Work) : queueFull (post s w_) = queueFull s := rfl
@[simp] theorem post_grnTag (w_ : Work) (cust : Nat) (ws : List Word) : grnTag (post s w_) cust ws = grnTag s cust ws := rfl
@[simp] theorem post_recBody (w_ : Work) (r : Rec) (first : Bool) : recBody (post s w_) r first = recBody s r first := rfl
@[simp] theorem post_recWords (w_ : Work) (r : Rec) (first : Bool) : recWords (post s w_) r first = recWords s r first := rfl
@[simp] theorem post_recValid (w_ : Work) (ws : List Word) : recValid (post s w_) ws = recValid s ws := rfl
@[simp] theorem post_writable (w_ : Work) : writable (post s w_) = writable s := rfl
@[simp] theorem post_inFirst (w_ : Work) (n : Nat) : inFirst (post s w_) n = inFirst s n := rfl
@[simp] theorem post_firstAt (w_ : Work) (n : Nat) : firstAt (post s w_) n = firstAt s n := rfl
@[simp] theorem post_validRecs (w_ : Work) : validRecs (post s w_) = validRecs s := rfl
@[simp] theorem post_indexWord (w_ : Work) (o : Nat) : indexWord (post s w_) o = indexWord s o := rfl
@[simp] theorem post_crashWord (w_ : Work) (o : Nat) : crashWord (post s w_) o = crashWord s o := rfl
@[simp] theorem post_slotWords (w_ : Work) (area : Nat) (slot : Nat) : slotWords (post s w_) area slot = slotWords s area slot := rfl
@[simp] theorem post_granBytes (w_ : Work) (o : Nat) : granBytes (post s w_) o = granBytes s o := rfl
@[simp] theorem post_recorderStatus (w_ : Work) : recorderStatus (post s w_) = recorderStatus s := rfl
@[simp] theorem post_viewRecorder (w_ : Work) (off : Nat) : viewRecorder (post s w_) off = viewRecorder s off := rfl
@[simp] theorem post_jnlKept (w_ : Work) : jnlKept (post s w_) = jnlKept s := rfl
@[simp] theorem post_resetRec (w_ : Work) : resetRec (post s w_) = resetRec s := rfl
@[simp] theorem post_supplyKept (w_ : Work) : supplyKept (post s w_) = supplyKept s := rfl
@[simp] theorem post_opOf (w_ : Work) (x : Nat) (uid : Nat) : opOf (post s w_) x uid = opOf s x uid := rfl
@[simp] theorem post_pipKeys (w_ : Work) : pipKeys (post s w_) = pipKeys s := rfl
@[simp] theorem post_reduction (w_ : Work) (p : Nat) : reduction (post s w_) p = reduction s p := rfl
@[simp] theorem post_pipDensity (w_ : Work) (n : Nat) (con : Contract) (lv : Level) (d : Desc) : pipDensity (post s w_) n con lv d = pipDensity s n con lv d := rfl
@[simp] theorem post_drawnGrains (w_ : Work) (d : Desc) (dens : Nat) : drawnGrains (post s w_) d dens = drawnGrains s d dens := rfl
@[simp] theorem post_chipNo (w_ : Work) : chipNo (post s w_) = chipNo s := rfl
@[simp] theorem post_instNo (w_ : Work) : instNo (post s w_) = instNo s := rfl
@[simp] theorem post_deviceId (w_ : Work) : deviceId (post s w_) = deviceId s := rfl
@[simp] theorem post_jobKeyFor (w_ : Work) (job : Nat) : jobKeyFor (post s w_) job = jobKeyFor s job := rfl
@[simp] theorem post_secTarget (w_ : Work) : secTarget (post s w_) = secTarget s := rfl
@[simp] theorem post_secBlank (w_ : Work) : secBlank (post s w_) = secBlank s := rfl
@[simp] theorem post_tamperLock (w_ : Work) : tamperLock (post s w_) = tamperLock s := rfl
@[simp] theorem post_reprovisionId (w_ : Work) : reprovisionId (post s w_) = reprovisionId s := rfl
@[simp] theorem post_attRoot (w_ : Work) : attRoot (post s w_) = attRoot s := rfl
@[simp] theorem post_ownKeys (w_ : Work) (cert : List Byte) : ownKeys (post s w_) cert = ownKeys s cert := rfl
@[simp] theorem post_unwrapKey (w_ : Work) (blob : List Byte) (key : List Byte) : unwrapKey (post s w_) blob key = unwrapKey s blob key := rfl
@[simp] theorem post_permitHeld (w_ : Work) (serial : Word) : permitHeld (post s w_) serial = permitHeld s serial := rfl
@[simp] theorem post_permitFor (w_ : Work) (name : Word) (job : Word) (step : Nat) : permitFor (post s w_) name job step = permitFor s name job step := rfl
@[simp] theorem post_secStatus (w_ : Work) : secStatus (post s w_) = secStatus s := rfl
@[simp] theorem post_viewSec (w_ : Work) (off : Nat) : viewSec (post s w_) off = viewSec s off := rfl
@[simp] theorem post_seqFrozen (w_ : Work) (n : Nat) : seqFrozen (post s w_) n = seqFrozen s n := rfl
@[simp] theorem post_traceEntry (w_ : Work) (c : Core) (w : Nat) (event : Nat) (faulted : Bool) : traceEntry (post s w_) c w event faulted = traceEntry s c w event faulted := rfl
@[simp] theorem post_viewSeq (w_ : Work) (off : Nat) : viewSeq (post s w_) off = viewSeq s off := rfl
@[simp] theorem post_dumpKeys (w_ : Work) : dumpKeys (post s w_) = dumpKeys s := rfl
@[simp] theorem post_dumpPlace (w_ : Work) (key : Nat) : dumpPlace (post s w_) key = dumpPlace s key := rfl
@[simp] theorem post_atMarker (w_ : Work) (key : Nat) : atMarker (post s w_) key = atMarker s key := rfl
@[simp] theorem post_chanAtRest (w_ : Work) (c : Nat) : chanAtRest (post s w_) c = chanAtRest s c := rfl
@[simp] theorem post_journalWork (w_ : Work) : journalWork (post s w_) = journalWork s := rfl
@[simp] theorem post_unitQuiet (w_ : Work) (u : Nat) : unitQuiet (post s w_) u = unitQuiet s u := rfl
@[simp] theorem post_tileQuiet (w_ : Work) (n : Nat) : tileQuiet (post s w_) n = tileQuiet s n := rfl
@[simp] theorem post_dumpEntryOf (w_ : Work) (key : Nat) (skipped : Bool) : dumpEntryOf (post s w_) key skipped = dumpEntryOf s key skipped := rfl
@[simp] theorem post_imageBytes (w_ : Work) (key : Nat) : imageBytes (post s w_) key = imageBytes s key := rfl
@[simp] theorem post_stopWord (w_ : Work) (busy : Bool) : stopWord (post s w_) busy = stopWord s busy := rfl
@[simp] theorem post_crashHeaderOf (w_ : Work) (status : Word) : crashHeaderOf (post s w_) status = crashHeaderOf s status := rfl
@[simp] theorem post_rail (w_ : Work) (r : Nat) : rail (post s w_) r = rail s r := rfl
@[simp] theorem post_allInRange (w_ : Work) : allInRange (post s w_) = allInRange s := rfl
@[simp] theorem post_clusterPositions (w_ : Work) (k : Nat) : clusterPositions (post s w_) k = clusterPositions s k := rfl
@[simp] theorem post_droopLimit (w_ : Work) : droopLimit (post s w_) = droopLimit s := rfl
@[simp] theorem post_supplyStatus (w_ : Work) : supplyStatus (post s w_) = supplyStatus s := rfl
@[simp] theorem post_viewSupply (w_ : Work) (off : Nat) : viewSupply (post s w_) off = viewSupply s off := rfl
@[simp] theorem post_replayNow (w_ : Work) : replayNow (post s w_) = replayNow s := rfl
@[simp] theorem post_forcedNow (w_ : Work) (n : Nat) (d : Desc) : forcedNow (post s w_) n d = forcedNow s n d := rfl
@[simp] theorem post_screener (w_ : Work) (n : Nat) : screener (post s w_) n = screener s n := rfl
@[simp] theorem post_counterOf (w_ : Work) (n : Nat) : counterOf (post s w_) n = counterOf s n := rfl
@[simp] theorem post_fateOf (w_ : Work) (n : Nat) (d : Desc) : fateOf (post s w_) n d = fateOf s n d := rfl
@[simp] theorem post_roundNow (w_ : Work) (n : Nat) : roundNow (post s w_) n = roundNow s n := rfl
@[simp] theorem post_holders (w_ : Work) (n : Nat) (num : Nat) : holders (post s w_) n num = holders s n num := rfl
@[simp] theorem post_openOps (w_ : Work) (f : Nat → Op → Bool) : openOps (post s w_) f = openOps s f := rfl
@[simp] theorem post_shellOp (w_ : Work) (o : Op) : shellOp (post s w_) o = shellOp s o := rfl
@[simp] theorem post_resStatus (w_ : Work) (n : Nat) : resStatus (post s w_) n = resStatus s n := rfl
@[simp] theorem post_pipStatus (w_ : Work) (n : Nat) : pipStatus (post s w_) n = pipStatus s n := rfl
@[simp] theorem post_viewScreen (w_ : Work) (n : Nat) (off : Nat) : viewScreen (post s w_) n off = viewScreen s n off := rfl
@[simp] theorem post_sensor (w_ : Work) (x : Nat) : sensor (post s w_) x = sensor s x := rfl
@[simp] theorem post_sensEntry (w_ : Work) (x : Nat) : sensEntry (post s w_) x = sensEntry s x := rfl
@[simp] theorem post_sensOn (w_ : Work) (x : Nat) : sensOn (post s w_) x = sensOn s x := rfl
@[simp] theorem post_sensMasked (w_ : Work) (x : Nat) : sensMasked (post s w_) x = sensMasked s x := rfl
@[simp] theorem post_sensPart (w_ : Work) (x : Nat) : sensPart (post s w_) x = sensPart s x := rfl
@[simp] theorem post_sensPartKnown (w_ : Work) (x : Nat) : sensPartKnown (post s w_) x = sensPartKnown s x := rfl
@[simp] theorem post_thermLaw (w_ : Work) : thermLaw (post s w_) = thermLaw s := rfl
@[simp] theorem post_ownValue (w_ : Work) (x : Nat) : ownValue (post s w_) x = ownValue s x := rfl
@[simp] theorem post_replBroken (w_ : Work) (x : Nat) : replBroken (post s w_) x = replBroken s x := rfl
@[simp] theorem post_sensValue (w_ : Work) (x : Nat) : sensValue (post s w_) x = sensValue s x := rfl
@[simp] theorem post_disagrees (w_ : Work) (x : Nat) : disagrees (post s w_) x = disagrees s x := rfl
@[simp] theorem post_judged (w_ : Work) (x : Nat) : judged (post s w_) x = judged s x := rfl
@[simp] theorem post_lawParts (w_ : Work) : lawParts (post s w_) = lawParts s := rfl
@[simp] theorem post_hottest (w_ : Work) (l : List Nat) : hottest (post s w_) l = hottest s l := rfl
@[simp] theorem post_lawOf (w_ : Work) (t : Nat) : lawOf (post s w_) t = lawOf s t := rfl
@[simp] theorem post_throttleOut (w_ : Work) (p : Nat) : throttleOut (post s w_) p = throttleOut s p := rfl
@[simp] theorem post_thermStatus (w_ : Work) : thermStatus (post s w_) = thermStatus s := rfl
@[simp] theorem post_sensorView (w_ : Work) (x : Nat) : sensorView (post s w_) x = sensorView s x := rfl
@[simp] theorem post_viewThermal (w_ : Work) (off : Nat) : viewThermal (post s w_) off = viewThermal s off := rfl
@[simp] theorem post_colPositions (w_ : Work) (c : Nat) : colPositions (post s w_) c = colPositions s c := rfl
@[simp] theorem post_sqAlive (w_ : Work) (n : Nat) : sqAlive (post s w_) n = sqAlive s n := rfl
@[simp] theorem post_globalStatus (w_ : Work) : globalStatus (post s w_) = globalStatus s := rfl
@[simp] theorem post_viewTime (w_ : Work) (off : Nat) : viewTime (post s w_) off = viewTime s off := rfl
@[simp] theorem post_verifyGroup (w_ : Work) (g : Nat) (ws : List Word) : verifyGroup (post s w_) g ws = verifyGroup s g ws := rfl
@[simp] theorem post_verifyPolicy (w_ : Work) (ws : List Word) : verifyPolicy (post s w_) ws = verifyPolicy s ws := rfl
@[simp] theorem post_verifyThermal (w_ : Work) (ws : List Word) : verifyThermal (post s w_) ws = verifyThermal s ws := rfl
@[simp] theorem post_verifyRegion (w_ : Work) (exists_ : Nat → Bool) (r : Nat) (ws : List Word) : verifyRegion exists_ (post s w_) r ws = verifyRegion exists_ s r ws := rfl
@[simp] theorem post_viewIdent (w_ : Work) (off : Nat) : viewIdent (post s w_) off = viewIdent s off := rfl
@[simp] theorem post_viewLadder (w_ : Work) (off : Nat) : viewLadder (post s w_) off = viewLadder s off := rfl
@[simp] theorem post_viewGlobal (w_ : Work) (off : Nat) : viewGlobal (post s w_) off = viewGlobal s off := rfl
@[simp] theorem post_tileRing (w_ : Work) (n : Nat) : tileRing (post s w_) n = tileRing s n := rfl
@[simp] theorem post_viewTile (w_ : Work) (n : Nat) (off : Nat) : viewTile (post s w_) n off = viewTile s n off := rfl
@[simp] theorem post_riserStops (w_ : Work) (off : Nat) : riserStops (post s w_) off = riserStops s off := rfl
@[simp] theorem post_jobSize (w_ : Work) : jobSize (post s w_) = jobSize s := rfl
@[simp] theorem post_treePos (w_ : Work) (root : Nat) : treePos (post s w_) root = treePos s root := rfl
@[simp] theorem post_rankAt (w_ : Work) (root : Nat) (q : Nat) : rankAt (post s w_) root q = rankAt s root q := rfl
@[simp] theorem post_chipOf (w_ : Work) (rank : Nat) : chipOf (post s w_) rank = chipOf s rank := rfl
@[simp] theorem post_ranksHeld (w_ : Work) (rs : List Nat) : ranksHeld (post s w_) rs = ranksHeld s rs := rfl
@[simp] theorem post_treeRanks (w_ : Work) (root : Nat) : treeRanks (post s w_) root = treeRanks s root := rfl
@[simp] theorem post_voteRanks (w_ : Work) : voteRanks (post s w_) = voteRanks s := rfl
@[simp] theorem post_chipVote (w_ : Work) (vs : List (Nat × Nat × Bool × Nat)) : chipVote (post s w_) vs = chipVote s vs := rfl
@[simp] theorem post_packageVote (w_ : Work) : packageVote (post s w_) = packageVote s := rfl
@[simp] theorem post_treeOf (w_ : Work) (re : Bool) : treeOf (post s w_) re = treeOf s re := rfl
@[simp] theorem post_rootOf (w_ : Work) (re : Bool) : rootOf (post s w_) re = rootOf s re := rfl
@[simp] theorem post_voteHears (w_ : Work) (job : Nat) (auth : Bool) : voteHears (post s w_) job auth = voteHears s job auth := rfl
@[simp] theorem post_thisRun (w_ : Work) (step : Nat) (replayNo : Nat) : thisRun (post s w_) step replayNo = thisRun s step replayNo := rfl
@[simp] theorem post_keepsDecisions (w_ : Work) : keepsDecisions (post s w_) = keepsDecisions s := rfl
@[simp] theorem post_recordedFor (w_ : Work) (step : Nat) (replayNo : Nat) : recordedFor (post s w_) step replayNo = recordedFor s step replayNo := rfl
@[simp] theorem post_stepDecisions (w_ : Work) : stepDecisions (post s w_) = stepDecisions s := rfl
@[simp] theorem post_accepts (w_ : Work) (d : Decision) : accepts (post s w_) d = accepts s d := rfl
@[simp] theorem post_absentVote (w_ : Work) (root : Nat) (c : Nat) : absentVote (post s w_) root c = absentVote s root c := rfl
@[simp] theorem post_verdictWord (w_ : Work) : verdictWord (post s w_) = verdictWord s := rfl
@[simp] theorem post_voteHeld (w_ : Work) : voteHeld (post s w_) = voteHeld s := rfl
@[simp] theorem post_opsIn (w_ : Work) (mark : Nat) : opsIn (post s w_) mark = opsIn s mark := rfl
@[simp] theorem post_verdictsIn (w_ : Work) : verdictsIn (post s w_) = verdictsIn s := rfl
@[simp] theorem post_verdictOf (w_ : Work) : verdictOf (post s w_) = verdictOf s := rfl
@[simp] theorem post_verdictDue (w_ : Work) : verdictDue (post s w_) = verdictDue s := rfl
@[simp] theorem post_stateSig (w_ : Work) : stateSig (post s w_) = stateSig s := rfl
@[simp] theorem post_lastReplay (w_ : Work) (n : Nat) : lastReplay (post s w_) n = lastReplay s n := rfl
@[simp] theorem post_epochBefore (w_ : Work) (n : Nat) : epochBefore (post s w_) n = epochBefore s n := rfl
@[simp] theorem post_tileBusy (w_ : Work) (n : Nat) : tileBusy (post s w_) n = tileBusy s n := rfl
@[simp] theorem post_replaying (w_ : Work) (n : Nat) : replaying (post s w_) n = replaying s n := rfl
@[simp] theorem post_suspectWork (w_ : Work) (n : Nat) (ctx : Nat) : suspectWork (post s w_) n ctx = suspectWork s n ctx := rfl

end

/-- What posting keeps, posting for every item of a list keeps. -/
theorem foldl_post_inv {α β : Type} (H : State → β) (hH : ∀ s w, H (post s w) = H s) (w : α → Work) (l : List α) (s : State) :
    H (l.foldl (fun b n => post b (w n)) s) = H s := by
  induction l generalizing s with
  | nil => rfl
  | cons a l ih => rw [List.foldl_cons, ih, hH]

@[simp] theorem cutWrite_supply (s : State) : (cutWrite s).supply = s.supply := by
  unfold cutWrite; split <;> rfl

end Sys2Proof.Machine
end

