-- ==== Sys2Proof/Laws/Quiet.lean ====
section
/-! SUPPORT. On a quiet block nothing follows a command that raises no work: the step ends in the command's effect. -/
namespace Sys2Proof.Machine

set_option Elab.async false

/-- A walk over a list that changes nothing leaves the state. -/
theorem forEach_same {α : Type} {f : State → α → State} {s : State} {l : List α} (h : ∀ x ∈ l, f s x = s) : forEach l s f = s := by
  unfold forEach
  induction l with
  | nil => rfl
  | cons a l ih => rw [List.foldl_cons, h a (by simp)]; exact ih fun x hx => h x (by simp [hx])

/-- On a quiet block no unit goes on by itself. -/
theorem settleUnits_quiet {e : State} (h : Quiet e) : settleUnits e = e := by
  obtain ⟨-, hg, hr, ht, ho, hd, -, -⟩ := h
  have h1 : watchSettle e = e := by
    apply forEach_same
    intro n hn
    obtain ⟨t, hm, rfl⟩ := List.mem_map.1 hn
    have h1 := (ht t hm).1
    unfold watchSettled at h1
    dsimp only at h1 ⊢
    split at h1
    · simp_all
    · rw [if_neg ‹_›]
      split
      · simp_all
      · rfl
  have h2 : overloadSettles e = e := by
    have : (upto 4).any (fun n => (core e n).overloadRaised && (core e n).latches &&& (core e n).mask == 0) = false := by
      rw [List.any_eq_false]; intro n hn; simp [ho n (by simpa [upto] using hn)]
    simp [overloadSettles, this]
  have h3 : adoptOrphans e = e := by
    have : (e.tiles.filter fun p => p.2.pos.orphan) = [] := by
      rw [List.filter_eq_nil_iff]; intro t hm; simp [(ht t hm).2.1]
    simp [adoptOrphans, this, forEach]
  have h7 : spareSettle e = e := by
    have : (e.tiles.filter fun t => t.2.pos.autoWait && testsOpen e t.1) = [] := by
      rw [List.filter_eq_nil_iff]; intro t hm; simp [(ht t hm).2.2.2.1]
    simp [spareSettle, this, forEach]
  have h8 : arbTests e = e := by
    have : (e.tiles.filter fun t => t.2.arb.state == .selfTest && !t.2.arb.tested) = [] := by
      rw [List.filter_eq_nil_iff]; intro t hm; simp only [(ht t hm).2.2.2.2]; decide
    simp [arbTests, this, forEach]
  have h4 : (e.tiles.filter fun t => t.2.pos.selfTest.isSome) = [] := by
    rw [List.filter_eq_nil_iff]; intro t hm; simp [(ht t hm).2.2.1]
  have h5 : gateLook e = e := by
    have : e.step.gate.held.map (fun t => if genBad e t.gen then { t with decided := some false } else t)
      = e.step.gate.held := by rw [hg]; rfl
    have hd : gateDrain 64 (modGate e fun g => { g with out := [] }) = modGate e fun g => { g with out := [] } := by
      simp only [gateDrain, modGate, hg]
    have hq : gateLook e = gateOffer e := by simp only [gateLook, modGate, this]
    rw [hq, gateOffer, hd]
    rfl
  have h6 : groupEnds e = e := by simp only [groupEnds, hd]; rfl
  simp only [settleUnits, h1, h2, h3, h7, h8, h4]
  simp [forEach, h5, h6, judgeRuns, hr]

/-- What `concluded` compares is the same in two states. -/
def SameAxes (a e : State) : Prop :=
  a.shell.blkRstLow = e.shell.blkRstLow ∧ a.shell.porstLow = e.shell.porstLow ∧ a.tiles = e.tiles ∧ a.mode.gen = e.mode.gen ∧
  a.step.eng = e.step.eng ∧ a.step.vote = e.step.vote ∧ a.step.cov.no = e.step.cov.no ∧ a.mirror.modeReg = e.mirror.modeReg ∧
  a.fault.safe = e.fault.safe ∧ levelEffWord a = levelEffWord e ∧ summaryOf a = summaryOf e

theorem drain_nil {e : State} (h : e.work = []) (f : Nat) : drain f e = e := by cases f <;> simp [drain, nextWork, h]

/-- The step ends in the effect. -/
theorem concluded_quiet {a e : State} (h : Quiet e) (hs : SameAxes a e) :
    concluded a e = { e with pending := a.pending, build := a.build } := by
  obtain ⟨s1, s2, s3, s4, s5, s6, s7, s8, s9, s10, s11⟩ := hs
  have hw : e.work = [] := h.1
  have hst : stopSettle e = e := by
    rcases h.2.2.2.2.2.2.1 with h | h <;> simp [stopSettle, h]
  have hax : axesChanged a e = 0 := by
    simp [axesChanged, jobMode, isUndo, mirMode, isArmed, s5, s8, s9, b2n]
  have hfe : settleFences a e = e := by
    have : (e.tiles.filter fun t => fenced a t.1 != fenced e t.1) = [] := by
      rw [List.filter_eq_nil_iff]; intro t _; simp [fenced, pos, tile, s3]
    simp [settleFences, this, forEach]
  have hge : settleGen a e = e := by simp [settleGen, hax, upto, forEach, s10]
  have hla : settleLatches a e = e := by simp [settleLatches, s4, s5, s7]
  have hsu : settleSummary a e = e := by simp [settleSummary, s11]
  have hse : settle a e = e := by
    simp only [settle, settleUnits_quiet h, drain_nil hw]
    simp [s1, s2, hst, hfe, hge, hla, hsu]
  unfold concluded
  rw [drain_nil hw, hse]
  split
  · rw [← hw]
  · rfl

/-- Counting an event changes the counters alone. -/
theorem cnt_eq (t : State) (i : Nat) : cnt t i = { t with obs := if t.obs.running then { t.obs with counts := supd 0 t.obs.counts i fun v => satAdd 48 v 1 } else t.obs } := by
  unfold cnt; split <;> rfl

/-- On a quiet block a register command whose effect raises no work ends in that effect. -/
theorem regCmd_quiet {c : Instr} {rq : Acc} {off : Nat} {v : Word} {g : State → State} {s t : State}
    (h : exec c s = run c (regCmd rq off v g) s) (hw : wellFormed s.build c = true) (hr : Running s) (hid : rq.id < 0xFFF0)
    (hc : accessCode (cnt (clearSent s) 10) rq off true = 0)
    (hq : Quiet (krpDone (g (cnt (clearSent s) 10)) rq.id 0 0))
    (hs : SameAxes (clearSent s) (krpDone (g (cnt (clearSent s) 10)) rq.id 0 0))
    (ht : { krpDone (g (cnt (clearSent s) 10)) rq.id 0 0 with pending := s.pending, build := s.build } = t) (hk : requester c = rq.id := by rfl) : exec c s = .next t := by
  have := writes_of (f := g) h hw hr hid hc rfl hk
  unfold Writes Does at this
  rw [this, hk, concluded_quiet hq hs]
  exact congrArg _ ht

end Sys2Proof.Machine
end

