-- ==== Sys2Proof/Laws/Sent.lean ====
section
/-! SUPPORT. What the units read does not depend on what the step before sent, nor on the counters of the instance. -/
namespace Sys2Proof.Machine

set_option Elab.async false

variable (s : State)

@[simp] theorem clearSent_opPoint  (phase : Nat) (mb : Nat) : opPoint (clearSent s) phase mb = opPoint s phase mb := rfl
@[simp] theorem clearSent_runBusy  (id : Nat) : runBusy (clearSent s) id = runBusy s id := rfl
@[simp] theorem clearSent_suspectChk  (c : Nat) : suspectChk (clearSent s) c = suspectChk s c := rfl
@[simp] theorem clearSent_available  (x : Nat) (c : Nat) : available (clearSent s) x c = available s x c := rfl
@[simp] theorem clearSent_recentTimes  (a : Arb) : recentTimes (clearSent s) a = recentTimes s a := rfl
@[simp] theorem clearSent_arbStatus  (n : Nat) : arbStatus (clearSent s) n = arbStatus s n := rfl
@[simp] theorem clearSent_areaGen  (a : Nat) : areaGen (clearSent s) a = areaGen s a := rfl
@[simp] theorem clearSent_archiveCounts  (area : Nat) (ws : List Word) : archiveCounts (clearSent s) area ws = archiveCounts s area ws := rfl
@[simp] theorem clearSent_fuseWordBad  (w : Nat) (v : Word) : fuseWordBad (clearSent s) w v = fuseWordBad s w v := rfl
@[simp] theorem clearSent_viewBring  (off : Nat) : viewBring (clearSent s) off = viewBring s off := rfl
@[simp] theorem clearSent_isMaster  : isMaster (clearSent s) = isMaster s := rfl
@[simp] theorem clearSent_isMember  : isMember (clearSent s) = isMember s := rfl
@[simp] theorem clearSent_armParamsOf  : armParamsOf (clearSent s) = armParamsOf s := rfl
@[simp] theorem clearSent_memberVoted  (i : Nat) : memberVoted (clearSent s) i = memberVoted s i := rfl
@[simp] theorem clearSent_memberVerdicts  : memberVerdicts (clearSent s) = memberVerdicts s := rfl
@[simp] theorem clearSent_wordDecision  (w : Word) : wordDecision (clearSent s) w = wordDecision s w := rfl
@[simp] theorem clearSent_pendingHigh  : pendingHigh (clearSent s) = pendingHigh s := rfl
@[simp] theorem clearSent_summaryOf  : summaryOf (clearSent s) = summaryOf s := rfl
@[simp] theorem clearSent_pkgTherm  : pkgTherm (clearSent s) = pkgTherm s := rfl
@[simp] theorem clearSent_memberView  (i : Nat) : memberView (clearSent s) i = memberView s i := rfl
@[simp] theorem clearSent_viewCas  (off : Nat) : viewCas (clearSent s) off = viewCas s off := rfl
@[simp] theorem clearSent_collClass  (r : Report) : collClass (clearSent s) r = collClass s r := rfl
@[simp] theorem clearSent_collBounded  (r : Report) : collBounded (clearSent s) r = collBounded s r := rfl
@[simp] theorem clearSent_reportBad  (r : Report) : reportBad (clearSent s) r = reportBad s r := rfl
@[simp] theorem clearSent_chainOf  (r : Report) : chainOf (clearSent s) r = chainOf s r := rfl
@[simp] theorem clearSent_reduceFails  (r : Report) (ins : List Report) : reduceFails (clearSent s) r ins = reduceFails s r ins := rfl
@[simp] theorem clearSent_sameValue  (r : Report) (q : Report) : sameValue (clearSent s) r q = sameValue s r q := rfl
@[simp] theorem clearSent_firstColls  : firstColls (clearSent s) = firstColls s := rfl
@[simp] theorem clearSent_journaledRes  (r : Report) (k : Nat) : journaledRes (clearSent s) r k = journaledRes s r k := rfl
@[simp] theorem clearSent_contribsBefore  (r : Report) : contribsBefore (clearSent s) r = contribsBefore s r := rfl
@[simp] theorem clearSent_viewColl  (off : Nat) : viewColl (clearSent s) off = viewColl s off := rfl
@[simp] theorem clearSent_descLegal  (c : Nat) (src : Word) (dst : Word) (ctl : Word) : descLegal (clearSent s) c src dst ctl = descLegal s c src dst ctl := rfl
@[simp] theorem clearSent_windowOf  (a : Nat) : windowOf (clearSent s) a = windowOf s a := rfl
@[simp] theorem clearSent_tlbLeaf  (a : Nat) : tlbLeaf (clearSent s) a = tlbLeaf s a := rfl
@[simp] theorem clearSent_tlbDir  (a : Nat) : tlbDir (clearSent s) a = tlbDir s a := rfl
@[simp] theorem clearSent_memTaker  (port : Nat) (id : Nat) : memTaker (clearSent s) port id = memTaker s port id := rfl
@[simp] theorem clearSent_freeId  (port : Nat) : freeId (clearSent s) port = freeId s port := rfl
@[simp] theorem clearSent_dmaMayIssue  : dmaMayIssue (clearSent s) = dmaMayIssue s := rfl
@[simp] theorem clearSent_dmaHeld  (c : Nat) : dmaHeld (clearSent s) c = dmaHeld s c := rfl
@[simp] theorem clearSent_dmaRoom  (c : Nat) : dmaRoom (clearSent s) c = dmaRoom s c := rfl
@[simp] theorem clearSent_walking  : walking (clearSent s) = walking s := rfl
@[simp] theorem clearSent_dmaStatus  : dmaStatus (clearSent s) = dmaStatus s := rfl
@[simp] theorem clearSent_mbCount  : mbCount (clearSent s) = mbCount s := rfl
@[simp] theorem clearSent_inOrder  (ph : Phase) (next : Nat) (bs : List Nat) (m : Marker) (b : Nat) : inOrder (clearSent s) ph next bs m b = inOrder s ph next bs m b := rfl
@[simp] theorem clearSent_uncheckedIn  (i : Nat) : uncheckedIn (clearSent s) i = uncheckedIn s i := rfl
@[simp] theorem clearSent_uncheckedPred  : uncheckedPred (clearSent s) = uncheckedPred s := rfl
@[simp] theorem clearSent_mnfPending  : mnfPending (clearSent s) = mnfPending s := rfl
@[simp] theorem clearSent_startPoint  (m : Marker) (b : Nat) : startPoint (clearSent s) m b = startPoint s m b := rfl
@[simp] theorem clearSent_continues  (r : Run) (m : Marker) (b : Nat) : continues (clearSent s) r m b = continues s r m b := rfl
@[simp] theorem clearSent_markerBad  (m : Marker) (b : Nat) (arg : Nat) : markerBad (clearSent s) m b arg = markerBad s m b arg := rfl
@[simp] theorem clearSent_digestBlocks  : digestBlocks (clearSent s) = digestBlocks s := rfl
@[simp] theorem clearSent_updWait  : updWait (clearSent s) = updWait s := rfl
@[simp] theorem clearSent_waitJob  (w : ArmWait) : waitJob (clearSent s) w = waitJob s w := rfl
@[simp] theorem clearSent_casRowFails  (job : Nat) : casRowFails (clearSent s) job = casRowFails s job := rfl
@[simp] theorem clearSent_pairReady  : pairReady (clearSent s) = pairReady s := rfl
@[simp] theorem clearSent_namesStep  (step : Nat) : namesStep (clearSent s) step = namesStep s step := rfl
@[simp] theorem clearSent_configured  : configured (clearSent s) = configured s := rfl
@[simp] theorem clearSent_recRec  (type : Nat) : recRec (clearSent s) type = recRec s type := rfl
@[simp] theorem clearSent_recFor  (type : Nat) (step : Nat) : recFor (clearSent s) type step = recFor s type step := rfl
@[simp] theorem clearSent_recEpoch  : recEpoch (clearSent s) = recEpoch s := rfl
@[simp] theorem clearSent_recDecision  (n : Nat) (w : Word) : recDecision (clearSent s) n w = recDecision s n w := rfl
@[simp] theorem clearSent_recoverPoint  : recoverPoint (clearSent s) = recoverPoint s := rfl
@[simp] theorem clearSent_recoverRun  : recoverRun (clearSent s) = recoverRun s := rfl
@[simp] theorem clearSent_recCommits  : recCommits (clearSent s) = recCommits s := rfl
@[simp] theorem clearSent_recAsks  : recAsks (clearSent s) = recAsks s := rfl
@[simp] theorem clearSent_recBacks  (d : JRec) : recBacks (clearSent s) d = recBacks s d := rfl
@[simp] theorem clearSent_certStep  : certStep (clearSent s) = certStep s := rfl
@[simp] theorem clearSent_certBase  : certBase (clearSent s) = certBase s := rfl
@[simp] theorem clearSent_covRecord  (n : Nat) : covRecord (clearSent s) n = covRecord s n := rfl
@[simp] theorem clearSent_covTotals  (ws : List Word) : covTotals (clearSent s) ws = covTotals s ws := rfl
@[simp] theorem clearSent_certBody  : certBody (clearSent s) = certBody s := rfl
@[simp] theorem clearSent_stepStatus  : stepStatus (clearSent s) = stepStatus s := rfl
@[simp] theorem clearSent_stepReq  : stepReq (clearSent s) = stepReq s := rfl
@[simp] theorem clearSent_viewStep  (off : Nat) : viewStep (clearSent s) off = viewStep s off := rfl
@[simp] theorem clearSent_epochOut  : epochOut (clearSent s) = epochOut s := rfl
@[simp] theorem clearSent_reactWord  (cls : Nat) : reactWord (clearSent s) cls = reactWord s cls := rfl
@[simp] theorem clearSent_react  (cls : Nat) : react (clearSent s) cls = react s cls := rfl
@[simp] theorem clearSent_reactLeft  (r : React) : reactLeft (clearSent s) r = reactLeft s r := rfl
@[simp] theorem clearSent_coalesces  (c : Cap) : coalesces (clearSent s) c = coalesces s c := rfl
@[simp] theorem clearSent_cmdTarget  (rung : Nat) (t : Nat) : cmdTarget (clearSent s) rung t = cmdTarget s rung t := rfl
@[simp] theorem clearSent_escalateOk  (rung : Nat) (t : Nat) : escalateOk (clearSent s) rung t = escalateOk s rung t := rfl
@[simp] theorem clearSent_errLow  : errLow (clearSent s) = errLow s := rfl
@[simp] theorem clearSent_faultIrq  (ns : Bool) : faultIrq (clearSent s) ns = faultIrq s ns := rfl
@[simp] theorem clearSent_safeLow  : safeLow (clearSent s) = safeLow s := rfl
@[simp] theorem clearSent_irqHigh  (ns : Bool) : irqHigh (clearSent s) ns = irqHigh s ns := rfl
@[simp] theorem clearSent_faultStatus  : faultStatus (clearSent s) = faultStatus s := rfl
@[simp] theorem clearSent_reactView  (c : Nat) : reactView (clearSent s) c = reactView s c := rfl
@[simp] theorem clearSent_covWords  (c : Cov) : covWords (clearSent s) c = covWords s c := rfl
@[simp] theorem clearSent_covBusy  (no : Nat) : covBusy (clearSent s) no = covBusy s no := rfl
@[simp] theorem clearSent_viewCov  (off : Nat) : viewCov (clearSent s) off = viewCov s off := rfl
@[simp] theorem clearSent_genBusy  (id : Nat) : genBusy (clearSent s) id = genBusy s id := rfl
@[simp] theorem clearSent_genBad  (id : Nat) : genBad (clearSent s) id = genBad s id := rfl
@[simp] theorem clearSent_genLatest  (x : GateGen) : genLatest (clearSent s) x = genLatest s x := rfl
@[simp] theorem clearSent_groupDone  : groupDone (clearSent s) = groupDone s := rfl
@[simp] theorem clearSent_watched  (n : Nat) : watched (clearSent s) n = watched s n := rfl
@[simp] theorem clearSent_tileBeacon  (n : Nat) : tileBeacon (clearSent s) n = tileBeacon s n := rfl
@[simp] theorem clearSent_hangSearch  : hangSearch (clearSent s) = hangSearch s := rfl
@[simp] theorem clearSent_hangSuspect  (i : Nat) : hangSuspect (clearSent s) i = hangSuspect s i := rfl
@[simp] theorem clearSent_jnlBase  : jnlBase (clearSent s) = jnlBase s := rfl
@[simp] theorem clearSent_slotBytes  : slotBytes (clearSent s) = slotBytes s := rfl
@[simp] theorem clearSent_undoBytes  : undoBytes (clearSent s) = undoBytes s := rfl
@[simp] theorem clearSent_slotAddr  (i : Nat) : slotAddr (clearSent s) i = slotAddr s i := rfl
@[simp] theorem clearSent_undoAddr  (i : Nat) : undoAddr (clearSent s) i = undoAddr s i := rfl
@[simp] theorem clearSent_headerAt  (type : Nat) : headerAt (clearSent s) type = headerAt s type := rfl
@[simp] theorem clearSent_slot  (i : Nat) : slot (clearSent s) i = slot s i := rfl
@[simp] theorem clearSent_curSlot  : curSlot (clearSent s) = curSlot s := rfl
@[simp] theorem clearSent_jnlUnwritten  : jnlUnwritten (clearSent s) = jnlUnwritten s := rfl
@[simp] theorem clearSent_jHeader  (r : JRec) : jHeader (clearSent s) r = jHeader s r := rfl
@[simp] theorem clearSent_jNonce  (r : JRec) : jNonce (clearSent s) r = jNonce s r := rfl
@[simp] theorem clearSent_jBytes  (r : JRec) : jBytes (clearSent s) r = jBytes s r := rfl
@[simp] theorem clearSent_jnlFits  (r : JRec) : jnlFits (clearSent s) r = jnlFits s r := rfl
@[simp] theorem clearSent_jrec  (type : Nat) (mb : Nat) (pay : JPay) : jrec (clearSent s) type mb pay = jrec s type mb pay := rfl
@[simp] theorem clearSent_stepRecs  : stepRecs (clearSent s) = stepRecs s := rfl
@[simp] theorem clearSent_lastRec  (type : Nat) : lastRec (clearSent s) type = lastRec s type := rfl
@[simp] theorem clearSent_journaled  (logical : Nat) (id : OpId) : journaled (clearSent s) logical id = journaled s logical id := rfl
@[simp] theorem clearSent_noticeOf  (step : Nat) (mb : Nat) : noticeOf (clearSent s) step mb = noticeOf s step mb := rfl
@[simp] theorem clearSent_fullTarget  (t : Target) : fullTarget (clearSent s) t = fullTarget s t := rfl
@[simp] theorem clearSent_ladderStatus  : ladderStatus (clearSent s) = ladderStatus s := rfl
@[simp] theorem clearSent_loadTable  : loadTable (clearSent s) = loadTable s := rfl
@[simp] theorem clearSent_matchesPend  (e : TableEntry) : matchesPend (clearSent s) e = matchesPend s e := rfl
@[simp] theorem clearSent_toLoad  : toLoad (clearSent s) = toLoad s := rfl
@[simp] theorem clearSent_pendDiff  (r : Nat) : pendDiff (clearSent s) r = pendDiff s r := rfl
@[simp] theorem clearSent_groupArbBusy  (g : Nat) : groupArbBusy (clearSent s) g = groupArbBusy s g := rfl
@[simp] theorem clearSent_groupTesting  (g : Nat) : groupTesting (clearSent s) g = groupTesting s g := rfl
@[simp] theorem clearSent_reloadAllowed  (r : Nat) : reloadAllowed (clearSent s) r = reloadAllowed s r := rfl
@[simp] theorem clearSent_headerCheck  (ws : List Word) (sigOk : Bool) (fuse : Nat) : headerCheck (clearSent s) ws sigOk fuse = headerCheck s ws sigOk fuse := rfl
@[simp] theorem clearSent_loadOffset  : loadOffset (clearSent s) = loadOffset s := rfl
@[simp] theorem clearSent_configStatus  : configStatus (clearSent s) = configStatus s := rfl
@[simp] theorem clearSent_configRegion  (r : Nat) : configRegion (clearSent s) r = configRegion s r := rfl
@[simp] theorem clearSent_viewConfig  (off : Nat) : viewConfig (clearSent s) off = viewConfig s off := rfl
@[simp] theorem clearSent_mbox  (c : Nat) : mbox (clearSent s) c = mbox s c := rfl
@[simp] theorem clearSent_mailIrq  (ns : Bool) : mailIrq (clearSent s) ns = mailIrq s ns := rfl
@[simp] theorem clearSent_mtRunning  : mtRunning (clearSent s) = mtRunning s := rfl
@[simp] theorem clearSent_mtOwns  (c : Nat) : mtOwns (clearSent s) c = mtOwns s c := rfl
@[simp] theorem clearSent_rangeRouted  (base : Nat) (limit : Nat) : rangeRouted (clearSent s) base limit = rangeRouted s base limit := rfl
@[simp] theorem clearSent_viewMemtest  (off : Nat) : viewMemtest (clearSent s) off = viewMemtest s off := rfl
@[simp] theorem clearSent_isPaired  : isPaired (clearSent s) = isPaired s := rfl
@[simp] theorem clearSent_ownSlot  : ownSlot (clearSent s) = ownSlot s := rfl
@[simp] theorem clearSent_partnerChip  : partnerChip (clearSent s) = partnerChip s := rfl
@[simp] theorem clearSent_partnerRank  : partnerRank (clearSent s) = partnerRank s := rfl
@[simp] theorem clearSent_pairJobOf  : pairJobOf (clearSent s) = pairJobOf s := rfl
@[simp] theorem clearSent_ownRank  : ownRank (clearSent s) = ownRank s := rfl
@[simp] theorem clearSent_bsDigest64  : bsDigest64 (clearSent s) = bsDigest64 s := rfl
@[simp] theorem clearSent_sourceEpoch  : sourceEpoch (clearSent s) = sourceEpoch s := rfl
@[simp] theorem clearSent_rxSlotBytes  : rxSlotBytes (clearSent s) = rxSlotBytes s := rfl
@[simp] theorem clearSent_rxSlotAddr  (slot : Nat) : rxSlotAddr (clearSent s) slot = rxSlotAddr s slot := rfl
@[simp] theorem clearSent_noticeArea  : noticeArea (clearSent s) = noticeArea s := rfl
@[simp] theorem clearSent_storeOpen  (nonce : Nat) (bytes : List Byte) : storeOpen (clearSent s) nonce bytes = storeOpen s nonce bytes := rfl
@[simp] theorem clearSent_outChunks  : outChunks (clearSent s) = outChunks s := rfl
@[simp] theorem clearSent_serveChunks  : serveChunks (clearSent s) = serveChunks s := rfl
@[simp] theorem clearSent_noticeAt  (step : Nat) (mb : Nat) : noticeAt (clearSent s) step mb = noticeAt s step mb := rfl
@[simp] theorem clearSent_ownEk  : ownEk (clearSent s) = ownEk s := rfl
@[simp] theorem clearSent_ownHelloOf  (nonce : Nat) : ownHelloOf (clearSent s) nonce = ownHelloOf s nonce := rfl
@[simp] theorem clearSent_helloCheck  (h : Hello) (nbrId : Option Nat) : helloCheck (clearSent s) h nbrId = helloCheck s h nbrId := rfl
@[simp] theorem clearSent_transcript  : transcript (clearSent s) = transcript s := rfl
@[simp] theorem clearSent_auditPair  : auditPair (clearSent s) = auditPair s := rfl
@[simp] theorem clearSent_rxLeft  : rxLeft (clearSent s) = rxLeft s := rfl
@[simp] theorem clearSent_mirrorStatus  : mirrorStatus (clearSent s) = mirrorStatus s := rfl
@[simp] theorem clearSent_viewMirror  (off : Nat) : viewMirror (clearSent s) off = viewMirror s off := rfl
@[simp] theorem clearSent_modeStatus  : modeStatus (clearSent s) = modeStatus s := rfl
@[simp] theorem clearSent_sectionCode  (k : Nat) : sectionCode (clearSent s) k = sectionCode s k := rfl
@[simp] theorem clearSent_modeRegions  : modeRegions (clearSent s) = modeRegions s := rfl
@[simp] theorem clearSent_viewMode  (off : Nat) : viewMode (clearSent s) off = viewMode s off := rfl
@[simp] theorem clearSent_cntTiles  (scope : Nat) (target : Nat) : cntTiles (clearSent s) scope target = cntTiles s scope target := rfl
@[simp] theorem clearSent_cntScopeOk  (scope : Nat) (target : Nat) : cntScopeOk (clearSent s) scope target = cntScopeOk s scope target := rfl
@[simp] theorem clearSent_runEntry  (r : DumpRun) : runEntry (clearSent s) r = runEntry s r := rfl
@[simp] theorem clearSent_partLen  (r : DumpRun) : partLen (clearSent s) r = partLen s r := rfl
@[simp] theorem clearSent_huskBytes  (r : DumpRun) (draw : Nat) : huskBytes (clearSent s) r draw = huskBytes s r draw := rfl
@[simp] theorem clearSent_viewObs  (off : Nat) : viewObs (clearSent s) off = viewObs s off := rfl
@[simp] theorem clearSent_tile  (n : Nat) : tile (clearSent s) n = tile s n := rfl
@[simp] theorem clearSent_pos  (n : Nat) : pos (clearSent s) n = pos s n := rfl
@[simp] theorem clearSent_logicalNum  (n : Nat) : logicalNum (clearSent s) n = logicalNum s n := rfl
@[simp] theorem clearSent_now  : now (clearSent s) = now s := rfl
@[simp] theorem clearSent_approx  : approx (clearSent s) = approx s := rfl
@[simp] theorem clearSent_stamp  : stamp (clearSent s) = stamp s := rfl
@[simp] theorem clearSent_ticks  : ticks (clearSent s) = ticks s := rfl
@[simp] theorem clearSent_core  (n : Nat) : core (clearSent s) n = core s n := rfl
@[simp] theorem clearSent_region  (r : Nat) : region (clearSent s) r = region s r := rfl
@[simp] theorem clearSent_regActive  (r : Nat) : regActive (clearSent s) r = regActive s r := rfl
@[simp] theorem clearSent_regUsable  (r : Nat) : regUsable (clearSent s) r = regUsable s r := rfl
@[simp] theorem clearSent_regWord  (r : Nat) (i : Nat) : regWord (clearSent s) r i = regWord s r i := rfl
@[simp] theorem clearSent_posEntry  (n : Nat) : posEntry (clearSent s) n = posEntry s n := rfl
@[simp] theorem clearSent_topoUsable  : topoUsable (clearSent s) = topoUsable s := rfl
@[simp] theorem clearSent_partOf  (n : Nat) : partOf (clearSent s) n = partOf s n := rfl
@[simp] theorem clearSent_part  (n : Nat) : part (clearSent s) n = part s n := rfl
@[simp] theorem clearSent_isSpare  (n : Nat) : isSpare (clearSent s) n = isSpare s n := rfl
@[simp] theorem clearSent_logicalOf  (n : Nat) : logicalOf (clearSent s) n = logicalOf s n := rfl
@[simp] theorem clearSent_partPositions  (p : Nat) : partPositions (clearSent s) p = partPositions s p := rfl
@[simp] theorem clearSent_tgRecord  (n : Nat) : tgRecord (clearSent s) n = tgRecord s n := rfl
@[simp] theorem clearSent_firstWest  (n : Nat) : firstWest (clearSent s) n = firstWest s n := rfl
@[simp] theorem clearSent_pol  (i : Nat) : pol (clearSent s) i = pol s i := rfl
@[simp] theorem clearSent_polReset  : polReset (clearSent s) = polReset s := rfl
@[simp] theorem clearSent_polDomain  : polDomain (clearSent s) = polDomain s := rfl
@[simp] theorem clearSent_polCompat  : polCompat (clearSent s) = polCompat s := rfl
@[simp] theorem clearSent_polOrphanUnscreened  : polOrphanUnscreened (clearSent s) = polOrphanUnscreened s := rfl
@[simp] theorem clearSent_polArbiter  : polArbiter (clearSent s) = polArbiter s := rfl
@[simp] theorem clearSent_polBackup  : polBackup (clearSent s) = polBackup s := rfl
@[simp] theorem clearSent_classOf  (n : Nat) : classOf (clearSent s) n = classOf s n := rfl
@[simp] theorem clearSent_classAssigned  (c : Nat) : classAssigned (clearSent s) c = classAssigned s c := rfl
@[simp] theorem clearSent_contractOf  (n : Nat) : contractOf (clearSent s) n = contractOf s n := rfl
@[simp] theorem clearSent_jobMode  : jobMode (clearSent s) = jobMode s := rfl
@[simp] theorem clearSent_isDecode  : isDecode (clearSent s) = isDecode s := rfl
@[simp] theorem clearSent_isUndo  : isUndo (clearSent s) = isUndo s := rfl
@[simp] theorem clearSent_mirMode  : mirMode (clearSent s) = mirMode s := rfl
@[simp] theorem clearSent_secState  : secState (clearSent s) = secState s := rfl
@[simp] theorem clearSent_recovery  : recovery (clearSent s) = recovery s := rfl
@[simp] theorem clearSent_levelReq  (c : Nat) : levelReq (clearSent s) c = levelReq s c := rfl
@[simp] theorem clearSent_levelDefault  (c : Nat) : levelDefault (clearSent s) c = levelDefault s c := rfl
@[simp] theorem clearSent_classLevel  (con : Nat) (replay : Bool) (forced : Bool) : classLevel (clearSent s) con replay forced = classLevel s con replay forced := rfl
@[simp] theorem clearSent_levelEff  (c : Nat) : levelEff (clearSent s) c = levelEff s c := rfl
@[simp] theorem clearSent_levelEffWord  : levelEffWord (clearSent s) = levelEffWord s := rfl
@[simp] theorem clearSent_lawActive  : lawActive (clearSent s) = lawActive s := rfl
@[simp] theorem clearSent_groupServes  (n : Nat) : groupServes (clearSent s) n = groupServes s n := rfl
@[simp] theorem clearSent_riserUp  (n : Nat) : riserUp (clearSent s) n = riserUp s n := rfl
@[simp] theorem clearSent_clusterOut  (n : Nat) : clusterOut (clearSent s) n = clusterOut s n := rfl
@[simp] theorem clearSent_isArmed  : isArmed (clearSent s) = isArmed s := rfl
@[simp] theorem clearSent_chan  (c : Nat) : chan (clearSent s) c = chan s c := rfl
@[simp] theorem clearSent_netMsg  (tag : Nat) : netMsg (clearSent s) tag = netMsg s tag := rfl
@[simp] theorem clearSent_krpReady  : krpReady (clearSent s) = krpReady s := rfl
@[simp] theorem clearSent_lockedNow  (off : Nat) : lockedNow (clearSent s) off = lockedNow s off := rfl
@[simp] theorem clearSent_deniedAt  (rq : Acc) (off : Nat) (write : Bool) : deniedAt (clearSent s) rq off write = deniedAt s rq off write := rfl
@[simp] theorem clearSent_remapOf  (l : Nat) : remapOf (clearSent s) l = remapOf s l := rfl
@[simp] theorem clearSent_fenced  (n : Nat) : fenced (clearSent s) n = fenced s n := rfl
@[simp] theorem clearSent_chkServes  (n : Nat) : chkServes (clearSent s) n = chkServes s n := rfl
@[simp] theorem clearSent_adoptedBy  (a : Nat) : adoptedBy (clearSent s) a = adoptedBy s a := rfl
@[simp] theorem clearSent_neighbours  (n : Nat) : neighbours (clearSent s) n = neighbours s n := rfl
@[simp] theorem clearSent_eligible  (a : Nat) : eligible (clearSent s) a = eligible s a := rfl
@[simp] theorem clearSent_chooseAdopter  (n : Nat) (pref : Option Nat) : chooseAdopter (clearSent s) n pref = chooseAdopter s n pref := rfl
@[simp] theorem clearSent_chooseSpare  (p : Nat) : chooseSpare (clearSent s) p = chooseSpare s p := rfl
@[simp] theorem clearSent_listed  (n : Nat) : listed (clearSent s) n = listed s n := rfl
@[simp] theorem clearSent_unserved  (n : Nat) : unserved (clearSent s) n = unserved s n := rfl
@[simp] theorem clearSent_structAllowed  (n : Nat) : structAllowed (clearSent s) n = structAllowed s n := rfl
@[simp] theorem clearSent_chkIdle  (n : Nat) : chkIdle (clearSent s) n = chkIdle s n := rfl
@[simp] theorem clearSent_selfAllowed  (n : Nat) : selfAllowed (clearSent s) n = selfAllowed s n := rfl
@[simp] theorem clearSent_testsOpen  (n : Nat) : testsOpen (clearSent s) n = testsOpen s n := rfl
@[simp] theorem clearSent_fuseBad  (n : Nat) (chk : Bool) : fuseBad (clearSent s) n chk = fuseBad s n chk := rfl
@[simp] theorem clearSent_overrideOf  (n : Nat) (chk : Bool) : overrideOf (clearSent s) n chk = overrideOf s n chk := rfl
@[simp] theorem clearSent_reconCounts  : reconCounts (clearSent s) = reconCounts s := rfl
@[simp] theorem clearSent_katEntry  (d : Desc) : katEntry (clearSent s) d = katEntry s d := rfl
@[simp] theorem clearSent_tileState  (n : Nat) : tileState (clearSent s) n = tileState s n := rfl
@[simp] theorem clearSent_tileTest  (n : Nat) : tileTest (clearSent s) n = tileTest s n := rfl
@[simp] theorem clearSent_spareP  (p : Nat) : spareP (clearSent s) p = spareP s p := rfl
@[simp] theorem clearSent_remapView  (l : Nat) : remapView (clearSent s) l = remapView s l := rfl
@[simp] theorem clearSent_qrsStatus  : qrsStatus (clearSent s) = qrsStatus s := rfl
@[simp] theorem clearSent_viewQrs  (off : Nat) : viewQrs (clearSent s) off = viewQrs s off := rfl
@[simp] theorem clearSent_entryFor  (k : Nat) : entryFor (clearSent s) k = entryFor s k := rfl
@[simp] theorem clearSent_queued  : queued (clearSent s) = queued s := rfl
@[simp] theorem clearSent_queueFull  : queueFull (clearSent s) = queueFull s := rfl
@[simp] theorem clearSent_grnTag  (cust : Nat) (ws : List Word) : grnTag (clearSent s) cust ws = grnTag s cust ws := rfl
@[simp] theorem clearSent_recBody  (r : Rec) (first : Bool) : recBody (clearSent s) r first = recBody s r first := rfl
@[simp] theorem clearSent_recWords  (r : Rec) (first : Bool) : recWords (clearSent s) r first = recWords s r first := rfl
@[simp] theorem clearSent_recValid  (ws : List Word) : recValid (clearSent s) ws = recValid s ws := rfl
@[simp] theorem clearSent_writable  : writable (clearSent s) = writable s := rfl
@[simp] theorem clearSent_inFirst  (n : Nat) : inFirst (clearSent s) n = inFirst s n := rfl
@[simp] theorem clearSent_firstAt  (n : Nat) : firstAt (clearSent s) n = firstAt s n := rfl
@[simp] theorem clearSent_validRecs  : validRecs (clearSent s) = validRecs s := rfl
@[simp] theorem clearSent_indexWord  (o : Nat) : indexWord (clearSent s) o = indexWord s o := rfl
@[simp] theorem clearSent_crashWord  (o : Nat) : crashWord (clearSent s) o = crashWord s o := rfl
@[simp] theorem clearSent_slotWords  (area : Nat) (slot : Nat) : slotWords (clearSent s) area slot = slotWords s area slot := rfl
@[simp] theorem clearSent_granBytes  (o : Nat) : granBytes (clearSent s) o = granBytes s o := rfl
@[simp] theorem clearSent_recorderStatus  : recorderStatus (clearSent s) = recorderStatus s := rfl
@[simp] theorem clearSent_viewRecorder  (off : Nat) : viewRecorder (clearSent s) off = viewRecorder s off := rfl
@[simp] theorem clearSent_jnlKept  : jnlKept (clearSent s) = jnlKept s := rfl
@[simp] theorem clearSent_resetRec  : resetRec (clearSent s) = resetRec s := rfl
@[simp] theorem clearSent_supplyKept  : supplyKept (clearSent s) = supplyKept s := rfl
@[simp] theorem clearSent_opOf  (x : Nat) (uid : Nat) : opOf (clearSent s) x uid = opOf s x uid := rfl
@[simp] theorem clearSent_pipKeys  : pipKeys (clearSent s) = pipKeys s := rfl
@[simp] theorem clearSent_reduction  (p : Nat) : reduction (clearSent s) p = reduction s p := rfl
@[simp] theorem clearSent_pipDensity  (n : Nat) (con : Contract) (lv : Level) (d : Desc) : pipDensity (clearSent s) n con lv d = pipDensity s n con lv d := rfl
@[simp] theorem clearSent_drawnGrains  (d : Desc) (dens : Nat) : drawnGrains (clearSent s) d dens = drawnGrains s d dens := rfl
@[simp] theorem clearSent_chipNo  : chipNo (clearSent s) = chipNo s := rfl
@[simp] theorem clearSent_instNo  : instNo (clearSent s) = instNo s := rfl
@[simp] theorem clearSent_deviceId  : deviceId (clearSent s) = deviceId s := rfl
@[simp] theorem clearSent_jobKeyFor  (job : Nat) : jobKeyFor (clearSent s) job = jobKeyFor s job := rfl
@[simp] theorem clearSent_secTarget  : secTarget (clearSent s) = secTarget s := rfl
@[simp] theorem clearSent_secBlank  : secBlank (clearSent s) = secBlank s := rfl
@[simp] theorem clearSent_tamperLock  : tamperLock (clearSent s) = tamperLock s := rfl
@[simp] theorem clearSent_reprovisionId  : reprovisionId (clearSent s) = reprovisionId s := rfl
@[simp] theorem clearSent_attRoot  : attRoot (clearSent s) = attRoot s := rfl
@[simp] theorem clearSent_ownKeys  (cert : List Byte) : ownKeys (clearSent s) cert = ownKeys s cert := rfl
@[simp] theorem clearSent_unwrapKey  (blob : List Byte) (key : List Byte) : unwrapKey (clearSent s) blob key = unwrapKey s blob key := rfl
@[simp] theorem clearSent_permitHeld  (serial : Word) : permitHeld (clearSent s) serial = permitHeld s serial := rfl
@[simp] theorem clearSent_permitFor  (name : Word) (job : Word) (step : Nat) : permitFor (clearSent s) name job step = permitFor s name job step := rfl
@[simp] theorem clearSent_secStatus  : secStatus (clearSent s) = secStatus s := rfl
@[simp] theorem clearSent_viewSec  (off : Nat) : viewSec (clearSent s) off = viewSec s off := rfl
@[simp] theorem clearSent_seqFrozen  (n : Nat) : seqFrozen (clearSent s) n = seqFrozen s n := rfl
@[simp] theorem clearSent_traceEntry  (c : Core) (w : Nat) (event : Nat) (faulted : Bool) : traceEntry (clearSent s) c w event faulted = traceEntry s c w event faulted := rfl
@[simp] theorem clearSent_viewSeq  (off : Nat) : viewSeq (clearSent s) off = viewSeq s off := rfl
@[simp] theorem clearSent_dumpKeys  : dumpKeys (clearSent s) = dumpKeys s := rfl
@[simp] theorem clearSent_dumpPlace  (key : Nat) : dumpPlace (clearSent s) key = dumpPlace s key := rfl
@[simp] theorem clearSent_atMarker  (key : Nat) : atMarker (clearSent s) key = atMarker s key := rfl
@[simp] theorem clearSent_chanAtRest  (c : Nat) : chanAtRest (clearSent s) c = chanAtRest s c := rfl
@[simp] theorem clearSent_journalWork  : journalWork (clearSent s) = journalWork s := rfl
@[simp] theorem clearSent_unitQuiet  (u : Nat) : unitQuiet (clearSent s) u = unitQuiet s u := rfl
@[simp] theorem clearSent_tileQuiet  (n : Nat) : tileQuiet (clearSent s) n = tileQuiet s n := rfl
@[simp] theorem clearSent_dumpEntryOf  (key : Nat) (skipped : Bool) : dumpEntryOf (clearSent s) key skipped = dumpEntryOf s key skipped := rfl
@[simp] theorem clearSent_imageBytes  (key : Nat) : imageBytes (clearSent s) key = imageBytes s key := rfl
@[simp] theorem clearSent_stopWord  (busy : Bool) : stopWord (clearSent s) busy = stopWord s busy := rfl
@[simp] theorem clearSent_crashHeaderOf  (status : Word) : crashHeaderOf (clearSent s) status = crashHeaderOf s status := rfl
@[simp] theorem clearSent_rail  (r : Nat) : rail (clearSent s) r = rail s r := rfl
@[simp] theorem clearSent_allInRange  : allInRange (clearSent s) = allInRange s := rfl
@[simp] theorem clearSent_clusterPositions  (k : Nat) : clusterPositions (clearSent s) k = clusterPositions s k := rfl
@[simp] theorem clearSent_droopLimit  : droopLimit (clearSent s) = droopLimit s := rfl
@[simp] theorem clearSent_supplyStatus  : supplyStatus (clearSent s) = supplyStatus s := rfl
@[simp] theorem clearSent_viewSupply  (off : Nat) : viewSupply (clearSent s) off = viewSupply s off := rfl
@[simp] theorem clearSent_replayNow  : replayNow (clearSent s) = replayNow s := rfl
@[simp] theorem clearSent_forcedNow  (n : Nat) (d : Desc) : forcedNow (clearSent s) n d = forcedNow s n d := rfl
@[simp] theorem clearSent_screener  (n : Nat) : screener (clearSent s) n = screener s n := rfl
@[simp] theorem clearSent_counterOf  (n : Nat) : counterOf (clearSent s) n = counterOf s n := rfl
@[simp] theorem clearSent_fateOf  (n : Nat) (d : Desc) : fateOf (clearSent s) n d = fateOf s n d := rfl
@[simp] theorem clearSent_roundNow  (n : Nat) : roundNow (clearSent s) n = roundNow s n := rfl
@[simp] theorem clearSent_holders  (n : Nat) (num : Nat) : holders (clearSent s) n num = holders s n num := rfl
@[simp] theorem clearSent_openOps  (f : Nat → Op → Bool) : openOps (clearSent s) f = openOps s f := rfl
@[simp] theorem clearSent_shellOp  (o : Op) : shellOp (clearSent s) o = shellOp s o := rfl
@[simp] theorem clearSent_resStatus  (n : Nat) : resStatus (clearSent s) n = resStatus s n := rfl
@[simp] theorem clearSent_pipStatus  (n : Nat) : pipStatus (clearSent s) n = pipStatus s n := rfl
@[simp] theorem clearSent_viewScreen  (n : Nat) (off : Nat) : viewScreen (clearSent s) n off = viewScreen s n off := rfl
@[simp] theorem clearSent_sensor  (x : Nat) : sensor (clearSent s) x = sensor s x := rfl
@[simp] theorem clearSent_sensEntry  (x : Nat) : sensEntry (clearSent s) x = sensEntry s x := rfl
@[simp] theorem clearSent_sensOn  (x : Nat) : sensOn (clearSent s) x = sensOn s x := rfl
@[simp] theorem clearSent_sensMasked  (x : Nat) : sensMasked (clearSent s) x = sensMasked s x := rfl
@[simp] theorem clearSent_sensPart  (x : Nat) : sensPart (clearSent s) x = sensPart s x := rfl
@[simp] theorem clearSent_sensPartKnown  (x : Nat) : sensPartKnown (clearSent s) x = sensPartKnown s x := rfl
@[simp] theorem clearSent_thermLaw  : thermLaw (clearSent s) = thermLaw s := rfl
@[simp] theorem clearSent_ownValue  (x : Nat) : ownValue (clearSent s) x = ownValue s x := rfl
@[simp] theorem clearSent_replBroken  (x : Nat) : replBroken (clearSent s) x = replBroken s x := rfl
@[simp] theorem clearSent_sensValue  (x : Nat) : sensValue (clearSent s) x = sensValue s x := rfl
@[simp] theorem clearSent_disagrees  (x : Nat) : disagrees (clearSent s) x = disagrees s x := rfl
@[simp] theorem clearSent_judged  (x : Nat) : judged (clearSent s) x = judged s x := rfl
@[simp] theorem clearSent_lawParts  : lawParts (clearSent s) = lawParts s := rfl
@[simp] theorem clearSent_hottest  (l : List Nat) : hottest (clearSent s) l = hottest s l := rfl
@[simp] theorem clearSent_lawOf  (t : Nat) : lawOf (clearSent s) t = lawOf s t := rfl
@[simp] theorem clearSent_throttleOut  (p : Nat) : throttleOut (clearSent s) p = throttleOut s p := rfl
@[simp] theorem clearSent_thermStatus  : thermStatus (clearSent s) = thermStatus s := rfl
@[simp] theorem clearSent_sensorView  (x : Nat) : sensorView (clearSent s) x = sensorView s x := rfl
@[simp] theorem clearSent_viewThermal  (off : Nat) : viewThermal (clearSent s) off = viewThermal s off := rfl
@[simp] theorem clearSent_colPositions  (c : Nat) : colPositions (clearSent s) c = colPositions s c := rfl
@[simp] theorem clearSent_sqAlive  (n : Nat) : sqAlive (clearSent s) n = sqAlive s n := rfl
@[simp] theorem clearSent_globalStatus  : globalStatus (clearSent s) = globalStatus s := rfl
@[simp] theorem clearSent_viewTime  (off : Nat) : viewTime (clearSent s) off = viewTime s off := rfl
@[simp] theorem clearSent_verifyGroup  (g : Nat) (ws : List Word) : verifyGroup (clearSent s) g ws = verifyGroup s g ws := rfl
@[simp] theorem clearSent_verifyPolicy  (ws : List Word) : verifyPolicy (clearSent s) ws = verifyPolicy s ws := rfl
@[simp] theorem clearSent_verifyThermal  (ws : List Word) : verifyThermal (clearSent s) ws = verifyThermal s ws := rfl
@[simp] theorem clearSent_verifyRegion  (exists_ : Nat → Bool) (r : Nat) (ws : List Word) : verifyRegion exists_ (clearSent s) r ws = verifyRegion exists_ s r ws := rfl
@[simp] theorem clearSent_viewIdent  (off : Nat) : viewIdent (clearSent s) off = viewIdent s off := rfl
@[simp] theorem clearSent_viewLadder  (off : Nat) : viewLadder (clearSent s) off = viewLadder s off := rfl
@[simp] theorem clearSent_viewGlobal  (off : Nat) : viewGlobal (clearSent s) off = viewGlobal s off := rfl
@[simp] theorem clearSent_tileRing  (n : Nat) : tileRing (clearSent s) n = tileRing s n := rfl
@[simp] theorem clearSent_viewTile  (n : Nat) (off : Nat) : viewTile (clearSent s) n off = viewTile s n off := rfl
@[simp] theorem clearSent_riserStops  (off : Nat) : riserStops (clearSent s) off = riserStops s off := rfl
@[simp] theorem clearSent_jobSize  : jobSize (clearSent s) = jobSize s := rfl
@[simp] theorem clearSent_treePos  (root : Nat) : treePos (clearSent s) root = treePos s root := rfl
@[simp] theorem clearSent_rankAt  (root : Nat) (q : Nat) : rankAt (clearSent s) root q = rankAt s root q := rfl
@[simp] theorem clearSent_chipOf  (rank : Nat) : chipOf (clearSent s) rank = chipOf s rank := rfl
@[simp] theorem clearSent_ranksHeld  (rs : List Nat) : ranksHeld (clearSent s) rs = ranksHeld s rs := rfl
@[simp] theorem clearSent_treeRanks  (root : Nat) : treeRanks (clearSent s) root = treeRanks s root := rfl
@[simp] theorem clearSent_voteRanks  : voteRanks (clearSent s) = voteRanks s := rfl
@[simp] theorem clearSent_chipVote  (vs : List (Nat × Nat × Bool × Nat)) : chipVote (clearSent s) vs = chipVote s vs := rfl
@[simp] theorem clearSent_packageVote  : packageVote (clearSent s) = packageVote s := rfl
@[simp] theorem clearSent_treeOf  (re : Bool) : treeOf (clearSent s) re = treeOf s re := rfl
@[simp] theorem clearSent_rootOf  (re : Bool) : rootOf (clearSent s) re = rootOf s re := rfl
@[simp] theorem clearSent_voteHears  (job : Nat) (auth : Bool) : voteHears (clearSent s) job auth = voteHears s job auth := rfl
@[simp] theorem clearSent_thisRun  (step : Nat) (replayNo : Nat) : thisRun (clearSent s) step replayNo = thisRun s step replayNo := rfl
@[simp] theorem clearSent_keepsDecisions  : keepsDecisions (clearSent s) = keepsDecisions s := rfl
@[simp] theorem clearSent_recordedFor  (step : Nat) (replayNo : Nat) : recordedFor (clearSent s) step replayNo = recordedFor s step replayNo := rfl
@[simp] theorem clearSent_stepDecisions  : stepDecisions (clearSent s) = stepDecisions s := rfl
@[simp] theorem clearSent_accepts  (d : Decision) : accepts (clearSent s) d = accepts s d := rfl
@[simp] theorem clearSent_absentVote  (root : Nat) (c : Nat) : absentVote (clearSent s) root c = absentVote s root c := rfl
@[simp] theorem clearSent_verdictWord  : verdictWord (clearSent s) = verdictWord s := rfl
@[simp] theorem clearSent_voteHeld  : voteHeld (clearSent s) = voteHeld s := rfl
@[simp] theorem clearSent_opsIn  (mark : Nat) : opsIn (clearSent s) mark = opsIn s mark := rfl
@[simp] theorem clearSent_verdictsIn  : verdictsIn (clearSent s) = verdictsIn s := rfl
@[simp] theorem clearSent_verdictOf  : verdictOf (clearSent s) = verdictOf s := rfl
@[simp] theorem clearSent_verdictDue  : verdictDue (clearSent s) = verdictDue s := rfl
@[simp] theorem clearSent_stateSig  : stateSig (clearSent s) = stateSig s := rfl
@[simp] theorem clearSent_lastReplay  (n : Nat) : lastReplay (clearSent s) n = lastReplay s n := rfl
@[simp] theorem clearSent_epochBefore  (n : Nat) : epochBefore (clearSent s) n = epochBefore s n := rfl
@[simp] theorem clearSent_tileBusy  (n : Nat) : tileBusy (clearSent s) n = tileBusy s n := rfl
@[simp] theorem clearSent_replaying  (n : Nat) : replaying (clearSent s) n = replaying s n := rfl
@[simp] theorem clearSent_suspectWork  (n : Nat) (ctx : Nat) : suspectWork (clearSent s) n ctx = suspectWork s n ctx := rfl
@[simp] theorem cnt_opPoint (i k : Nat) (phase : Nat) (mb : Nat) : opPoint (cnt s i k) phase mb = opPoint s phase mb := by unfold cnt; split <;> rfl
@[simp] theorem cnt_runBusy (i k : Nat) (id : Nat) : runBusy (cnt s i k) id = runBusy s id := by unfold cnt; split <;> rfl
@[simp] theorem cnt_suspectChk (i k : Nat) (c : Nat) : suspectChk (cnt s i k) c = suspectChk s c := by unfold cnt; split <;> rfl
@[simp] theorem cnt_available (i k : Nat) (x : Nat) (c : Nat) : available (cnt s i k) x c = available s x c := by unfold cnt; split <;> rfl
@[simp] theorem cnt_recentTimes (i k : Nat) (a : Arb) : recentTimes (cnt s i k) a = recentTimes s a := by unfold cnt; split <;> rfl
@[simp] theorem cnt_arbStatus (i k : Nat) (n : Nat) : arbStatus (cnt s i k) n = arbStatus s n := by unfold cnt; split <;> rfl
@[simp] theorem cnt_areaGen (i k : Nat) (a : Nat) : areaGen (cnt s i k) a = areaGen s a := by unfold cnt; split <;> rfl
@[simp] theorem cnt_archiveCounts (i k : Nat) (area : Nat) (ws : List Word) : archiveCounts (cnt s i k) area ws = archiveCounts s area ws := by unfold cnt; split <;> rfl
@[simp] theorem cnt_fuseWordBad (i k : Nat) (w : Nat) (v : Word) : fuseWordBad (cnt s i k) w v = fuseWordBad s w v := by unfold cnt; split <;> rfl
@[simp] theorem cnt_viewBring (i k : Nat) (off : Nat) : viewBring (cnt s i k) off = viewBring s off := by unfold cnt; split <;> rfl
@[simp] theorem cnt_isMaster (i k : Nat) : isMaster (cnt s i k) = isMaster s := by unfold cnt; split <;> rfl
@[simp] theorem cnt_isMember (i k : Nat) : isMember (cnt s i k) = isMember s := by unfold cnt; split <;> rfl
@[simp] theorem cnt_armParamsOf (i k : Nat) : armParamsOf (cnt s i k) = armParamsOf s := by unfold cnt; split <;> rfl
@[simp] theorem cnt_memberVoted (i k : Nat) (i_ : Nat) : memberVoted (cnt s i k) i_ = memberVoted s i_ := by unfold cnt; split <;> rfl
@[simp] theorem cnt_memberVerdicts (i k : Nat) : memberVerdicts (cnt s i k) = memberVerdicts s := by unfold cnt; split <;> rfl
@[simp] theorem cnt_wordDecision (i k : Nat) (w : Word) : wordDecision (cnt s i k) w = wordDecision s w := by unfold cnt; split <;> rfl
@[simp] theorem cnt_pendingHigh (i k : Nat) : pendingHigh (cnt s i k) = pendingHigh s := by unfold cnt; split <;> rfl
@[simp] theorem cnt_summaryOf (i k : Nat) : summaryOf (cnt s i k) = summaryOf s := by unfold cnt; split <;> rfl
@[simp] theorem cnt_pkgTherm (i k : Nat) : pkgTherm (cnt s i k) = pkgTherm s := by unfold cnt; split <;> rfl
@[simp] theorem cnt_memberView (i k : Nat) (i_ : Nat) : memberView (cnt s i k) i_ = memberView s i_ := by unfold cnt; split <;> rfl
@[simp] theorem cnt_viewCas (i k : Nat) (off : Nat) : viewCas (cnt s i k) off = viewCas s off := by unfold cnt; split <;> rfl
@[simp] theorem cnt_collClass (i k : Nat) (r : Report) : collClass (cnt s i k) r = collClass s r := by unfold cnt; split <;> rfl
@[simp] theorem cnt_collBounded (i k : Nat) (r : Report) : collBounded (cnt s i k) r = collBounded s r := by unfold cnt; split <;> rfl
@[simp] theorem cnt_reportBad (i k : Nat) (r : Report) : reportBad (cnt s i k) r = reportBad s r := by unfold cnt; split <;> rfl
@[simp] theorem cnt_chainOf (i k : Nat) (r : Report) : chainOf (cnt s i k) r = chainOf s r := by unfold cnt; split <;> rfl
@[simp] theorem cnt_reduceFails (i k : Nat) (r : Report) (ins : List Report) : reduceFails (cnt s i k) r ins = reduceFails s r ins := by unfold cnt; split <;> rfl
@[simp] theorem cnt_sameValue (i k : Nat) (r : Report) (q : Report) : sameValue (cnt s i k) r q = sameValue s r q := by unfold cnt; split <;> rfl
@[simp] theorem cnt_firstColls (i k : Nat) : firstColls (cnt s i k) = firstColls s := by unfold cnt; split <;> rfl
@[simp] theorem cnt_journaledRes (i k : Nat) (r : Report) (k_ : Nat) : journaledRes (cnt s i k) r k_ = journaledRes s r k_ := by unfold cnt; split <;> rfl
@[simp] theorem cnt_contribsBefore (i k : Nat) (r : Report) : contribsBefore (cnt s i k) r = contribsBefore s r := by unfold cnt; split <;> rfl
@[simp] theorem cnt_viewColl (i k : Nat) (off : Nat) : viewColl (cnt s i k) off = viewColl s off := by unfold cnt; split <;> rfl
@[simp] theorem cnt_descLegal (i k : Nat) (c : Nat) (src : Word) (dst : Word) (ctl : Word) : descLegal (cnt s i k) c src dst ctl = descLegal s c src dst ctl := by unfold cnt; split <;> rfl
@[simp] theorem cnt_windowOf (i k : Nat) (a : Nat) : windowOf (cnt s i k) a = windowOf s a := by unfold cnt; split <;> rfl
@[simp] theorem cnt_tlbLeaf (i k : Nat) (a : Nat) : tlbLeaf (cnt s i k) a = tlbLeaf s a := by unfold cnt; split <;> rfl
@[simp] theorem cnt_tlbDir (i k : Nat) (a : Nat) : tlbDir (cnt s i k) a = tlbDir s a := by unfold cnt; split <;> rfl
@[simp] theorem cnt_memTaker (i k : Nat) (port : Nat) (id : Nat) : memTaker (cnt s i k) port id = memTaker s port id := by unfold cnt; split <;> rfl
@[simp] theorem cnt_freeId (i k : Nat) (port : Nat) : freeId (cnt s i k) port = freeId s port := by unfold cnt; split <;> rfl
@[simp] theorem cnt_dmaMayIssue (i k : Nat) : dmaMayIssue (cnt s i k) = dmaMayIssue s := by unfold cnt; split <;> rfl
@[simp] theorem cnt_dmaHeld (i k : Nat) (c : Nat) : dmaHeld (cnt s i k) c = dmaHeld s c := by unfold cnt; split <;> rfl
@[simp] theorem cnt_dmaRoom (i k : Nat) (c : Nat) : dmaRoom (cnt s i k) c = dmaRoom s c := by unfold cnt; split <;> rfl
@[simp] theorem cnt_walking (i k : Nat) : walking (cnt s i k) = walking s := by unfold cnt; split <;> rfl
@[simp] theorem cnt_dmaStatus (i k : Nat) : dmaStatus (cnt s i k) = dmaStatus s := by unfold cnt; split <;> rfl
@[simp] theorem cnt_mbCount (i k : Nat) : mbCount (cnt s i k) = mbCount s := by unfold cnt; split <;> rfl
@[simp] theorem cnt_inOrder (i k : Nat) (ph : Phase) (next : Nat) (bs : List Nat) (m : Marker) (b : Nat) : inOrder (cnt s i k) ph next bs m b = inOrder s ph next bs m b := by unfold cnt; split <;> rfl
@[simp] theorem cnt_uncheckedIn (i k : Nat) (i_ : Nat) : uncheckedIn (cnt s i k) i_ = uncheckedIn s i_ := by unfold cnt; split <;> rfl
@[simp] theorem cnt_uncheckedPred (i k : Nat) : uncheckedPred (cnt s i k) = uncheckedPred s := by unfold cnt; split <;> rfl
@[simp] theorem cnt_mnfPending (i k : Nat) : mnfPending (cnt s i k) = mnfPending s := by unfold cnt; split <;> rfl
@[simp] theorem cnt_startPoint (i k : Nat) (m : Marker) (b : Nat) : startPoint (cnt s i k) m b = startPoint s m b := by unfold cnt; split <;> rfl
@[simp] theorem cnt_continues (i k : Nat) (r : Run) (m : Marker) (b : Nat) : continues (cnt s i k) r m b = continues s r m b := by unfold cnt; split <;> rfl
@[simp] theorem cnt_markerBad (i k : Nat) (m : Marker) (b : Nat) (arg : Nat) : markerBad (cnt s i k) m b arg = markerBad s m b arg := by unfold cnt; split <;> rfl
@[simp] theorem cnt_digestBlocks (i k : Nat) : digestBlocks (cnt s i k) = digestBlocks s := by unfold cnt; split <;> rfl
@[simp] theorem cnt_updWait (i k : Nat) : updWait (cnt s i k) = updWait s := by unfold cnt; split <;> rfl
@[simp] theorem cnt_waitJob (i k : Nat) (w : ArmWait) : waitJob (cnt s i k) w = waitJob s w := by unfold cnt; split <;> rfl
@[simp] theorem cnt_casRowFails (i k : Nat) (job : Nat) : casRowFails (cnt s i k) job = casRowFails s job := by unfold cnt; split <;> rfl
@[simp] theorem cnt_pairReady (i k : Nat) : pairReady (cnt s i k) = pairReady s := by unfold cnt; split <;> rfl
@[simp] theorem cnt_namesStep (i k : Nat) (step : Nat) : namesStep (cnt s i k) step = namesStep s step := by unfold cnt; split <;> rfl
@[simp] theorem cnt_configured (i k : Nat) : configured (cnt s i k) = configured s := by unfold cnt; split <;> rfl
@[simp] theorem cnt_recRec (i k : Nat) (type : Nat) : recRec (cnt s i k) type = recRec s type := by unfold cnt; split <;> rfl
@[simp] theorem cnt_recFor (i k : Nat) (type : Nat) (step : Nat) : recFor (cnt s i k) type step = recFor s type step := by unfold cnt; split <;> rfl
@[simp] theorem cnt_recEpoch (i k : Nat) : recEpoch (cnt s i k) = recEpoch s := by unfold cnt; split <;> rfl
@[simp] theorem cnt_recDecision (i k : Nat) (n : Nat) (w : Word) : recDecision (cnt s i k) n w = recDecision s n w := by unfold cnt; split <;> rfl
@[simp] theorem cnt_recoverPoint (i k : Nat) : recoverPoint (cnt s i k) = recoverPoint s := by unfold cnt; split <;> rfl
@[simp] theorem cnt_recoverRun (i k : Nat) : recoverRun (cnt s i k) = recoverRun s := by unfold cnt; split <;> rfl
@[simp] theorem cnt_recCommits (i k : Nat) : recCommits (cnt s i k) = recCommits s := by unfold cnt; split <;> rfl
@[simp] theorem cnt_recAsks (i k : Nat) : recAsks (cnt s i k) = recAsks s := by unfold cnt; split <;> rfl
@[simp] theorem cnt_recBacks (i k : Nat) (d : JRec) : recBacks (cnt s i k) d = recBacks s d := by unfold cnt; split <;> rfl
@[simp] theorem cnt_certStep (i k : Nat) : certStep (cnt s i k) = certStep s := by unfold cnt; split <;> rfl
@[simp] theorem cnt_certBase (i k : Nat) : certBase (cnt s i k) = certBase s := by unfold cnt; split <;> rfl
@[simp] theorem cnt_covRecord (i k : Nat) (n : Nat) : covRecord (cnt s i k) n = covRecord s n := by unfold cnt; split <;> rfl
@[simp] theorem cnt_covTotals (i k : Nat) (ws : List Word) : covTotals (cnt s i k) ws = covTotals s ws := by unfold cnt; split <;> rfl
@[simp] theorem cnt_certBody (i k : Nat) : certBody (cnt s i k) = certBody s := by unfold cnt; split <;> rfl
@[simp] theorem cnt_stepStatus (i k : Nat) : stepStatus (cnt s i k) = stepStatus s := by unfold cnt; split <;> rfl
@[simp] theorem cnt_stepReq (i k : Nat) : stepReq (cnt s i k) = stepReq s := by unfold cnt; split <;> rfl
@[simp] theorem cnt_viewStep (i k : Nat) (off : Nat) : viewStep (cnt s i k) off = viewStep s off := by unfold cnt; split <;> rfl
@[simp] theorem cnt_epochOut (i k : Nat) : epochOut (cnt s i k) = epochOut s := by unfold cnt; split <;> rfl
@[simp] theorem cnt_reactWord (i k : Nat) (cls : Nat) : reactWord (cnt s i k) cls = reactWord s cls := by unfold cnt; split <;> rfl
@[simp] theorem cnt_react (i k : Nat) (cls : Nat) : react (cnt s i k) cls = react s cls := by unfold cnt; split <;> rfl
@[simp] theorem cnt_reactLeft (i k : Nat) (r : React) : reactLeft (cnt s i k) r = reactLeft s r := by unfold cnt; split <;> rfl
@[simp] theorem cnt_coalesces (i k : Nat) (c : Cap) : coalesces (cnt s i k) c = coalesces s c := by unfold cnt; split <;> rfl
@[simp] theorem cnt_cmdTarget (i k : Nat) (rung : Nat) (t : Nat) : cmdTarget (cnt s i k) rung t = cmdTarget s rung t := by unfold cnt; split <;> rfl
@[simp] theorem cnt_escalateOk (i k : Nat) (rung : Nat) (t : Nat) : escalateOk (cnt s i k) rung t = escalateOk s rung t := by unfold cnt; split <;> rfl
@[simp] theorem cnt_errLow (i k : Nat) : errLow (cnt s i k) = errLow s := by unfold cnt; split <;> rfl
@[simp] theorem cnt_faultIrq (i k : Nat) (ns : Bool) : faultIrq (cnt s i k) ns = faultIrq s ns := by unfold cnt; split <;> rfl
@[simp] theorem cnt_safeLow (i k : Nat) : safeLow (cnt s i k) = safeLow s := by unfold cnt; split <;> rfl
@[simp] theorem cnt_irqHigh (i k : Nat) (ns : Bool) : irqHigh (cnt s i k) ns = irqHigh s ns := by unfold cnt; split <;> rfl
@[simp] theorem cnt_faultStatus (i k : Nat) : faultStatus (cnt s i k) = faultStatus s := by unfold cnt; split <;> rfl
@[simp] theorem cnt_reactView (i k : Nat) (c : Nat) : reactView (cnt s i k) c = reactView s c := by unfold cnt; split <;> rfl
@[simp] theorem cnt_covWords (i k : Nat) (c : Cov) : covWords (cnt s i k) c = covWords s c := by unfold cnt; split <;> rfl
@[simp] theorem cnt_covBusy (i k : Nat) (no : Nat) : covBusy (cnt s i k) no = covBusy s no := by unfold cnt; split <;> rfl
@[simp] theorem cnt_viewCov (i k : Nat) (off : Nat) : viewCov (cnt s i k) off = viewCov s off := by unfold cnt; split <;> rfl
@[simp] theorem cnt_genBusy (i k : Nat) (id : Nat) : genBusy (cnt s i k) id = genBusy s id := by unfold cnt; split <;> rfl
@[simp] theorem cnt_genBad (i k : Nat) (id : Nat) : genBad (cnt s i k) id = genBad s id := by unfold cnt; split <;> rfl
@[simp] theorem cnt_genLatest (i k : Nat) (x : GateGen) : genLatest (cnt s i k) x = genLatest s x := by unfold cnt; split <;> rfl
@[simp] theorem cnt_groupDone (i k : Nat) : groupDone (cnt s i k) = groupDone s := by unfold cnt; split <;> rfl
@[simp] theorem cnt_watched (i k : Nat) (n : Nat) : watched (cnt s i k) n = watched s n := by unfold cnt; split <;> rfl
@[simp] theorem cnt_tileBeacon (i k : Nat) (n : Nat) : tileBeacon (cnt s i k) n = tileBeacon s n := by unfold cnt; split <;> rfl
@[simp] theorem cnt_hangSearch (i k : Nat) : hangSearch (cnt s i k) = hangSearch s := by unfold cnt; split <;> rfl
@[simp] theorem cnt_hangSuspect (i k : Nat) (i_ : Nat) : hangSuspect (cnt s i k) i_ = hangSuspect s i_ := by unfold cnt; split <;> rfl
@[simp] theorem cnt_jnlBase (i k : Nat) : jnlBase (cnt s i k) = jnlBase s := by unfold cnt; split <;> rfl
@[simp] theorem cnt_slotBytes (i k : Nat) : slotBytes (cnt s i k) = slotBytes s := by unfold cnt; split <;> rfl
@[simp] theorem cnt_undoBytes (i k : Nat) : undoBytes (cnt s i k) = undoBytes s := by unfold cnt; split <;> rfl
@[simp] theorem cnt_slotAddr (i k : Nat) (i_ : Nat) : slotAddr (cnt s i k) i_ = slotAddr s i_ := by unfold cnt; split <;> rfl
@[simp] theorem cnt_undoAddr (i k : Nat) (i_ : Nat) : undoAddr (cnt s i k) i_ = undoAddr s i_ := by unfold cnt; split <;> rfl
@[simp] theorem cnt_headerAt (i k : Nat) (type : Nat) : headerAt (cnt s i k) type = headerAt s type := by unfold cnt; split <;> rfl
@[simp] theorem cnt_slot (i k : Nat) (i_ : Nat) : slot (cnt s i k) i_ = slot s i_ := by unfold cnt; split <;> rfl
@[simp] theorem cnt_curSlot (i k : Nat) : curSlot (cnt s i k) = curSlot s := by unfold cnt; split <;> rfl
@[simp] theorem cnt_jnlUnwritten (i k : Nat) : jnlUnwritten (cnt s i k) = jnlUnwritten s := by unfold cnt; split <;> rfl
@[simp] theorem cnt_jHeader (i k : Nat) (r : JRec) : jHeader (cnt s i k) r = jHeader s r := by unfold cnt; split <;> rfl
@[simp] theorem cnt_jNonce (i k : Nat) (r : JRec) : jNonce (cnt s i k) r = jNonce s r := by unfold cnt; split <;> rfl
@[simp] theorem cnt_jBytes (i k : Nat) (r : JRec) : jBytes (cnt s i k) r = jBytes s r := by unfold cnt; split <;> rfl
@[simp] theorem cnt_jnlFits (i k : Nat) (r : JRec) : jnlFits (cnt s i k) r = jnlFits s r := by unfold cnt; split <;> rfl
@[simp] theorem cnt_jrec (i k : Nat) (type : Nat) (mb : Nat) (pay : JPay) : jrec (cnt s i k) type mb pay = jrec s type mb pay := by unfold cnt; split <;> rfl
@[simp] theorem cnt_stepRecs (i k : Nat) : stepRecs (cnt s i k) = stepRecs s := by unfold cnt; split <;> rfl
@[simp] theorem cnt_lastRec (i k : Nat) (type : Nat) : lastRec (cnt s i k) type = lastRec s type := by unfold cnt; split <;> rfl
@[simp] theorem cnt_journaled (i k : Nat) (logical : Nat) (id : OpId) : journaled (cnt s i k) logical id = journaled s logical id := by unfold cnt; split <;> rfl
@[simp] theorem cnt_noticeOf (i k : Nat) (step : Nat) (mb : Nat) : noticeOf (cnt s i k) step mb = noticeOf s step mb := by unfold cnt; split <;> rfl
@[simp] theorem cnt_fullTarget (i k : Nat) (t : Target) : fullTarget (cnt s i k) t = fullTarget s t := by unfold cnt; split <;> rfl
@[simp] theorem cnt_ladderStatus (i k : Nat) : ladderStatus (cnt s i k) = ladderStatus s := by unfold cnt; split <;> rfl
@[simp] theorem cnt_loadTable (i k : Nat) : loadTable (cnt s i k) = loadTable s := by unfold cnt; split <;> rfl
@[simp] theorem cnt_matchesPend (i k : Nat) (e : TableEntry) : matchesPend (cnt s i k) e = matchesPend s e := by unfold cnt; split <;> rfl
@[simp] theorem cnt_toLoad (i k : Nat) : toLoad (cnt s i k) = toLoad s := by unfold cnt; split <;> rfl
@[simp] theorem cnt_pendDiff (i k : Nat) (r : Nat) : pendDiff (cnt s i k) r = pendDiff s r := by unfold cnt; split <;> rfl
@[simp] theorem cnt_groupArbBusy (i k : Nat) (g : Nat) : groupArbBusy (cnt s i k) g = groupArbBusy s g := by unfold cnt; split <;> rfl
@[simp] theorem cnt_groupTesting (i k : Nat) (g : Nat) : groupTesting (cnt s i k) g = groupTesting s g := by unfold cnt; split <;> rfl
@[simp] theorem cnt_reloadAllowed (i k : Nat) (r : Nat) : reloadAllowed (cnt s i k) r = reloadAllowed s r := by unfold cnt; split <;> rfl
@[simp] theorem cnt_headerCheck (i k : Nat) (ws : List Word) (sigOk : Bool) (fuse : Nat) : headerCheck (cnt s i k) ws sigOk fuse = headerCheck s ws sigOk fuse := by unfold cnt; split <;> rfl
@[simp] theorem cnt_loadOffset (i k : Nat) : loadOffset (cnt s i k) = loadOffset s := by unfold cnt; split <;> rfl
@[simp] theorem cnt_configStatus (i k : Nat) : configStatus (cnt s i k) = configStatus s := by unfold cnt; split <;> rfl
@[simp] theorem cnt_configRegion (i k : Nat) (r : Nat) : configRegion (cnt s i k) r = configRegion s r := by unfold cnt; split <;> rfl
@[simp] theorem cnt_viewConfig (i k : Nat) (off : Nat) : viewConfig (cnt s i k) off = viewConfig s off := by unfold cnt; split <;> rfl
@[simp] theorem cnt_mbox (i k : Nat) (c : Nat) : mbox (cnt s i k) c = mbox s c := by unfold cnt; split <;> rfl
@[simp] theorem cnt_mailIrq (i k : Nat) (ns : Bool) : mailIrq (cnt s i k) ns = mailIrq s ns := by unfold cnt; split <;> rfl
@[simp] theorem cnt_mtRunning (i k : Nat) : mtRunning (cnt s i k) = mtRunning s := by unfold cnt; split <;> rfl
@[simp] theorem cnt_mtOwns (i k : Nat) (c : Nat) : mtOwns (cnt s i k) c = mtOwns s c := by unfold cnt; split <;> rfl
@[simp] theorem cnt_rangeRouted (i k : Nat) (base : Nat) (limit : Nat) : rangeRouted (cnt s i k) base limit = rangeRouted s base limit := by unfold cnt; split <;> rfl
@[simp] theorem cnt_viewMemtest (i k : Nat) (off : Nat) : viewMemtest (cnt s i k) off = viewMemtest s off := by unfold cnt; split <;> rfl
@[simp] theorem cnt_isPaired (i k : Nat) : isPaired (cnt s i k) = isPaired s := by unfold cnt; split <;> rfl
@[simp] theorem cnt_ownSlot (i k : Nat) : ownSlot (cnt s i k) = ownSlot s := by unfold cnt; split <;> rfl
@[simp] theorem cnt_partnerChip (i k : Nat) : partnerChip (cnt s i k) = partnerChip s := by unfold cnt; split <;> rfl
@[simp] theorem cnt_partnerRank (i k : Nat) : partnerRank (cnt s i k) = partnerRank s := by unfold cnt; split <;> rfl
@[simp] theorem cnt_pairJobOf (i k : Nat) : pairJobOf (cnt s i k) = pairJobOf s := by unfold cnt; split <;> rfl
@[simp] theorem cnt_ownRank (i k : Nat) : ownRank (cnt s i k) = ownRank s := by unfold cnt; split <;> rfl
@[simp] theorem cnt_bsDigest64 (i k : Nat) : bsDigest64 (cnt s i k) = bsDigest64 s := by unfold cnt; split <;> rfl
@[simp] theorem cnt_sourceEpoch (i k : Nat) : sourceEpoch (cnt s i k) = sourceEpoch s := by unfold cnt; split <;> rfl
@[simp] theorem cnt_rxSlotBytes (i k : Nat) : rxSlotBytes (cnt s i k) = rxSlotBytes s := by unfold cnt; split <;> rfl
@[simp] theorem cnt_rxSlotAddr (i k : Nat) (slot : Nat) : rxSlotAddr (cnt s i k) slot = rxSlotAddr s slot := by unfold cnt; split <;> rfl
@[simp] theorem cnt_noticeArea (i k : Nat) : noticeArea (cnt s i k) = noticeArea s := by unfold cnt; split <;> rfl
@[simp] theorem cnt_storeOpen (i k : Nat) (nonce : Nat) (bytes : List Byte) : storeOpen (cnt s i k) nonce bytes = storeOpen s nonce bytes := by unfold cnt; split <;> rfl
@[simp] theorem cnt_outChunks (i k : Nat) : outChunks (cnt s i k) = outChunks s := by unfold cnt; split <;> rfl
@[simp] theorem cnt_serveChunks (i k : Nat) : serveChunks (cnt s i k) = serveChunks s := by unfold cnt; split <;> rfl
@[simp] theorem cnt_noticeAt (i k : Nat) (step : Nat) (mb : Nat) : noticeAt (cnt s i k) step mb = noticeAt s step mb := by unfold cnt; split <;> rfl
@[simp] theorem cnt_ownEk (i k : Nat) : ownEk (cnt s i k) = ownEk s := by unfold cnt; split <;> rfl
@[simp] theorem cnt_ownHelloOf (i k : Nat) (nonce : Nat) : ownHelloOf (cnt s i k) nonce = ownHelloOf s nonce := by unfold cnt; split <;> rfl
@[simp] theorem cnt_helloCheck (i k : Nat) (h : Hello) (nbrId : Option Nat) : helloCheck (cnt s i k) h nbrId = helloCheck s h nbrId := by unfold cnt; split <;> rfl
@[simp] theorem cnt_transcript (i k : Nat) : transcript (cnt s i k) = transcript s := by unfold cnt; split <;> rfl
@[simp] theorem cnt_auditPair (i k : Nat) : auditPair (cnt s i k) = auditPair s := by unfold cnt; split <;> rfl
@[simp] theorem cnt_rxLeft (i k : Nat) : rxLeft (cnt s i k) = rxLeft s := by unfold cnt; split <;> rfl
@[simp] theorem cnt_mirrorStatus (i k : Nat) : mirrorStatus (cnt s i k) = mirrorStatus s := by unfold cnt; split <;> rfl
@[simp] theorem cnt_viewMirror (i k : Nat) (off : Nat) : viewMirror (cnt s i k) off = viewMirror s off := by unfold cnt; split <;> rfl
@[simp] theorem cnt_modeStatus (i k : Nat) : modeStatus (cnt s i k) = modeStatus s := by unfold cnt; split <;> rfl
@[simp] theorem cnt_sectionCode (i k : Nat) (k_ : Nat) : sectionCode (cnt s i k) k_ = sectionCode s k_ := by unfold cnt; split <;> rfl
@[simp] theorem cnt_modeRegions (i k : Nat) : modeRegions (cnt s i k) = modeRegions s := by unfold cnt; split <;> rfl
@[simp] theorem cnt_viewMode (i k : Nat) (off : Nat) : viewMode (cnt s i k) off = viewMode s off := by unfold cnt; split <;> rfl
@[simp] theorem cnt_cntTiles (i k : Nat) (scope : Nat) (target : Nat) : cntTiles (cnt s i k) scope target = cntTiles s scope target := by unfold cnt; split <;> rfl
@[simp] theorem cnt_cntScopeOk (i k : Nat) (scope : Nat) (target : Nat) : cntScopeOk (cnt s i k) scope target = cntScopeOk s scope target := by unfold cnt; split <;> rfl
@[simp] theorem cnt_runEntry (i k : Nat) (r : DumpRun) : runEntry (cnt s i k) r = runEntry s r := by unfold cnt; split <;> rfl
@[simp] theorem cnt_partLen (i k : Nat) (r : DumpRun) : partLen (cnt s i k) r = partLen s r := by unfold cnt; split <;> rfl
@[simp] theorem cnt_huskBytes (i k : Nat) (r : DumpRun) (draw : Nat) : huskBytes (cnt s i k) r draw = huskBytes s r draw := by unfold cnt; split <;> rfl
@[simp] theorem cnt_tile (i k : Nat) (n : Nat) : tile (cnt s i k) n = tile s n := by unfold cnt; split <;> rfl
@[simp] theorem cnt_pos (i k : Nat) (n : Nat) : pos (cnt s i k) n = pos s n := by unfold cnt; split <;> rfl
@[simp] theorem cnt_logicalNum (i k : Nat) (n : Nat) : logicalNum (cnt s i k) n = logicalNum s n := by unfold cnt; split <;> rfl
@[simp] theorem cnt_now (i k : Nat) : now (cnt s i k) = now s := by unfold cnt; split <;> rfl
@[simp] theorem cnt_approx (i k : Nat) : approx (cnt s i k) = approx s := by unfold cnt; split <;> rfl
@[simp] theorem cnt_stamp (i k : Nat) : stamp (cnt s i k) = stamp s := by unfold cnt; split <;> rfl
@[simp] theorem cnt_ticks (i k : Nat) : ticks (cnt s i k) = ticks s := by unfold cnt; split <;> rfl
@[simp] theorem cnt_core (i k : Nat) (n : Nat) : core (cnt s i k) n = core s n := by unfold cnt; split <;> rfl
@[simp] theorem cnt_region (i k : Nat) (r : Nat) : region (cnt s i k) r = region s r := by unfold cnt; split <;> rfl
@[simp] theorem cnt_regActive (i k : Nat) (r : Nat) : regActive (cnt s i k) r = regActive s r := by unfold cnt; split <;> rfl
@[simp] theorem cnt_regUsable (i k : Nat) (r : Nat) : regUsable (cnt s i k) r = regUsable s r := by unfold cnt; split <;> rfl
@[simp] theorem cnt_regWord (i k : Nat) (r : Nat) (i_ : Nat) : regWord (cnt s i k) r i_ = regWord s r i_ := by unfold cnt; split <;> rfl
@[simp] theorem cnt_posEntry (i k : Nat) (n : Nat) : posEntry (cnt s i k) n = posEntry s n := by unfold cnt; split <;> rfl
@[simp] theorem cnt_topoUsable (i k : Nat) : topoUsable (cnt s i k) = topoUsable s := by unfold cnt; split <;> rfl
@[simp] theorem cnt_partOf (i k : Nat) (n : Nat) : partOf (cnt s i k) n = partOf s n := by unfold cnt; split <;> rfl
@[simp] theorem cnt_part (i k : Nat) (n : Nat) : part (cnt s i k) n = part s n := by unfold cnt; split <;> rfl
@[simp] theorem cnt_isSpare (i k : Nat) (n : Nat) : isSpare (cnt s i k) n = isSpare s n := by unfold cnt; split <;> rfl
@[simp] theorem cnt_logicalOf (i k : Nat) (n : Nat) : logicalOf (cnt s i k) n = logicalOf s n := by unfold cnt; split <;> rfl
@[simp] theorem cnt_partPositions (i k : Nat) (p : Nat) : partPositions (cnt s i k) p = partPositions s p := by unfold cnt; split <;> rfl
@[simp] theorem cnt_tgRecord (i k : Nat) (n : Nat) : tgRecord (cnt s i k) n = tgRecord s n := by unfold cnt; split <;> rfl
@[simp] theorem cnt_firstWest (i k : Nat) (n : Nat) : firstWest (cnt s i k) n = firstWest s n := by unfold cnt; split <;> rfl
@[simp] theorem cnt_pol (i k : Nat) (i_ : Nat) : pol (cnt s i k) i_ = pol s i_ := by unfold cnt; split <;> rfl
@[simp] theorem cnt_polReset (i k : Nat) : polReset (cnt s i k) = polReset s := by unfold cnt; split <;> rfl
@[simp] theorem cnt_polDomain (i k : Nat) : polDomain (cnt s i k) = polDomain s := by unfold cnt; split <;> rfl
@[simp] theorem cnt_polCompat (i k : Nat) : polCompat (cnt s i k) = polCompat s := by unfold cnt; split <;> rfl
@[simp] theorem cnt_polOrphanUnscreened (i k : Nat) : polOrphanUnscreened (cnt s i k) = polOrphanUnscreened s := by unfold cnt; split <;> rfl
@[simp] theorem cnt_polArbiter (i k : Nat) : polArbiter (cnt s i k) = polArbiter s := by unfold cnt; split <;> rfl
@[simp] theorem cnt_polBackup (i k : Nat) : polBackup (cnt s i k) = polBackup s := by unfold cnt; split <;> rfl
@[simp] theorem cnt_classOf (i k : Nat) (n : Nat) : classOf (cnt s i k) n = classOf s n := by unfold cnt; split <;> rfl
@[simp] theorem cnt_classAssigned (i k : Nat) (c : Nat) : classAssigned (cnt s i k) c = classAssigned s c := by unfold cnt; split <;> rfl
@[simp] theorem cnt_contractOf (i k : Nat) (n : Nat) : contractOf (cnt s i k) n = contractOf s n := by unfold cnt; split <;> rfl
@[simp] theorem cnt_jobMode (i k : Nat) : jobMode (cnt s i k) = jobMode s := by unfold cnt; split <;> rfl
@[simp] theorem cnt_isDecode (i k : Nat) : isDecode (cnt s i k) = isDecode s := by unfold cnt; split <;> rfl
@[simp] theorem cnt_isUndo (i k : Nat) : isUndo (cnt s i k) = isUndo s := by unfold cnt; split <;> rfl
@[simp] theorem cnt_mirMode (i k : Nat) : mirMode (cnt s i k) = mirMode s := by unfold cnt; split <;> rfl
@[simp] theorem cnt_secState (i k : Nat) : secState (cnt s i k) = secState s := by unfold cnt; split <;> rfl
@[simp] theorem cnt_recovery (i k : Nat) : recovery (cnt s i k) = recovery s := by unfold cnt; split <;> rfl
@[simp] theorem cnt_levelReq (i k : Nat) (c : Nat) : levelReq (cnt s i k) c = levelReq s c := by unfold cnt; split <;> rfl
@[simp] theorem cnt_levelDefault (i k : Nat) (c : Nat) : levelDefault (cnt s i k) c = levelDefault s c := by unfold cnt; split <;> rfl
@[simp] theorem cnt_classLevel (i k : Nat) (con : Nat) (replay : Bool) (forced : Bool) : classLevel (cnt s i k) con replay forced = classLevel s con replay forced := by unfold cnt; split <;> rfl
@[simp] theorem cnt_levelEff (i k : Nat) (c : Nat) : levelEff (cnt s i k) c = levelEff s c := by unfold cnt; split <;> rfl
@[simp] theorem cnt_levelEffWord (i k : Nat) : levelEffWord (cnt s i k) = levelEffWord s := by unfold cnt; split <;> rfl
@[simp] theorem cnt_lawActive (i k : Nat) : lawActive (cnt s i k) = lawActive s := by unfold cnt; split <;> rfl
@[simp] theorem cnt_groupServes (i k : Nat) (n : Nat) : groupServes (cnt s i k) n = groupServes s n := by unfold cnt; split <;> rfl
@[simp] theorem cnt_riserUp (i k : Nat) (n : Nat) : riserUp (cnt s i k) n = riserUp s n := by unfold cnt; split <;> rfl
@[simp] theorem cnt_clusterOut (i k : Nat) (n : Nat) : clusterOut (cnt s i k) n = clusterOut s n := by unfold cnt; split <;> rfl
@[simp] theorem cnt_isArmed (i k : Nat) : isArmed (cnt s i k) = isArmed s := by unfold cnt; split <;> rfl
@[simp] theorem cnt_chan (i k : Nat) (c : Nat) : chan (cnt s i k) c = chan s c := by unfold cnt; split <;> rfl
@[simp] theorem cnt_netMsg (i k : Nat) (tag : Nat) : netMsg (cnt s i k) tag = netMsg s tag := by unfold cnt; split <;> rfl
@[simp] theorem cnt_krpReady (i k : Nat) : krpReady (cnt s i k) = krpReady s := by unfold cnt; split <;> rfl
@[simp] theorem cnt_lockedNow (i k : Nat) (off : Nat) : lockedNow (cnt s i k) off = lockedNow s off := by unfold cnt; split <;> rfl
@[simp] theorem cnt_deniedAt (i k : Nat) (rq : Acc) (off : Nat) (write : Bool) : deniedAt (cnt s i k) rq off write = deniedAt s rq off write := by unfold cnt; split <;> rfl
@[simp] theorem cnt_remapOf (i k : Nat) (l : Nat) : remapOf (cnt s i k) l = remapOf s l := by unfold cnt; split <;> rfl
@[simp] theorem cnt_fenced (i k : Nat) (n : Nat) : fenced (cnt s i k) n = fenced s n := by unfold cnt; split <;> rfl
@[simp] theorem cnt_chkServes (i k : Nat) (n : Nat) : chkServes (cnt s i k) n = chkServes s n := by unfold cnt; split <;> rfl
@[simp] theorem cnt_adoptedBy (i k : Nat) (a : Nat) : adoptedBy (cnt s i k) a = adoptedBy s a := by unfold cnt; split <;> rfl
@[simp] theorem cnt_neighbours (i k : Nat) (n : Nat) : neighbours (cnt s i k) n = neighbours s n := by unfold cnt; split <;> rfl
@[simp] theorem cnt_eligible (i k : Nat) (a : Nat) : eligible (cnt s i k) a = eligible s a := by unfold cnt; split <;> rfl
@[simp] theorem cnt_chooseAdopter (i k : Nat) (n : Nat) (pref : Option Nat) : chooseAdopter (cnt s i k) n pref = chooseAdopter s n pref := by unfold cnt; split <;> rfl
@[simp] theorem cnt_chooseSpare (i k : Nat) (p : Nat) : chooseSpare (cnt s i k) p = chooseSpare s p := by unfold cnt; split <;> rfl
@[simp] theorem cnt_listed (i k : Nat) (n : Nat) : listed (cnt s i k) n = listed s n := by unfold cnt; split <;> rfl
@[simp] theorem cnt_unserved (i k : Nat) (n : Nat) : unserved (cnt s i k) n = unserved s n := by unfold cnt; split <;> rfl
@[simp] theorem cnt_structAllowed (i k : Nat) (n : Nat) : structAllowed (cnt s i k) n = structAllowed s n := by unfold cnt; split <;> rfl
@[simp] theorem cnt_chkIdle (i k : Nat) (n : Nat) : chkIdle (cnt s i k) n = chkIdle s n := by unfold cnt; split <;> rfl
@[simp] theorem cnt_selfAllowed (i k : Nat) (n : Nat) : selfAllowed (cnt s i k) n = selfAllowed s n := by unfold cnt; split <;> rfl
@[simp] theorem cnt_testsOpen (i k : Nat) (n : Nat) : testsOpen (cnt s i k) n = testsOpen s n := by unfold cnt; split <;> rfl
@[simp] theorem cnt_fuseBad (i k : Nat) (n : Nat) (chk : Bool) : fuseBad (cnt s i k) n chk = fuseBad s n chk := by unfold cnt; split <;> rfl
@[simp] theorem cnt_overrideOf (i k : Nat) (n : Nat) (chk : Bool) : overrideOf (cnt s i k) n chk = overrideOf s n chk := by unfold cnt; split <;> rfl
@[simp] theorem cnt_reconCounts (i k : Nat) : reconCounts (cnt s i k) = reconCounts s := by unfold cnt; split <;> rfl
@[simp] theorem cnt_katEntry (i k : Nat) (d : Desc) : katEntry (cnt s i k) d = katEntry s d := by unfold cnt; split <;> rfl
@[simp] theorem cnt_tileState (i k : Nat) (n : Nat) : tileState (cnt s i k) n = tileState s n := by unfold cnt; split <;> rfl
@[simp] theorem cnt_tileTest (i k : Nat) (n : Nat) : tileTest (cnt s i k) n = tileTest s n := by unfold cnt; split <;> rfl
@[simp] theorem cnt_spareP (i k : Nat) (p : Nat) : spareP (cnt s i k) p = spareP s p := by unfold cnt; split <;> rfl
@[simp] theorem cnt_remapView (i k : Nat) (l : Nat) : remapView (cnt s i k) l = remapView s l := by unfold cnt; split <;> rfl
@[simp] theorem cnt_qrsStatus (i k : Nat) : qrsStatus (cnt s i k) = qrsStatus s := by unfold cnt; split <;> rfl
@[simp] theorem cnt_viewQrs (i k : Nat) (off : Nat) : viewQrs (cnt s i k) off = viewQrs s off := by unfold cnt; split <;> rfl
@[simp] theorem cnt_entryFor (i k : Nat) (k_ : Nat) : entryFor (cnt s i k) k_ = entryFor s k_ := by unfold cnt; split <;> rfl
@[simp] theorem cnt_queued (i k : Nat) : queued (cnt s i k) = queued s := by unfold cnt; split <;> rfl
@[simp] theorem cnt_queueFull (i k : Nat) : queueFull (cnt s i k) = queueFull s := by unfold cnt; split <;> rfl
@[simp] theorem cnt_grnTag (i k : Nat) (cust : Nat) (ws : List Word) : grnTag (cnt s i k) cust ws = grnTag s cust ws := by unfold cnt; split <;> rfl
@[simp] theorem cnt_recBody (i k : Nat) (r : Rec) (first : Bool) : recBody (cnt s i k) r first = recBody s r first := by unfold cnt; split <;> rfl
@[simp] theorem cnt_recWords (i k : Nat) (r : Rec) (first : Bool) : recWords (cnt s i k) r first = recWords s r first := by unfold cnt; split <;> rfl
@[simp] theorem cnt_recValid (i k : Nat) (ws : List Word) : recValid (cnt s i k) ws = recValid s ws := by unfold cnt; split <;> rfl
@[simp] theorem cnt_writable (i k : Nat) : writable (cnt s i k) = writable s := by unfold cnt; split <;> rfl
@[simp] theorem cnt_inFirst (i k : Nat) (n : Nat) : inFirst (cnt s i k) n = inFirst s n := by unfold cnt; split <;> rfl
@[simp] theorem cnt_firstAt (i k : Nat) (n : Nat) : firstAt (cnt s i k) n = firstAt s n := by unfold cnt; split <;> rfl
@[simp] theorem cnt_validRecs (i k : Nat) : validRecs (cnt s i k) = validRecs s := by unfold cnt; split <;> rfl
@[simp] theorem cnt_indexWord (i k : Nat) (o : Nat) : indexWord (cnt s i k) o = indexWord s o := by unfold cnt; split <;> rfl
@[simp] theorem cnt_crashWord (i k : Nat) (o : Nat) : crashWord (cnt s i k) o = crashWord s o := by unfold cnt; split <;> rfl
@[simp] theorem cnt_slotWords (i k : Nat) (area : Nat) (slot : Nat) : slotWords (cnt s i k) area slot = slotWords s area slot := by unfold cnt; split <;> rfl
@[simp] theorem cnt_granBytes (i k : Nat) (o : Nat) : granBytes (cnt s i k) o = granBytes s o := by unfold cnt; split <;> rfl
@[simp] theorem cnt_recorderStatus (i k : Nat) : recorderStatus (cnt s i k) = recorderStatus s := by unfold cnt; split <;> rfl
@[simp] theorem cnt_viewRecorder (i k : Nat) (off : Nat) : viewRecorder (cnt s i k) off = viewRecorder s off := by unfold cnt; split <;> rfl
@[simp] theorem cnt_jnlKept (i k : Nat) : jnlKept (cnt s i k) = jnlKept s := by unfold cnt; split <;> rfl
@[simp] theorem cnt_resetRec (i k : Nat) : resetRec (cnt s i k) = resetRec s := by unfold cnt; split <;> rfl
@[simp] theorem cnt_supplyKept (i k : Nat) : supplyKept (cnt s i k) = supplyKept s := by unfold cnt; split <;> rfl
@[simp] theorem cnt_opOf (i k : Nat) (x : Nat) (uid : Nat) : opOf (cnt s i k) x uid = opOf s x uid := by unfold cnt; split <;> rfl
@[simp] theorem cnt_pipKeys (i k : Nat) : pipKeys (cnt s i k) = pipKeys s := by unfold cnt; split <;> rfl
@[simp] theorem cnt_reduction (i k : Nat) (p : Nat) : reduction (cnt s i k) p = reduction s p := by unfold cnt; split <;> rfl
@[simp] theorem cnt_pipDensity (i k : Nat) (n : Nat) (con : Contract) (lv : Level) (d : Desc) : pipDensity (cnt s i k) n con lv d = pipDensity s n con lv d := by unfold cnt; split <;> rfl
@[simp] theorem cnt_drawnGrains (i k : Nat) (d : Desc) (dens : Nat) : drawnGrains (cnt s i k) d dens = drawnGrains s d dens := by unfold cnt; split <;> rfl
@[simp] theorem cnt_chipNo (i k : Nat) : chipNo (cnt s i k) = chipNo s := by unfold cnt; split <;> rfl
@[simp] theorem cnt_instNo (i k : Nat) : instNo (cnt s i k) = instNo s := by unfold cnt; split <;> rfl
@[simp] theorem cnt_deviceId (i k : Nat) : deviceId (cnt s i k) = deviceId s := by unfold cnt; split <;> rfl
@[simp] theorem cnt_jobKeyFor (i k : Nat) (job : Nat) : jobKeyFor (cnt s i k) job = jobKeyFor s job := by unfold cnt; split <;> rfl
@[simp] theorem cnt_secTarget (i k : Nat) : secTarget (cnt s i k) = secTarget s := by unfold cnt; split <;> rfl
@[simp] theorem cnt_secBlank (i k : Nat) : secBlank (cnt s i k) = secBlank s := by unfold cnt; split <;> rfl
@[simp] theorem cnt_tamperLock (i k : Nat) : tamperLock (cnt s i k) = tamperLock s := by unfold cnt; split <;> rfl
@[simp] theorem cnt_reprovisionId (i k : Nat) : reprovisionId (cnt s i k) = reprovisionId s := by unfold cnt; split <;> rfl
@[simp] theorem cnt_attRoot (i k : Nat) : attRoot (cnt s i k) = attRoot s := by unfold cnt; split <;> rfl
@[simp] theorem cnt_ownKeys (i k : Nat) (cert : List Byte) : ownKeys (cnt s i k) cert = ownKeys s cert := by unfold cnt; split <;> rfl
@[simp] theorem cnt_unwrapKey (i k : Nat) (blob : List Byte) (key : List Byte) : unwrapKey (cnt s i k) blob key = unwrapKey s blob key := by unfold cnt; split <;> rfl
@[simp] theorem cnt_permitHeld (i k : Nat) (serial : Word) : permitHeld (cnt s i k) serial = permitHeld s serial := by unfold cnt; split <;> rfl
@[simp] theorem cnt_permitFor (i k : Nat) (name : Word) (job : Word) (step : Nat) : permitFor (cnt s i k) name job step = permitFor s name job step := by unfold cnt; split <;> rfl
@[simp] theorem cnt_secStatus (i k : Nat) : secStatus (cnt s i k) = secStatus s := by unfold cnt; split <;> rfl
@[simp] theorem cnt_viewSec (i k : Nat) (off : Nat) : viewSec (cnt s i k) off = viewSec s off := by unfold cnt; split <;> rfl
@[simp] theorem cnt_seqFrozen (i k : Nat) (n : Nat) : seqFrozen (cnt s i k) n = seqFrozen s n := by unfold cnt; split <;> rfl
@[simp] theorem cnt_traceEntry (i k : Nat) (c : Core) (w : Nat) (event : Nat) (faulted : Bool) : traceEntry (cnt s i k) c w event faulted = traceEntry s c w event faulted := by unfold cnt; split <;> rfl
@[simp] theorem cnt_viewSeq (i k : Nat) (off : Nat) : viewSeq (cnt s i k) off = viewSeq s off := by unfold cnt; split <;> rfl
@[simp] theorem cnt_dumpKeys (i k : Nat) : dumpKeys (cnt s i k) = dumpKeys s := by unfold cnt; split <;> rfl
@[simp] theorem cnt_dumpPlace (i k : Nat) (key : Nat) : dumpPlace (cnt s i k) key = dumpPlace s key := by unfold cnt; split <;> rfl
@[simp] theorem cnt_atMarker (i k : Nat) (key : Nat) : atMarker (cnt s i k) key = atMarker s key := by unfold cnt; split <;> rfl
@[simp] theorem cnt_chanAtRest (i k : Nat) (c : Nat) : chanAtRest (cnt s i k) c = chanAtRest s c := by unfold cnt; split <;> rfl
@[simp] theorem cnt_journalWork (i k : Nat) : journalWork (cnt s i k) = journalWork s := by unfold cnt; split <;> rfl
@[simp] theorem cnt_unitQuiet (i k : Nat) (u : Nat) : unitQuiet (cnt s i k) u = unitQuiet s u := by unfold cnt; split <;> rfl
@[simp] theorem cnt_tileQuiet (i k : Nat) (n : Nat) : tileQuiet (cnt s i k) n = tileQuiet s n := by unfold cnt; split <;> rfl
@[simp] theorem cnt_dumpEntryOf (i k : Nat) (key : Nat) (skipped : Bool) : dumpEntryOf (cnt s i k) key skipped = dumpEntryOf s key skipped := by unfold cnt; split <;> rfl
@[simp] theorem cnt_imageBytes (i k : Nat) (key : Nat) : imageBytes (cnt s i k) key = imageBytes s key := by unfold cnt; split <;> rfl
@[simp] theorem cnt_stopWord (i k : Nat) (busy : Bool) : stopWord (cnt s i k) busy = stopWord s busy := by unfold cnt; split <;> rfl
@[simp] theorem cnt_crashHeaderOf (i k : Nat) (status : Word) : crashHeaderOf (cnt s i k) status = crashHeaderOf s status := by unfold cnt; split <;> rfl
@[simp] theorem cnt_rail (i k : Nat) (r : Nat) : rail (cnt s i k) r = rail s r := by unfold cnt; split <;> rfl
@[simp] theorem cnt_allInRange (i k : Nat) : allInRange (cnt s i k) = allInRange s := by unfold cnt; split <;> rfl
@[simp] theorem cnt_clusterPositions (i k : Nat) (k_ : Nat) : clusterPositions (cnt s i k) k_ = clusterPositions s k_ := by unfold cnt; split <;> rfl
@[simp] theorem cnt_droopLimit (i k : Nat) : droopLimit (cnt s i k) = droopLimit s := by unfold cnt; split <;> rfl
@[simp] theorem cnt_supplyStatus (i k : Nat) : supplyStatus (cnt s i k) = supplyStatus s := by unfold cnt; split <;> rfl
@[simp] theorem cnt_viewSupply (i k : Nat) (off : Nat) : viewSupply (cnt s i k) off = viewSupply s off := by unfold cnt; split <;> rfl
@[simp] theorem cnt_replayNow (i k : Nat) : replayNow (cnt s i k) = replayNow s := by unfold cnt; split <;> rfl
@[simp] theorem cnt_forcedNow (i k : Nat) (n : Nat) (d : Desc) : forcedNow (cnt s i k) n d = forcedNow s n d := by unfold cnt; split <;> rfl
@[simp] theorem cnt_screener (i k : Nat) (n : Nat) : screener (cnt s i k) n = screener s n := by unfold cnt; split <;> rfl
@[simp] theorem cnt_counterOf (i k : Nat) (n : Nat) : counterOf (cnt s i k) n = counterOf s n := by unfold cnt; split <;> rfl
@[simp] theorem cnt_fateOf (i k : Nat) (n : Nat) (d : Desc) : fateOf (cnt s i k) n d = fateOf s n d := by unfold cnt; split <;> rfl
@[simp] theorem cnt_roundNow (i k : Nat) (n : Nat) : roundNow (cnt s i k) n = roundNow s n := by unfold cnt; split <;> rfl
@[simp] theorem cnt_holders (i k : Nat) (n : Nat) (num : Nat) : holders (cnt s i k) n num = holders s n num := by unfold cnt; split <;> rfl
@[simp] theorem cnt_openOps (i k : Nat) (f : Nat → Op → Bool) : openOps (cnt s i k) f = openOps s f := by unfold cnt; split <;> rfl
@[simp] theorem cnt_shellOp (i k : Nat) (o : Op) : shellOp (cnt s i k) o = shellOp s o := by unfold cnt; split <;> rfl
@[simp] theorem cnt_resStatus (i k : Nat) (n : Nat) : resStatus (cnt s i k) n = resStatus s n := by unfold cnt; split <;> rfl
@[simp] theorem cnt_pipStatus (i k : Nat) (n : Nat) : pipStatus (cnt s i k) n = pipStatus s n := by unfold cnt; split <;> rfl
@[simp] theorem cnt_viewScreen (i k : Nat) (n : Nat) (off : Nat) : viewScreen (cnt s i k) n off = viewScreen s n off := by unfold cnt; split <;> rfl
@[simp] theorem cnt_sensor (i k : Nat) (x : Nat) : sensor (cnt s i k) x = sensor s x := by unfold cnt; split <;> rfl
@[simp] theorem cnt_sensEntry (i k : Nat) (x : Nat) : sensEntry (cnt s i k) x = sensEntry s x := by unfold cnt; split <;> rfl
@[simp] theorem cnt_sensOn (i k : Nat) (x : Nat) : sensOn (cnt s i k) x = sensOn s x := by unfold cnt; split <;> rfl
@[simp] theorem cnt_sensMasked (i k : Nat) (x : Nat) : sensMasked (cnt s i k) x = sensMasked s x := by unfold cnt; split <;> rfl
@[simp] theorem cnt_sensPart (i k : Nat) (x : Nat) : sensPart (cnt s i k) x = sensPart s x := by unfold cnt; split <;> rfl
@[simp] theorem cnt_sensPartKnown (i k : Nat) (x : Nat) : sensPartKnown (cnt s i k) x = sensPartKnown s x := by unfold cnt; split <;> rfl
@[simp] theorem cnt_thermLaw (i k : Nat) : thermLaw (cnt s i k) = thermLaw s := by unfold cnt; split <;> rfl
@[simp] theorem cnt_ownValue (i k : Nat) (x : Nat) : ownValue (cnt s i k) x = ownValue s x := by unfold cnt; split <;> rfl
@[simp] theorem cnt_replBroken (i k : Nat) (x : Nat) : replBroken (cnt s i k) x = replBroken s x := by unfold cnt; split <;> rfl
@[simp] theorem cnt_sensValue (i k : Nat) (x : Nat) : sensValue (cnt s i k) x = sensValue s x := by unfold cnt; split <;> rfl
@[simp] theorem cnt_disagrees (i k : Nat) (x : Nat) : disagrees (cnt s i k) x = disagrees s x := by unfold cnt; split <;> rfl
@[simp] theorem cnt_judged (i k : Nat) (x : Nat) : judged (cnt s i k) x = judged s x := by unfold cnt; split <;> rfl
@[simp] theorem cnt_lawParts (i k : Nat) : lawParts (cnt s i k) = lawParts s := by unfold cnt; split <;> rfl
@[simp] theorem cnt_hottest (i k : Nat) (l : List Nat) : hottest (cnt s i k) l = hottest s l := by unfold cnt; split <;> rfl
@[simp] theorem cnt_lawOf (i k : Nat) (t : Nat) : lawOf (cnt s i k) t = lawOf s t := by unfold cnt; split <;> rfl
@[simp] theorem cnt_throttleOut (i k : Nat) (p : Nat) : throttleOut (cnt s i k) p = throttleOut s p := by unfold cnt; split <;> rfl
@[simp] theorem cnt_thermStatus (i k : Nat) : thermStatus (cnt s i k) = thermStatus s := by unfold cnt; split <;> rfl
@[simp] theorem cnt_sensorView (i k : Nat) (x : Nat) : sensorView (cnt s i k) x = sensorView s x := by unfold cnt; split <;> rfl
@[simp] theorem cnt_viewThermal (i k : Nat) (off : Nat) : viewThermal (cnt s i k) off = viewThermal s off := by unfold cnt; split <;> rfl
@[simp] theorem cnt_colPositions (i k : Nat) (c : Nat) : colPositions (cnt s i k) c = colPositions s c := by unfold cnt; split <;> rfl
@[simp] theorem cnt_sqAlive (i k : Nat) (n : Nat) : sqAlive (cnt s i k) n = sqAlive s n := by unfold cnt; split <;> rfl
@[simp] theorem cnt_globalStatus (i k : Nat) : globalStatus (cnt s i k) = globalStatus s := by unfold cnt; split <;> rfl
@[simp] theorem cnt_viewTime (i k : Nat) (off : Nat) : viewTime (cnt s i k) off = viewTime s off := by unfold cnt; split <;> rfl
@[simp] theorem cnt_verifyGroup (i k : Nat) (g : Nat) (ws : List Word) : verifyGroup (cnt s i k) g ws = verifyGroup s g ws := by unfold cnt; split <;> rfl
@[simp] theorem cnt_verifyPolicy (i k : Nat) (ws : List Word) : verifyPolicy (cnt s i k) ws = verifyPolicy s ws := by unfold cnt; split <;> rfl
@[simp] theorem cnt_verifyThermal (i k : Nat) (ws : List Word) : verifyThermal (cnt s i k) ws = verifyThermal s ws := by unfold cnt; split <;> rfl
@[simp] theorem cnt_verifyRegion (i k : Nat) (exists_ : Nat → Bool) (r : Nat) (ws : List Word) : verifyRegion exists_ (cnt s i k) r ws = verifyRegion exists_ s r ws := by unfold cnt; split <;> rfl
@[simp] theorem cnt_viewIdent (i k : Nat) (off : Nat) : viewIdent (cnt s i k) off = viewIdent s off := by unfold cnt; split <;> rfl
@[simp] theorem cnt_viewLadder (i k : Nat) (off : Nat) : viewLadder (cnt s i k) off = viewLadder s off := by unfold cnt; split <;> rfl
@[simp] theorem cnt_viewGlobal (i k : Nat) (off : Nat) : viewGlobal (cnt s i k) off = viewGlobal s off := by unfold cnt; split <;> rfl
@[simp] theorem cnt_tileRing (i k : Nat) (n : Nat) : tileRing (cnt s i k) n = tileRing s n := by unfold cnt; split <;> rfl
@[simp] theorem cnt_viewTile (i k : Nat) (n : Nat) (off : Nat) : viewTile (cnt s i k) n off = viewTile s n off := by unfold cnt; split <;> rfl
@[simp] theorem cnt_riserStops (i k : Nat) (off : Nat) : riserStops (cnt s i k) off = riserStops s off := by unfold cnt; split <;> rfl
@[simp] theorem cnt_jobSize (i k : Nat) : jobSize (cnt s i k) = jobSize s := by unfold cnt; split <;> rfl
@[simp] theorem cnt_treePos (i k : Nat) (root : Nat) : treePos (cnt s i k) root = treePos s root := by unfold cnt; split <;> rfl
@[simp] theorem cnt_rankAt (i k : Nat) (root : Nat) (q : Nat) : rankAt (cnt s i k) root q = rankAt s root q := by unfold cnt; split <;> rfl
@[simp] theorem cnt_chipOf (i k : Nat) (rank : Nat) : chipOf (cnt s i k) rank = chipOf s rank := by unfold cnt; split <;> rfl
@[simp] theorem cnt_ranksHeld (i k : Nat) (rs : List Nat) : ranksHeld (cnt s i k) rs = ranksHeld s rs := by unfold cnt; split <;> rfl
@[simp] theorem cnt_treeRanks (i k : Nat) (root : Nat) : treeRanks (cnt s i k) root = treeRanks s root := by unfold cnt; split <;> rfl
@[simp] theorem cnt_voteRanks (i k : Nat) : voteRanks (cnt s i k) = voteRanks s := by unfold cnt; split <;> rfl
@[simp] theorem cnt_chipVote (i k : Nat) (vs : List (Nat × Nat × Bool × Nat)) : chipVote (cnt s i k) vs = chipVote s vs := by unfold cnt; split <;> rfl
@[simp] theorem cnt_packageVote (i k : Nat) : packageVote (cnt s i k) = packageVote s := by unfold cnt; split <;> rfl
@[simp] theorem cnt_treeOf (i k : Nat) (re : Bool) : treeOf (cnt s i k) re = treeOf s re := by unfold cnt; split <;> rfl
@[simp] theorem cnt_rootOf (i k : Nat) (re : Bool) : rootOf (cnt s i k) re = rootOf s re := by unfold cnt; split <;> rfl
@[simp] theorem cnt_voteHears (i k : Nat) (job : Nat) (auth : Bool) : voteHears (cnt s i k) job auth = voteHears s job auth := by unfold cnt; split <;> rfl
@[simp] theorem cnt_thisRun (i k : Nat) (step : Nat) (replayNo : Nat) : thisRun (cnt s i k) step replayNo = thisRun s step replayNo := by unfold cnt; split <;> rfl
@[simp] theorem cnt_keepsDecisions (i k : Nat) : keepsDecisions (cnt s i k) = keepsDecisions s := by unfold cnt; split <;> rfl
@[simp] theorem cnt_recordedFor (i k : Nat) (step : Nat) (replayNo : Nat) : recordedFor (cnt s i k) step replayNo = recordedFor s step replayNo := by unfold cnt; split <;> rfl
@[simp] theorem cnt_stepDecisions (i k : Nat) : stepDecisions (cnt s i k) = stepDecisions s := by unfold cnt; split <;> rfl
@[simp] theorem cnt_accepts (i k : Nat) (d : Decision) : accepts (cnt s i k) d = accepts s d := by unfold cnt; split <;> rfl
@[simp] theorem cnt_absentVote (i k : Nat) (root : Nat) (c : Nat) : absentVote (cnt s i k) root c = absentVote s root c := by unfold cnt; split <;> rfl
@[simp] theorem cnt_verdictWord (i k : Nat) : verdictWord (cnt s i k) = verdictWord s := by unfold cnt; split <;> rfl
@[simp] theorem cnt_voteHeld (i k : Nat) : voteHeld (cnt s i k) = voteHeld s := by unfold cnt; split <;> rfl
@[simp] theorem cnt_opsIn (i k : Nat) (mark : Nat) : opsIn (cnt s i k) mark = opsIn s mark := by unfold cnt; split <;> rfl
@[simp] theorem cnt_verdictsIn (i k : Nat) : verdictsIn (cnt s i k) = verdictsIn s := by unfold cnt; split <;> rfl
@[simp] theorem cnt_verdictOf (i k : Nat) : verdictOf (cnt s i k) = verdictOf s := by unfold cnt; split <;> rfl
@[simp] theorem cnt_verdictDue (i k : Nat) : verdictDue (cnt s i k) = verdictDue s := by unfold cnt; split <;> rfl
@[simp] theorem cnt_stateSig (i k : Nat) : stateSig (cnt s i k) = stateSig s := by unfold cnt; split <;> rfl
@[simp] theorem cnt_lastReplay (i k : Nat) (n : Nat) : lastReplay (cnt s i k) n = lastReplay s n := by unfold cnt; split <;> rfl
@[simp] theorem cnt_epochBefore (i k : Nat) (n : Nat) : epochBefore (cnt s i k) n = epochBefore s n := by unfold cnt; split <;> rfl
@[simp] theorem cnt_tileBusy (i k : Nat) (n : Nat) : tileBusy (cnt s i k) n = tileBusy s n := by unfold cnt; split <;> rfl
@[simp] theorem cnt_replaying (i k : Nat) (n : Nat) : replaying (cnt s i k) n = replaying s n := by unfold cnt; split <;> rfl
@[simp] theorem cnt_suspectWork (i k : Nat) (n : Nat) (ctx : Nat) : suspectWork (cnt s i k) n ctx = suspectWork s n ctx := by unfold cnt; split <;> rfl

end Sys2Proof.Machine
end

