-- ==== Sys2Proof/Laws/Units.lean ====
section
/-! SUPPORT. What some shared operations of the units leave: the order of positions by logical number depends on the tiles
alone, and the tests that a marker aborts touch neither the step engine nor the collector. -/
namespace Sys2Proof.Machine

set_option Elab.async false

theorem logicalNum_congr {a b : State} (h : a.tiles = b.tiles) (n : Nat) : logicalNum a n = logicalNum b n := by
  simp only [logicalNum, pos, tile, h]

theorem insertLogical_congr {a b : State} (h : a.tiles = b.tiles) (n : Nat) (l : List Nat) :
    insertLogical a n l = insertLogical b n l := by
  induction l with
  | nil => rfl
  | cons m l ih => simp only [insertLogical, logicalNum_congr h, ih]

/-- The order by logical number depends on the tiles alone. -/
theorem byLogical_congr {a b : State} (h : a.tiles = b.tiles) (l : List Nat) : byLogical a l = byLogical b l := by
  have : (fun l n => insertLogical a n l) = fun l n => insertLogical b n l := by
    funext l n; exact insertLogical_congr h n l
  simp only [byLogical, this]

/-- A self-test in which no run fails names no unit (R214). -/
theorem firstFail_none : ∀ (clean injected : List Nat), (∀ u ∈ clean ++ injected, u = 0) → firstFail clean injected = none
  | [], _, _ => by simp [firstFail]
  | c :: cs, [], h => by
    have hc : c = 0 := h c (by simp)
    simp only [firstFail, hc, bne_self_eq_false, Bool.false_eq_true, if_false]
    exact firstFail_none cs [] fun u hu => h u (by simp at hu ⊢; exact .inr hu)
  | c :: cs, i :: is, h => by
    have hc : c = 0 := h c (by simp)
    have hi : i = 0 := h i (by simp)
    simp only [firstFail, hc, hi, bne_self_eq_false, Bool.false_eq_true, if_false]
    exact firstFail_none cs is fun u hu => h u (by simp at hu ⊢; rcases hu with hu | hu <;> simp [hu])

/-- What a walk keeps at every element it keeps as a whole. -/
theorem forEach_inv {α β : Type} (H : State → β) {f : State → α → State} (hf : ∀ s x, H (f s x) = H s) (l : List α) (s : State) :
    H (forEach l s f) = H s := by
  unfold forEach
  induction l generalizing s with
  | nil => rfl
  | cons a l ih => rw [List.foldl_cons, ih, hf]

/-- The step engine and the collector of a state. -/
def engFault (s : State) : StepUnit × FaultUnit := (s.step, s.fault)

@[simp] theorem engFault_bringTest (s : State) (n code : Nat) : engFault (bringTest s n code) = engFault s := by
  unfold bringTest; dsimp only; split <;> rfl

@[simp] theorem engFault_testEnded (s : State) (n : Nat) (by_ : TestBy) (code : Nat) :
    engFault (testEnded s n by_ code) = engFault s := by
  cases by_ with
  | cmd => unfold testEnded qrsEnds; dsimp only; split <;> rfl
  | bringup => exact engFault_bringTest s n code
  | arb => rfl
  | auto => rfl

/-- An aborted structural test leaves the step engine and the collector. -/
theorem engFault_structEnds (s : State) (n : Nat) : engFault (structEnds s n 3) = engFault s := by
  unfold structEnds
  split
  · rfl
  · simp; rfl

theorem engFault_markerAborts (s : State) : engFault (markerAborts s) = engFault s := by
  unfold markerAborts
  exact forEach_inv engFault engFault_structEnds _ _

/-- A marker's abort of tests leaves the step engine. -/
@[simp] theorem markerAborts_step (s : State) : (markerAborts s).step = s.step := congrArg Prod.fst (engFault_markerAborts s)

/-- It leaves the collector. -/
@[simp] theorem markerAborts_fault (s : State) : (markerAborts s).fault = s.fault := congrArg Prod.snd (engFault_markerAborts s)

/-- A security state other than the one that stands is taken: MODE_GEN counts it, and the instruments it disables leave the scan
path (R236, R438, R444). -/
theorem takeState_ne {s : State} {st : SecState} (h : secState s ≠ st) (pend : Bool) (count : Nat) :
    takeState s st pend count =
      modSec { bumpGen s with shell := scanPath st s.shell } fun u => { u with state := some st, lockPending := pend, provisions := count } := by
  simp [takeState, h]

@[simp] theorem secState_putState (s : State) (st : SecState) (p : Bool) (c : Nat) : secState (putState s st p c) = secState s := rfl

end Sys2Proof.Machine
end

