-- ==== Sys2Proof/Tests/Slice0.lean ====
section
/-! SUPPORT. Tests: ill-formed commands, the manual's worked examples, a few commands, and for each statement of
Certificates/Slice0/Obligations.lean states and operands that meet what it assumes. -/
namespace Sys2Proof.Tests

set_option Elab.async false
open Machine

/-- A small build (R3). -/
def b64 : Build := { cols := 8, memPorts := 1, partitions := 2, spares := 4, tiles := 64 }

/-! ### Commands that cannot happen -/

/-- For each check of `wellFormed` a command that breaks it. -/
def illFormed : List Instr :=
  let a : Acc := { id := 1 }
  [.riserDown 8, .tapDescWord 64 0 true, .tapBeat 64 .a 0 0 0 true [] [], .tapBeat 0 .a 16 0 0 true [] [], .pipOutcome 64,
   .verdictLate 3 0, .verdictLate 0 64, .beaconSample 64 0, .hang 64, .tileRstReq 64, .tileRstReqFall 64,
   .fwdMarker (2 ^ 32) false 0, .fwdMarker 0 false (2 ^ 57), .bwdMarker (2 ^ 32) {}, .bwdMarker 0 { arg := 2 ^ 57 },
   .exchMarker { mb := 2 ^ 32 }, .updMarker { arg := 2 ^ 57 }, .endMarker { mb := 2 ^ 32 }, .bringupDone [0, 8],
   .krpRequest 0 (2 ^ 24) false 0 true, .krpGrantTimeout 0 (2 ^ 24) false 0 true, .registerWrite (2 ^ 24) 0 a,
   .lossScalar 0 (2 ^ 57), .gradNormScalar { arg := 2 ^ 57 }, .gradNormScalar { mb := 2 ^ 32 }, .resMismatchAck 4096 0 a, .pipMismatchAck 4096 0 a,
   .structTestDone 64 [], .structTestTimeout 64, .selftestDone 64 [] [], .selftestDone 0 [16] [], .selftestDone 0 [] [16], .selftestTimeout 64, .spareTestInterval 64,
   .reactionTimerExpiry 16, .partRstAck 2 [], .partRstAck 0 [8], .dmaPost 8 0 0 0 .undoList [], .memResponse 8 0 0 [],
   .memTimeout 8, .memReqTimeout 8, .dmaResume 8 a, .dmaAbandon 8 a, .drainEnd 128] ++
  [.ldi 4, .shi 4, .add 4, .sub 4, .andR 4, .orR 4, .xorR 4, .sh 4, .addi 4, .ld 4, .st 4, .ldb 4, .stb 4, .cmp 4, .br 4,
   .jal 4, .jr 4, .waitR 4, .waitReturn 4, .sqTimer 4, .sqTime 4, .post 4, .mbox 4, .esc 4, .sqDma 4, .raiseR 4,
   .sqTimerExpiry 4 0, .sqTimerExpiry 0 3, .sqStall 4 true, .controlOverload 4 0, .controlOverload 0 19, .seqRestart 4 a,
   .seqFreeze 4 a, .seqThaw 4 a, .mbInPtr 256 0 a, .mbInDb 256 0 a, .mbOutRxDone 256 0 a, .mbOutDb 256 0 a,
   .collisionClear 256 true 0 a, .outAckWaitTimeout 8, .mbInRxDone 256 0 0, .mbInRxDone 0 0 4, .mbInDbClr 256 0 0,
   .mbInDbClr 0 0 4, .tsensReading 256 0, .tsensReading 0 4096, .onDieSensorRead 4 0, .onDieSensorRead 0 4096,
   .sensorTimeout 512, .sensorStuck 512, .sensorRecover 512, .railOut 5, .railIn 5, .clusterVddcOut 4, .clusterVddcIn 4]

theorem test_ill_formed_refused : illFormed.all (fun i => !(wellFormed b64 i)) = true := by decide +kernel

/-- The fault an outcome ends in. -/
def faultOf (o : Host.Outcome State Fault Refusal) : Option Fault := match o with | .fault f => some f | _ => none

theorem test_ill_formed_stops : illFormed.all (fun i => faultOf (exec i { build := b64 }) == some .noSuchUnit) = true := by
  decide +kernel

/-- The top of each range is well formed. -/
theorem test_well_formed : [Instr.riserDown 7, .hang 63, .tapBeat 63 .c 15 0 0 true [] [], .verdictLate 2 63,
    .fwdMarker (2 ^ 32 - 1) true (2 ^ 57 - 1), .registerWrite (2 ^ 24 - 1) 0 {}, .lossScalar 0 (2 ^ 57 - 1), .selftestDone 63 [15] [15], .drainEnd 127,
    .dmaResume 7 {}, .partRstAck 1 [7], .sqTimerExpiry 3 2, .controlOverload 3 18, .mbInDbClr 255 0 3, .mbInPtr 255 0 {}, .outAckWaitTimeout 7, .tsensReading 255 4095,
    .sensorStuck 511, .railIn 4, .clusterVddcIn 3].all (wellFormed b64) = true := by decide +kernel

/-! ### Worked examples of the manual -/

/-- The reference integration (00_scope): 2,304 tiles, 64 spares, 9 partitions, 5 MEM ports, 48 columns. -/
def bRef : Build := { cols := 48, memPorts := 5, partitions := 9, spares := 64, tiles := 2304 }
/-- A state after a command, the reset state of no interest after a stop. -/
def aft (o : Host.Outcome State Fault Refusal) : State := match o with | .next t => t | _ => {}

/-- 00_scope: IDENT_IP_VERSION and IDENT_CONFIG. -/
theorem test_ident : readReg { build := bRef } 0x000008 = some 0x40200 ∧
    bRef.identConfig = 0x0030050900400900 ∧ bRef.logical = 2240 := by decide +kernel

/-- 01, GLOBAL_RATE: a spine at 2.0 G tokens/s. -/
theorem test_global_rate :
    readReg (aft (exec (.rateWindowEnd 2000 1500 1) { build := b64 })) 0x001010 = some 0x5DC07D0 := by decide +kernel

/-- 02: four products under the two declared orders (binary16, roundTiesToEven, PAIRWISE with LEAF_LOG2 = 1). -/
theorem test_orders :
    let ps := [flInt 2048 0, flInt 1 0, flInt 1 0, flInt 1 0]
    let c : Contract := { w0 := 0x0002000200020200 }
    flEq (orderedResult { c with w1 := 1 } ps) (flInt 2048 0) = true ∧
    flEq (orderedResult { c with w1 := 0x102 } ps) (flInt 2050 0) = true := by decide +kernel

/-- 03: three conversions of the MXFP8 product, and the residues of its results (FX96E, q = -3). -/
theorem test_residues :
    resFl (decodeElem 0x10 0x3C 0x7F) = some 1073741825 ∧ resFl (decodeElem 0x10 0xBA 0x80) = some 1073741821 ∧
    resFl (decodeElem 0x10 0x28 0x7F) = some 536870912 ∧ resMQ 4 (-3) = 1073741824 ∧ resMQ (-44) (-3) = 1073741818 ∧
    resMQ (-13) (-3) = 805306366 ∧ resMQ (-14) (-3) = 536870910 := by decide +kernel

/-- 16: the descriptor of operation 0x0113 and its expected beats. -/
theorem test_descriptor :
    let d := descOf [0x0000011300000017, 0x0000000307010000, 0x10103100FFFFFFFD, 0x0000000200000002, 0x0000002000010000, 0]
    streamBeats d .a = 2 ∧ streamBeats d .b = 2 ∧ streamBeats d .c = 2 ∧ streamUsed d .b = true := by decide +kernel

/-- 08: class 3 demoted to SAMPLE in DECODE; MODE_REFUSED. -/
theorem test_mode_refused :
    let s := aft (exec (.modeLevelReqWrite 0x800 { id := 1 }) { build := b64, step := { eng := { config := 4 } } })
    readReg s 0x001128 = some 0x8013000100400000 := by decide +kernel

/-- 09: MEM_TIMEOUT of channel 1, then JNL_WRITE_FAIL; the pending bits and the first-error record. -/
theorem test_first_error :
    let a := concluded { build := b64 } (raiseMem { build := b64 } 0x8802 1 0x43A200040 true)
    let s := concluded a (raiseI a 0x3801 0)
    s.fault.first.info = 0x8100000100018802 ∧ readReg s 0x010008 = some 0x0000010800000000 ∧
    fcode 8 2 2 = 0x8802 ∧ fcode 3 2 1 = 0x3801 := by decide +kernel

/-- 11: the ID words of a FAULT record, before and after a storm of which 4,992 were suppressed. -/
theorem test_record_id :
    recId { code := 0x0402, type := 1, flags := 2, master := 1207 } false = 0x04020102000004B7 ∧
    recId { code := 0x0402, type := 1, flags := 2, suppressed := 4992, master := 1207 } false = 0x04020102138004B7 := by
  decide +kernel

/-- 14: WAIT of lines 0 and 2 returns line 2, 37,500 ticks after the previous entry; LDB retires 310 ticks later. -/
theorem test_trace :
    let t : TimeKeep := { state := .tracking, time := 37500 }
    let c : Machine.Core := { pc := 0x40 }
    traceEntry { build := b64, time := t } c 0x90800005 2 false = 0x020481000000927C ∧
    traceEntry { build := b64, time := { t with time := 37810 } } { c with pc := 0x41, lastStamp := 37500 } 0x61010008 0 false
      = 0x020B000000000136 ∧ iOp 0x90800005 = 0x12 ∧ iRd 0x90800005 = 1 ∧ iImm 0x90800005 = 5 := by decide +kernel

/-- 15: crossed posts on S1: the status words of the two slots and MB_BLOCK_EPOCH. -/
theorem test_mailbox :
    slotStatus true false 5 0x031A3301 = 0x80000005031A3301 ∧ slotStatus true false 0xC 7 = 0x8000000C00000007 ∧
    (setEpoch { build := b64, mail := { resume := 0x31A33, starts := 1 } }).mail.blockEpoch = 0x031A3301 := by decide +kernel

/-- 18: L, R and H of a maximum of 104.0 °C, of 91.5 °C and of a broken sensor. -/
theorem test_thermal_law :
    lawOf { build := b64 } 1344 = (144, 255, 107) ∧ lawOf { build := b64 } 1244 = (0, 0, 0) ∧
    lawOf { build := b64 } 1712 = (255, 255, 255) := by decide +kernel

/-- 18: sensor 296 has the on-die neighbours 56, 57, 68 and 69, which read 88.5, 89.0, 90.0 and 91.5 °C; 104.0 °C is accepted,
104.75 °C breaks it (CAUSE NEIGHBOUR). -/
def drift (code : Nat) : Nat × Bool × Nat :=
  let r (raw : Nat) : Sensor := { raw := raw, read := true }
  let on : Word := BitVec.ofNat 64 (2 ^ 63)
  let entry : Word := BitVec.ofNat 64 (2 ^ 63 + 56 + 57 * 2 ^ 9 + 68 * 2 ^ 18 + 69 * 2 ^ 27)
  let words := (upto 306).map fun i => if i = 8 + 296 then entry else on
  let s : State := { build := b64, thermal := { words := some words, sensors := [(56, r 1220), (57, r 1224), (68, r 1232), (69, r 1244)] } }
  let q := sensor (takeReading 296 code s) 296
  (q.raw, q.broken, q.cause)

theorem test_neighbours : drift 1344 = (1344, false, 0) ∧ drift 1350 = (1350, true, 4) := by decide +kernel

/-- 22: TILE_CNT before and after CLEAR_START with TAG 8, and TILE_RING of the frozen ring. -/
theorem test_counters :
    cntView [(2, 3)] 7 2 = 0x0007000000000003 ∧ cntView [] 8 2 = 0x0008000000000000 ∧
    tileRing { build := b64, tiles := [(9, { obs := { written := 0xC41, frozen := true } })] } 9 = 0x8000000000000C41 := by
  decide +kernel

/-- 23: the window of tile 1,207 holds PIP_MISMATCH at 0x22_DC30. -/
theorem test_addresses : tileAt 0x22DC30 = 1207 ∧ inTiles 0x22DC30 = true ∧ (0x22DC30 - 0x100000) % 0x400 = 0x30 := by decide +kernel

/-- 23: a tile window at or above PHYS_TILES completes with NOREG. -/
theorem test_unbuilt_window :
    (aft (exec (.resMismatchAck 64 0 { id := 1 }) { build := b64 })).shell.krp = [⟨2, 1, 0⟩] ∧
    (aft (exec (.pipMismatchAck 4095 0 { id := 1 }) { build := b64 })).shell.krp = [⟨2, 1, 0⟩] := by decide +kernel

/-! ### Single commands -/

/-- R23: the first sample becomes TIME. -/
theorem test_time_sample : (aft (exec (.timeSample 5 0) { build := b64 })).time.time = 5 := by decide +kernel

/-- R131: a marker of an unarmed engine opens nothing. -/
theorem test_marker_unarmed :
    (aft (exec (.fwdMarker 0 false 0) { build := b64 })).step.eng = ({ build := b64 } : State).step.eng := by decide +kernel

/-- R272, R258: an injected WARN of class 13, index 6 sets bit 13 of the WARN field of FAULT_PENDING. -/
theorem test_inject : fcode 13 1 6 = 0xD406 ∧
    (aft (exec (.faultInject 0xD406 { id := 1 }) { build := b64 })).fault.pending = BitVec.ofNat 64 (2 ^ (16 + 13)) := by
  decide +kernel

/-- R417, R414: a cluster's excursion puts it out and its return puts it back. -/
theorem test_cluster :
    let s := aft (exec (.clusterVddcOut 3) { build := b64 })
    s.supply.clustersOut = [3] ∧ (aft (exec (.clusterVddcIn 3) s)).supply.clustersOut = [] := by decide +kernel

/-- An empty queue idles; a queued command runs and leaves the rest. -/
theorem test_step :
    aft (step { build := b64 }) = { build := b64 } ∧
    (aft (step { build := b64, pending := [.timeSample 5 0, .coverageSummary] })).pending = [.coverageSummary] := by decide +kernel

/-! ### What the statements assume can be: for each of their clauses a state and operands that meet it -/

def hs : Acc := { id := 1 }
def hn : Acc := { id := 0xFFEF, sec := false }
/-- A small build, all risers up. -/
def z : State := { build := b64, time := { risers := upto 8 } }
/-- Regions that are active. -/
def act (rs : List Nat) : Loader := { regions := rs.map fun r => (r, { state := .active }) }
def ent : Word := BitVec.ofNat 64 (2 ^ 63)
/-- A thermal region with every sensor configured. -/
def zt : State := { z with thermal := { words := some (List.replicate 1024 ent) } }

theorem wit_TimeKeeping :
    (let s := { z with time := { z.time with state := .tracking } }
     Running s ∧ bitOf 1000000 63 = false ∧ s.time.state = .tracking ∧ s.time.time < (1000000 : Word).toNat ∧ (1000000 : Word).toNat ≤ s.time.time + 1000000) ∧
    (let s := { z with time := { z.time with state := .lost, heard := 7 } }
     Running s ∧ s.time.state = .lost ∧ s.time.good = 0 ∧ bitOf 8 63 = false ∧ s.time.heard < (8 : Word).toNat) ∧
    (let s := { z with time := { z.time with state := .lost, heard := 7, good := 1 } }
     Running s ∧ s.time.state = .lost ∧ s.time.good ≠ 0 ∧ s.time.heard < (8 : Word).toNat) ∧
    (Running z ∧ z.time.slow = false ∧ 1499 < 1500) ∧ (7 < z.build.cols ∧ 7 ∈ z.time.risers) := by decide +kernel

theorem wit_SensorReadings :
    (Running zt ∧ 255 < 256 ∧ 192 ≤ 1712 ∧ sensOn zt 511 = true) ∧
    (3 < zt.build.clusters ∧ sensOn zt 3 = true ∧ 3 ∉ zt.supply.clustersOut ∧ riserUp zt (zt.build.clusterFirst 3) = true) ∧
    judged zt 511 = true ∧
    (let s := updSensor zt 511 fun r => { r with read := true }
     Running s ∧ judged s 511 = true ∧ (sensor s 511).read = true) ∧
    (let s := updSensor zt 511 fun r => { r with broken := true }
     Running s ∧ (sensor s 511).broken = true ∧ sensMasked s 511 = false) := by decide +kernel

theorem wit_SupplyEvents :
    (Running z ∧ (rail z 4).out = false ∧ (rail z 3).out = false ∧ 4 < 5) ∧
    (3 < z.build.clusters ∧ 3 ∉ z.supply.clustersOut ∧ isDecode z = false ∧ 679 < droopLimit z) ∧
    (let s := { z with supply := { clustersOut := [3] } }
     Running s ∧ 3 < s.build.clusters ∧ 3 ∈ s.supply.clustersOut) := by decide +kernel

theorem wit_SeedFuseAndTamper :
    (let s := { z with shell := { keySeedReady := true } }
     Running s ∧ s.shell.keySeedReady = true ∧
     let v := leNat (wordsBytes ((upto 4).map fun i => BitVec.ofNat 64 (nthN [1, 0, 0, 0] i)))
     v ≠ 0 ∧ v ≠ 2 ^ 256 - 1) ∧
    (let s := { z with shell := { fuseReading := true, fuseBuf := List.replicate 126 0 } }
     Running s ∧ s.shell.fuseReading = true ∧ s.shell.fuseBuf.length < 127 ∧ fuseWordBad s 126 0 = false) ∧
    (let s := { z with shell := { fuseReading := true, fuseBuf := List.replicate 127 0 } }
     Running s ∧ s.shell.fuseReading = true ∧ s.shell.fuseBuf.length = 127 ∧ fuseWordBad s 127 0 = false ∧
       s.bring.busy = false) ∧
    (let s := { z with loader := { security := [256] }, sec := { state := some .open_ } }
     Running s ∧ tamperLock s = true ∧ s.sec.state.isSome = true ∧ secState s ≠ .locked ∧ s.supply.inhibit = false) := by
  decide +kernel

/-- For some value of the free values: the public key is zeros and the hash is 1. -/
theorem wit_SecurityCommands_cert (hk : Config.attPublic 5 = List.replicate 2592 0) (hh : ∀ m, Config.sha3_384 m = 1) :
    let s := { z with
      sec := { state := some .open_, att := some 5, kem := some 6 }, loader := { security := [0, 0, 1, 0, 0, 0, 0, 0] } }
    let cert : List Byte := leBytes 8 1 ++ leBytes 8 1 ++ List.replicate 11384 0
    Running s ∧ Secure hs ∧ s.fault.safe = false ∧ secState s ≠ .locked ∧ s.sec.att.isSome = true ∧ s.sec.kem.isSome = true ∧
    cert.length = 11400 ∧ leNat (cert.take 8) = 1 ∧ s.sec.att.map Config.attPublic = some ((cert.drop 16).take 2592) ∧
    leNat ((cert.drop 8).take 8) = Config.sha3_384 ((cert.drop 16).take 2592) % 2 ^ 64 ∧ s.loader.security ≠ [] ∧
    Config.sha3_384 ((cert.drop 4176).take 2592) = attRoot s := by
  simp only [hh, Option.map_some, hk]
  decide +kernel

theorem wit_SecurityCommands :
    (let s := { z with sec := { state := some .provision, certOk := true }, loader := { security := [2] } }
     Running s ∧ s.fault.safe = false ∧ secState s = .provision ∧ s.sec.state.isSome = true ∧ s.sec.certOk = true ∧
       secTarget s = 2 ∧ s.supply.inhibit = false) ∧
    (let s := { z with sec := { state := some .open_, kem := some 1, arg := 64 } }
     Running s ∧ s.fault.safe = false ∧ secState s = .open_ ∧ isArmed s = false ∧ s.supply.inhibit = false ∧ secState s ≠ .locked ∧ s.sec.arg ≠ 0 ∧
       s.sec.kem.isSome = true) ∧
    (let s := { z with sec := { state := some .sealed_ }, loader := { security := [0] } }
     let ws : List Word := [BitVec.ofNat 64 (1 + 2 ^ 32), 0, 0, 0, 0, 9]
     Running s ∧ s.fault.safe = false ∧ secState s = .sealed_ ∧ (upto 16).find? (fun i => (sget {} s.sec.permits i).uses == 0) = some 0 ∧
       s.loader.security ≠ [] ∧ fld (nthW ws 0) 7 0 = 1 ∧ fld (nthW ws 0) 15 8 = instNo s ∧
       fld (nthW ws 0) 31 16 = chipNo s ∧ fld (nthW ws 0) 47 32 ≠ 0 ∧ permitHeld s (nthW ws 5) = false) := by decide +kernel

theorem wit_SecurityCommands_reprovision (hh : ∀ m, Config.sha3_384 m = 1) :
    let s := { z with sec := { state := some .locked, att := some 5 }, loader := { security := [0, 1] } }
    Running s ∧ s.fault.safe = false ∧ secState s = .locked ∧ s.sec.state.isSome = true ∧ reprovisionId s ≠ 0 ∧ reprovisionId s = deviceId s ∧
      s.supply.inhibit = false := by
  simp only [deviceId, hh]
  decide +kernel

theorem wit_ResetPins :
    (z.shell.porstLow = false ∧ z.shell.blkRstLow = false) ∧
    (let s := { z with shell := { porstLow := true } }
     s.shell.porstLow = true ∧ s.shell.blkRstLow = false) ∧
    (let s := { z with shell := { blkRstLow := true } }
     s.shell.porstLow = false ∧ s.shell.blkRstLow = true ∧ s.mode.power ≠ .dark) := by decide +kernel

theorem wit_ModeCommands :
    (Running z ∧ Requester hn ∧ hs.sec = true ∧ z.fault.safe = false ∧ isDecode z = false ∧
      (∀ c < 16, fld (5 : Word) (3 * c + 2) (3 * c) < 6)) ∧
    (recovery z < 3 ∧ z.mode.power = .run) ∧
    (let s := { z with mode := { power := .quiesce, refused := { valid := true, seq := 0xFFFF } } }
     Running s ∧ recovery s < 3 ∧ s.mode.power = .quiesce ∧ s.stop.state = 0 ∧ s.mode.refused.valid = true ∧
       fld (0xFFFF : Word) 15 0 = s.mode.refused.seq) := by decide +kernel

theorem wit_FaultCommands :
    (let s := { z with fault := { first := { valid := true, info := BitVec.ofNat 64 (0xFFFF * 2 ^ 32) } } }
     Running s ∧ Secure hs ∧ s.fault.first.valid = true ∧ fld (0xFFFF : Word) 15 0 = fld s.fault.first.info 47 32) ∧
    (let v : Word := BitVec.ofNat 64 (2 ^ 60 + 5 * 2 ^ 56)
     fld v 63 60 = 1 ∧ escalateOk z (fld v 59 56) (fld v 15 0) = true) ∧
    codeKnown (fld (BitVec.ofNat 64 (fcode 13 1 3)) 15 0) = true ∧
    (let s := { z with fault := { timers := [(15, { running := true })] } }
     Running s ∧ 15 < 16 ∧ (react s 15).running = true ∧ s.fault.safe = false) ∧
    fsev (fcode 9 2 6) ≠ 0 := by decide +kernel

theorem wit_LadderSteps :
    (let s := { z with ladder := { engReq := some (0, 2), rung := 1 } }
     Running s ∧ s.ladder.engReq = some (0, 2) ∧ s.ladder.rung = 1 ∧ s.fault.safe = false) ∧
    (let s := { z with ladder := { engReq := some (1, 63), rung := 2 } }
     Running s ∧ s.ladder.engReq = some (1, 63) ∧ s.ladder.rung = 2) ∧
    (let s := { z with ladder := { partReq := some 1, rung := 3 } }
     Running s ∧ 1 < s.build.partitions ∧ (∀ c ∈ [7], c < s.build.cols) ∧ s.ladder.engReq = none ∧ s.ladder.partReq = some 1 ∧
       s.ladder.rung = 3 ∧ s.fault.safe = false) ∧
    (let s := { z with ladder := { rung := 4, stage := 2 } }
     Running s ∧ s.ladder.rung = 4 ∧ s.ladder.stage = 2) ∧
    (let s := { z with stop := { state := 2, crash := true } }
     Running s ∧ s.stop.state = 2 ∧ s.stop.crash = true ∧ s.stop.cur = none ∧ s.stop.due = []) ∧
    (let s := { z with ladder := { trayWait := true } }
     Running s ∧ s.ladder.trayWait = true) := by decide +kernel

theorem wit_StopAndSearch :
    (Running z ∧ Secure hs ∧ z.stop.state = 0 ∧ z.fault.safe = false) ∧
    (let s := { z with stop := { state := 1 } }
     Running s ∧ s.stop.state = 1) ∧
    (let s := { z with stop := { state := 2 }, stopReg := { valid := true, seq := 7 }, hangReg := { valid := true, seq := 7 } }
     Running s ∧ s.stop.state = 2 ∧ s.stop.cur = none ∧ s.stop.crash = false ∧ s.supply.inhibit = false ∧
       s.stopReg.valid = true ∧ s.hangReg.valid = true ∧ fld (7 : Word) 15 0 = s.stopReg.seq ∧
       fld (7 : Word) 15 0 = s.hangReg.seq) ∧
    (let s := { z with search := { state := 1, hung := { suspects := [{ ctx := 4 }] } } }
     Running s ∧ s.search.state = 1 ∧ s.search.state ≠ 0 ∧ s.search.hung.suspects[fld (0 : Word) 3 0]? = some { ctx := 4 }) ∧
    (let s := { z with search := { state := 2, hung := { suspects := [{ ctx := 4 }] } } }
     Running s ∧ s.search.state = 2 ∧ s.search.mismatch = false) ∧
    (let s := { z with search := { state := 2, mismatch := true }, tiles := [(0, { arb := { state := .round2 } })] }
     Running s ∧ s.search.state = 2 ∧ s.search.mismatch = true ∧ (tile s s.search.hung.tile).arb.state ≠ .idle) := by
  decide +kernel

/-- The same build with the common part and every tile group active, and position 5 in service. -/
def za : State := { z with loader := act [1, 2, 3, 16, 17], tiles := [(5, { pos := { chk := .inService } })] }
/-- An operation of one dot product. -/
def dot : Desc := { cls := 1, m := 1, n := 1, k := 1, fmtA := 0x20, fmtB := 0x20, fmtC := 0x20 }

theorem wit_TapPorts :
    (Running z ∧ 63 < z.build.tiles ∧ (tile z 63).port.rstReq = false ∧ (tile z 63).port.words.length < 5) ∧
    (let s := { z with tiles := [(63, { port := { words := List.replicate 5 0 } })] }
     Running s ∧ 63 < s.build.tiles ∧ (tile s 63).port.rstReq = false ∧ (tile s 63).port.words.length = 5) ∧
    (let o : PortOp := { num := 15, desc := dot }
     let s := { z with tiles := [(63, { port := { opn := [o] } })] }
     Running s ∧ 63 < s.build.tiles ∧ 15 < 16 ∧ (tile s 63).port.rstReq = false ∧
       ((tile s 63).port.opn.find? fun x => x.num == 15) = some o ∧ streamUsed o.desc .a = true ∧
       (portStream o .a).2 = true ∧ (portStream o .a).1 < streamBeats o.desc .a ∧
       true = ((portStream o .a).1 + 1 == streamBeats o.desc .a)) ∧
    (0 < 2 ∧ 2 < 3) := by decide +kernel

theorem wit_CheckerResults :
    (let o : Op := { uid := 7, desc := { dot with k := 0 } }
     let p : Pip := { op := 7, st := .runnable, capC := [(0, 0, 0)] }
     let s := { z with tiles := [(63, { chk := { ops := [o], pips := [p], runq := [(7, p.grain, true)] } })] }
     Running s ∧ 63 < s.build.tiles ∧ (tile s 63).chk.runq = (o.uid, p.grain, true) :: [] ∧ opOf s 63 o.uid = some o ∧
       ((tile s 63).chk.pips.find? fun q => q.op == o.uid && q.grain == p.grain) = some p ∧ pipOutcomeOf o p = .agree) ∧
    (let s := { z with tiles := [(63, { chk := { res := { valid := true, seq := 0xFFFF }, pip := { valid := true, seq := 0xFFFF } } })] }
     Running s ∧ Requester hn ∧ s.build.ok = true ∧ 63 < s.build.tiles ∧ riserUp s 63 = true ∧
       (tile s 63).chk.res.valid = true ∧ fld (0xFFFF : Word) 15 0 = (tile s 63).chk.res.seq ∧
       (tile s 63).chk.pip.valid = true ∧ fld (0xFFFF : Word) 15 0 = (tile s 63).chk.pip.seq) ∧
    (z.build.tiles ≤ 64 ∧ 64 < 4096 ∧ z.build.tiles ≤ 4095 ∧ 4095 < 4096) := by decide +kernel

theorem wit_TileWatch :
    (let s := { z with tiles := [(63, { watch := { on := true, beacon := 0xFFFFFFFF } })] }
     Running s ∧ 63 < s.build.tiles ∧ (tile s 63).watch.on = true ∧ (tile s 63).watch.hung = false ∧
       0 ≠ (tile s 63).watch.beacon ∧ (0 + 2 ^ 32 - (tile s 63).watch.beacon) % 2 ^ 32 < 2 ^ 31) ∧
    (let s := { za with tiles := [(63, { watch := { on := true }, port := { opn := [{}] }, pos := { chk := .inService } })] }
     Running s ∧ 63 < s.build.tiles ∧ (tile s 63).watch.on = true ∧ watched s 63 = true ∧
       (tile s 63).port.opn = {} :: [] ∧ s.search.state = 0) ∧
    (let s := { z with tiles := [(63, { port := { rstReq := true } })] }
     Running s ∧ 63 < s.build.tiles ∧ (tile s 63).port.rstReq = true ∧ s.ladder.rung = 0) ∧
    (Running z ∧ 63 < z.build.tiles ∧ (tile z 63).port.rstReq = false) := by decide +kernel

theorem wit_Arming :
    (let s := { za with sec := { state := some .sealed_, job := some 1, jobId := 9 } }
     Running s ∧ s.fault.safe = false ∧ Requester hn ∧ isArmed s = false ∧ s.mirror.wait = none ∧ s.cas.armWait = none ∧
       jobMode s ≠ 3 ∧ jobMode s = 0 ∧ mirMode s = 0 ∧ secState s = .sealed_ ∧ jobKeyFor s (fld (9 : Word) 31 0) = true ∧
       regActive s 2 = true ∧ regActive s 3 = true ∧ s.cas.role = .standalone ∧
       fld (configStore 4) 3 2 = 1 ∧ fld (configStore 8) 3 2 ≠ 1) ∧
    (let s := { za with sec := { state := some .open_, job := some 1, jobId := 9 }, cas := { roleKnown := true } }
     Running s ∧ secState s = .open_ ∧ jobKeyFor s (fld (9 : Word) 31 0) = true ∧ s.cas.roleKnown = true ∧ s.cas.role = .standalone) ∧
    (let s := { z with mirror := { wait := some { kind := .join } } }
     Running s ∧ s.fault.safe = false ∧ s.mirror.wait = some { kind := .join }) := by decide +kernel

/-- An armed engine in step 9, in a TRAIN job of two micro-batches. -/
def eng9 : Step := { armed := true, number := 9, config := BitVec.ofNat 64 (2 * 2 ^ 48), epochStep := 8 }
def zs (e : Step) : State := { z with step := { eng := e } }

theorem wit_StepCommands :
    (let s := { z with step := { eng := eng9, vote := { last := some { kind := 3, step := 9 } } } }
     Running s ∧ Requester hn ∧ s.fault.safe = false ∧ namesStep s 9 = true ∧ mnfPending s = true ∧ s.step.eng.phase = .idle) ∧
    (let s := zs { eng9 with halted := 1, phase := .hold }
     Running s ∧ s.fault.safe = false ∧ namesStep s 9 = true ∧ s.step.eng.halted = 1 ∧ s.step.eng.phase = .hold) ∧
    (let s := { z with
       step := { eng := { config := 1 }, regs := { written := 15 }, jnl := { hdrOpen := some { type := 1 } } }
       sec := { jnl := some 1 }, cas := { roleKnown := true } }
     Running s ∧ s.fault.safe = false ∧ configured s = true ∧ s.mirror.wait = none ∧ s.cas.armWait = none ∧ pairReady s = true ∧
       s.cas.roleKnown = true ∧ s.cas.role = .standalone ∧ s.sec.jnl.isSome = true ∧ (recRec s 1).isSome = true ∧ mirMode s = 0) ∧
    (let s := { z with step := { regs := { written := 15 } }, mirror := { modeReg := 1 } }
     Running s ∧ s.fault.safe = false ∧ configured s = true ∧ s.mirror.wait = none ∧ s.cas.armWait = none ∧ pairReady s = false) ∧
    (let s := { z with step := { eng := eng9, jnl := { slots := [(0, { used := true, step := 8, committed := true })] } } }
     Running s ∧ s.fault.safe = false ∧ namesStep s 9 = true ∧ s.step.cert.busy = false ∧ s.loader.mixed = false ∧ jobMode s = 0 ∧
       s.step.eng.phase = .idle ∧ (slot s (s.step.eng.epochStep % 2)).used = true ∧
       (slot s (s.step.eng.epochStep % 2)).step = s.step.eng.epochStep ∧ (slot s (s.step.eng.epochStep % 2)).committed = true) ∧
    (let s := { z with
       step := { eng := eng9, jnl := { slots := [(1, { recs := [{ type := 2, step := 9, mb := 1, pay := .words [5] }] })] } }
       sec := { jnl := some 1 } }
     Running s ∧ s.fault.safe = false ∧ namesStep s 9 = true ∧ s.sec.jnl.isSome = true ∧
       noticeOf s s.step.eng.number 1 = some [5]) := by decide +kernel

theorem wit_StepAcks :
    let h : Held := { valid := true, seq := 0xFFFF }
    let s := { z with step := { regs := { collMis := h, verdict := h, decision := h, covValid := true, covSeq := 0xFFFF } } }
    let v : Word := 0xFFFF
    Running s ∧ Requester hn ∧ s.step.regs.collMis.valid = true ∧ fld v 15 0 = s.step.regs.collMis.seq ∧
    s.step.regs.covValid = true ∧ fld v 15 0 = s.step.regs.covSeq ∧ s.step.regs.verdict.valid = true ∧
    fld v 15 0 = s.step.regs.verdict.seq ∧ s.step.regs.decision.valid = true ∧ fld v 15 0 = s.step.regs.decision.seq := by
  decide +kernel

theorem wit_Markers :
    let ord (s : State) := inOrder s s.step.eng.base s.step.eng.fwdNext s.step.eng.bwdSet
    let ok (s : State) := Running s ∧ s.fault.safe = false ∧ s.step.eng.armed = true ∧ isDecode s = false
    (let s := zs { eng9 with base := .fwd, fwdNext := 1 }
     ok s ∧ 1 < 2 ^ 32 ∧ 256 < 2 ^ 57 ∧ 256 % 256 = 0 ∧ s.step.eng.base ≠ .idle ∧ ord s .fwd 1 = true) ∧
    (let s := zs eng9
     ok s ∧ s.step.eng.base = .idle ∧ 0 < mbCount s ∧ (slot s (curSlot s)).committed = false) ∧
    (let s := zs { eng9 with base := .fwd, fwdNext := 2 }
     ok s ∧ ord s .bwd 1 = true) ∧
    (let s := zs { eng9 with base := .bwd, fwdNext := 2, bwdSet := [0, 1] }
     ok s ∧ ord s .exch 0 = true) ∧
    (let s := zs { eng9 with base := .exch }
     ok s ∧ ord s .upd 0 = true) ∧
    (let s := zs { eng9 with base := .upd }
     ok s ∧ ord s .fin 0 = true) ∧
    (let i : MarkItem := { mb := 2 ^ 32 - 1 }
     let j : MarkArg := { arg := 2 ^ 57 - 1 }
     ok (zs eng9) ∧ i.mb < 2 ^ 32 ∧ i.arg < 2 ^ 57 ∧ i.mb ≠ 0 ∧ j.arg < 2 ^ 57 ∧ j.arg ≠ 0) := by decide +kernel

theorem wit_Scalars :
    (Running (zs eng9) ∧ 0 < 2 ^ 32 ∧ 0x7F800000 < 2 ^ 32 ∧ 2 ^ 32 ≤ 2 ^ 57 - 1 ∧ 2 ^ 57 - 1 < 2 ^ 57 ∧
      (isArmed (zs eng9) && (zs eng9).step.vote.voted) = false ∧ f32Bad 0x7F800000 = true) ∧
    (let i : ScalarItem := { mb := 2 ^ 32 - 1, arg := 2 ^ 32 }
     i.mb < 2 ^ 32 ∧ i.arg < 2 ^ 57 ∧ i.mb ≠ 0 ∧ 2 ^ 32 ≤ i.arg) ∧
    (let s := { z with step := { covReady := [{ no := 1 }] } }
     Running s ∧ s.step.covReady = { no := 1 } :: [] ∧ covBusy s 1 = false ∧ s.step.regs.covValid = false) ∧
    (let s := zs { eng9 with updMarked := true, gradSeen := true }
     Running s ∧ s.step.eng.updOpen = false ∧ updWait s = 0) := by decide +kernel

theorem wit_StepVerdicts :
    let ok (s : State) := Running s ∧ s.step.eng.armed = true ∧ s.step.eng.phase = .vote ∧ s.step.vote.verdict = none ∧
      opsIn s (s.step.eng.marks + 1) = true ∧ s.fault.safe = false ∧ s.step.eng.conflict = false ∧
      s.step.eng.nonfinite = false ∧ (s.tiles.filter fun t => arbIsOpen t.2.arb) = [] ∧
      (s.step.eng.runs.find? (·.nf)) = none ∧ s.step.eng.nfRun = none
    (let s := zs { eng9 with phase := .vote }
     ok s ∧ s.step.eng.hostFault = false ∧ s.step.eng.req.point = 0 ∧ s.step.covReady = []) ∧
    (let s := zs { eng9 with phase := .vote, req := { point := 4, reason := 14 } }
     ok s ∧ s.step.eng.hostFault = false ∧ s.step.eng.req.point ≠ 0 ∧ 1 < s.step.eng.req.reason) ∧
    (let s := zs { eng9 with phase := .vote, hostFault := true }
     ok s ∧ s.step.eng.hostFault = true) := by decide +kernel

theorem wit_Votes :
    let e : Step := { eng9 with job := 7, config := BitVec.ofNat 64 (2 * 2 ^ 48 + 33 * 2 ^ 15) }
    let d : Decision := { job := 7, step := 9 }
    (let s := zs e
     Running s ∧ voteHears s 7 true = true ∧ thisRun s 9 0 = true ∧
       (childrenOf (jobSize s) (treePos s (rootOf s false))).contains 32 = true ∧ s.step.vote.tree.sent = false ∧
       s.step.vote.tree.late = false ∧
       (s.step.vote.tree.children.any fun c => c.fromPos == 32) = false ∧ s.step.vote.decision = none) ∧
    (let s := { z with step := { eng := e, vote := { tree := { late := true } } } }
     Running s ∧ voteHears s 7 true = true ∧ thisRun s 9 0 = true ∧
       (childrenOf (jobSize s) (treePos s (rootOf s false))).contains 32 = true ∧ s.step.vote.tree.late = true) ∧
    (let s := { z with step := { eng := e, vote := { pend := some d } } }
     Running s ∧ voteHears s d.job true = true ∧ s.step.vote.pend = some d) ∧
    (let s := { z with step := { eng := e, vote := { arb := 1, tree := { sent := true } } } }
     Running s ∧ isArmed s = true ∧ s.step.vote.tree.sent = true ∧ treePos s s.step.vote.arb ≠ 0 ∧
       s.step.vote.decision = none ∧ s.step.vote.revoted = false ∧ s.step.eng.halted = 0 ∧ isMember s = false) ∧
    (let s := { z with cas := { role := .member } }
     Running s ∧ isMember s = true) ∧
    (let s := { z with step := { eng := e, vote := { revoted := true } } }
     Running s ∧ isArmed s = true ∧ s.step.vote.revoted = true ∧ s.step.vote.decision = none ∧ s.step.eng.halted = 0) ∧
    (let s := { z with step := { eng := e, vote := { recorded := [d] } } }
     Running s ∧ voteHears s d.job true = true ∧ keepsDecisions s = true ∧
       (s.step.vote.recorded.filter fun x => x.step == d.step).getLast? = some d) := by decide +kernel

theorem wit_CollectivesAndUndo :
    (Running z ∧ reportBad z { kind := 1 } = false ∧ ({ kind := 1 } : Report).res = ({ kind := 1 } : Report).resDecl) ∧
    (let s := zs { eng9 with undoBusy := true, restoring := true }
     Running s ∧ s.step.eng.undoBusy = true ∧ s.step.eng.undoReading = false ∧ s.step.eng.undoLeft = 0 ∧
       s.step.eng.restoring = true ∧ s.step.eng.restoreLeft = 0) ∧
    (let s := { z with step := { cert := { busy := true, listed := true } } }
     Running s ∧ s.step.cert.busy = true ∧ s.step.cert.listed = true ∧ s.step.cert.writing = false ∧
       s.step.cert.shards.length ≤ s.step.cert.digests.length) := by decide +kernel

theorem wit_TokenGate :
    (let s := { z with step := { gate := { held := List.replicate 63 {} } } }
     Running s ∧ s.step.gate.held.length < 64) ∧
    (let s := { z with step := { gate := { held := [{ group := 3, gen := 1 }] } } }
     Running s ∧ s.step.gate.closed = false ∧
       (s.step.gate.held.findIdx? fun t => t.decided.isNone && !(genBad s t.gen) && !(genBusy s t.gen)) = some 0) ∧
    (let s := { z with step := { gate := { out := [{ group := 3 }] } } }
     Running s ∧ (s.step.gate.out.findIdx? fun x => !x.timedOut) = some 0 ∧ s.step.gate.out[0]? = some { group := 3 }) := by decide +kernel

theorem wit_LinkCommands :
    (let s := { z with mirror := { checkReg := { valid := true, seq := 0xFFFF }, modeReg := 1 }, sec := { state := some .open_ } }
     Running s ∧ Requester hn ∧ s.mirror.checkReg.valid = true ∧ fld (0xFFFF : Word) 15 0 = s.mirror.checkReg.seq ∧
       s.fault.safe = false ∧ s.mirror.link = .down ∧ mirMode s ≠ 0 ∧ secState s = .open_) ∧
    (let s := { z with mirror := { link := .incompatible } }
     Running s ∧ s.fault.safe = false ∧ s.mirror.link = .incompatible) ∧
    (let s := { z with mirror := { link := .paired } }
     Running s ∧ s.fault.safe = false ∧ s.mirror.link = .paired ∧ isArmed s = false ∧ s.mirror.pull.running = false) ∧
    (let s := { z with mirror := { pull := { running := true } } }
     Running s ∧ s.fault.safe = false ∧ s.mirror.pull.running = true) := by decide +kernel

theorem wit_Pairing :
    let h : Hello := { major := 2, ipVersion := 0x040200, sigOk := true, slot := 1 }
    (let s := { z with mirror := { link := .lost } }
     Running s ∧ s.mirror.link = .lost ∧ helloCheck s h (some 0) = none ∧
       helloCheck s { h with job := 1 } (some 0) = some (false, 1)) ∧
    (let s := { z with mirror := { link := .keying, peer := 1 } }
     Running s ∧ s.mirror.link = .keying ∧ ownSlot s ≠ 0 ∧ s.mirror.rxKey = none ∧ s.mirror.tries < 3) ∧
    (let s := { z with mirror := { link := .keying, tries := 3 } }
     Running s ∧ s.mirror.link = .keying ∧ 3 ≤ s.mirror.tries) ∧
    (let s := { z with mirror := { link := .paired, rxKey := some 1, rxSeq := some 4 } }
     Running s ∧ s.mirror.link = .paired ∧ (s.mirror.link ≠ .miswired ∧ s.mirror.link ≠ .incompatible ∧ s.mirror.rxKey.isSome = true ∧
       s.mirror.rxSeq = some 4 ∧ 4 < 5)) ∧
    (let s := { z with mirror := { link := .hello }, sec := { certOk := true } }
     Running s ∧ s.mirror.link = .hello ∧ s.sec.certOk = true) := by decide +kernel

/-- A paired link that has taken a first message, with `m` besides. -/
def zm (m : Mirror) : State := { z with mirror := { m with link := .paired, rxKey := some 1, rxSeq := some 0 } }
theorem zm_takes (m : Mirror) : TakesSeq (zm m) 1 :=
  ⟨by simp [zm], by simp [zm], rfl, fun r h => by have : some 0 = some r := h; cases this; decide⟩

theorem wit_PartnerChecks :
    (TakesSeq (zm {}) 1 ∧ Running (zm {}) ∧ (zm {}).mirror.auditShut = false ∧ (zm {}).mirror.auditOwn.find? (fun p => p.1 == {}) = none) ∧
    (TakesSeq (zm { auditShut := true }) 1 ∧ Running (zm { auditShut := true }) ∧
      (zm { auditShut := true }).mirror.auditShut = true) ∧
    (let s := zm { auditOwn := [({}, 5)], modeReg := 1, check := { open_ := true }, inb := { running := true } }
     TakesSeq s 1 ∧ Running s ∧ s.mirror.auditShut = false ∧ s.mirror.auditOwn.find? (fun p => p.1 == {}) = some ({}, 5) ∧ (5 : Word) ≠ 6 ∧ mirMode s = 1 ∧
       s.mirror.check.open_ = true ∧ s.mirror.inb.running = true) :=
  ⟨⟨zm_takes _, by decide +kernel⟩, ⟨zm_takes _, by decide +kernel⟩, zm_takes _, by decide +kernel⟩

theorem wit_Copies :
    (let s := { zm { modeReg := 2, rxSize := 1, inb := { running := true, step := 9, chunk := 3, bytes := [1] },
                     out := { running := true, step := 9, chunk := 3, bytes := [1], endSent := true, tries := 2 } } with
               sec := { mst := some 1 } }
     TakesSeq s 1 ∧ Running s ∧ mirMode s = 2 ∧ s.mirror.inb.running = true ∧ s.mirror.inb.step = 9 ∧ s.mirror.inb.chunk = 3 ∧
       s.sec.mst.isSome = true ∧ s.mirror.inb.bytes.length + [(0 : Byte)].length ≤ rxSlotBytes s ∧ [(0 : Byte)].length ≤ 67024 ∧
       s.mirror.out.running = true ∧ s.mirror.out.step = 9 ∧ s.mirror.out.chunk = 3 ∧
       s.mirror.out.acked < s.mirror.out.bytes.length ∧ s.mirror.out.endSent = true ∧ 2 ≤ s.mirror.out.tries) ∧
    (let s := zm { out := { running := true, tries := 1 } }
     Running s ∧ s.mirror.out.running = true ∧ s.mirror.out.tries < 2) :=
  ⟨⟨zm_takes _, by decide +kernel⟩, by decide +kernel⟩

theorem wit_Pulls :
    (let s := { zm { modeReg := 1 } with step := { eng := { phase := .hold, epochStep := 0xFFFFFFFF, epochValid := true } } }
     TakesSeq s 1 ∧ Running s ∧ s.step.eng.phase = .hold ∧ s.step.eng.restoring = false ∧
       mirMode s = 1 ∧ s.step.eng.epochValid = true ∧ (s.step.eng.epochStep + 1) % 2 ^ 32 = 0 % 2 ^ 32) ∧
    (let s := { zm {} with step := { eng := { phase := .fwd } } }
     TakesSeq s 1 ∧ Running s ∧ s.step.eng.phase ≠ .hold ∧ s.step.eng.phase ≠ .idle) ∧
    (TakesSeq (zm {}) 1 ∧ Running (zm {}) ∧ (zm {}).step.eng.epochValid = false) ∧
    67024 < (List.replicate 67025 (0 : Byte)).length ∧
    (let s := zm { pull := { running := true, step := 9, chunk := 2 } }
     TakesSeq s 1 ∧ Running s ∧ s.mirror.pull.running = true ∧ s.mirror.pull.step = 9 ∧ s.mirror.pull.chunk = 2 ∧ ([] : List Byte).length ≤ 67024) :=
  ⟨⟨zm_takes _, by decide +kernel⟩, ⟨zm_takes _, by decide +kernel⟩, ⟨zm_takes _, by decide +kernel⟩,
    by rw [List.length_replicate]; decide, zm_takes _,
    by decide +kernel⟩

theorem wit_QuarantineCommands :
    (let s := { za with qrs := { event := { valid := true, seq := 0xFFFF }, remap := [(0, { state := 1, phys := 5 })] } }
     Running s ∧ Requester hn ∧ s.qrs.event.valid = true ∧ fld (0xFFFF : Word) 15 0 = s.qrs.event.seq ∧ s.fault.safe = false ∧
       s.qrs.busy = false ∧ (remapOf s 0).state = 1 ∧ s.bring.busy = false ∧ structAllowed s 63 = true ∧
       selfAllowed s 63 = true) ∧
    (let s := { za with tiles := [(63, { pos := { chk := .failed } })], bring := { fuseOk := true } }
     Running s ∧ s.fault.safe = false ∧ s.qrs.busy = false ∧ s.bring.busy = false ∧ selfAllowed s 63 = true ∧
       (pos s 63).chk = .failed ∧ fuseBad s 63 true = false ∧ isArmed s = false ∧ s.bring.fuseOk = true ∧ regActive s 1 = true) ∧
    (let s := { z with qrs := { busy := true, busyCmd := 2 } }
     Running s ∧ s.fault.safe = false ∧ s.qrs.busy = true ∧ s.qrs.busyCmd = 2) ∧
    (let s := { z with qrs := { busy := true, busyCmd := 3 } }
     Running s ∧ s.fault.safe = false ∧ s.qrs.busy = true ∧ s.qrs.busyCmd ≠ 2) := by decide +kernel

theorem wit_PositionTests :
    (let s := { z with tiles := [(63, { pos := { testing := some .cmd, segment := true } })] }
     Running s ∧ 63 < s.build.tiles ∧ (pos s 63).testing.isSome = true ∧ s.qrs.pattern.users.contains 63 = false ∧
       riserUp s 63 = true ∧ (pos s 63).segment = true ∧ (List.replicate 64 0).length = 64 ∧
       (∀ u ∈ List.replicate 64 0 ++ List.replicate 64 0, u = 0) ∧ [0, 15].length ≤ 64 ∧ (∀ u ∈ [0, 15] ++ [0], u < 16) ∧
       firstFail [0, 15] [0] = some 15) ∧
    (let s := { za with tiles := [(63, { pos := { host := .spareReserved } })], qrs := { testCfg := BitVec.ofNat 64 (2 ^ 32) } }
     Running s ∧ fld s.qrs.testCfg 63 32 ≠ 0 ∧ spareNow (pos s 63).host = true ∧ testsOpen s 63 = true) ∧
    (let s := { z with tiles := [(63, { pos := { host := .spareFree } })], qrs := { testCfg := BitVec.ofNat 64 (2 ^ 32) } }
     Running s ∧ fld s.qrs.testCfg 63 32 ≠ 0 ∧ spareNow (pos s 63).host = true ∧ testsOpen s 63 = false) := by decide +kernel

theorem wit_BringUp :
    (Running z ∧ Secure hs ∧ isArmed z = false ∧ z.qrs.reconDone = false ∧ z.bring.busy = false ∧ z.qrs.busy = false ∧
      1 < z.build.partitions) ∧
    (let s := { z with bring := { busy := true, cmd := 1 } }
     Running s ∧ (∀ c ∈ [7], c < s.build.cols) ∧ s.bring.busy = true ∧ s.bring.cmd = 1) ∧
    (let s := { z with bring := { busy := true, cmd := 2 } }
     Running s ∧ s.bring.busy = true ∧ s.bring.cmd = 2) := by decide +kernel

theorem wit_Recorder :
    (let s := { z with rcd := { ready := true, queue := [{ type := 5 }] } }
     Running s ∧ writable s = some { type := 5 } ∧ s.rcd.retry = false) ∧
    (let s := { z with rcd := { ready := true, retry := true, queue := [{ type := 5 }] } }
     Running s ∧ writable s = some { type := 5 } ∧ s.rcd.retry = true) ∧
    (let s := { z with sec := { grn := some 1 } }
     Running s ∧ s.rcd.ready = false ∧ s.sec.grn.isSome = true) ∧
    (let s := { z with gran := { genCrash := 0x1FFFF }, rcd := { tokens := [(3, 0xFFFF)] } }
     let v : Word := BitVec.ofNat 64 (3 * 2 ^ 56 + 0xFFFF)
     Running s ∧ Secure hs ∧ s.rcd.cmdBusy = false ∧ fld v 59 56 = 3 ∧ 3 ≤ 3 ∧ 3 ≠ 2 ∧ fld v 15 0 = areaGen s 3 % 2 ^ 16 ∧
       sget 0x10000 s.rcd.tokens 3 = fld v 15 0) ∧
    (let s := { z with rcd := { cmdBusy := true, cmdMoved := true, cmd := 1 } }
     Running s ∧ s.rcd.cmdBusy = true ∧ s.rcd.cmdMoved = true ∧ s.rcd.cmd = 1) := by decide +kernel

theorem wit_DmaChannels :
    (Running z ∧ 7 < 8 ∧ descLegal z 7 0 0 64 = true ∧ dmaRoom z 7 = true ∧ descLegal z 7 0 0 63 = false ∧ dOwner 63 < 7 ∧
      0 < z.build.memPorts ∧ memTaker z 0 1 = none) ∧
    (let s := { z with dma := { ch := [(7, { queue := List.replicate 16 {} })] } }
     Running s ∧ descLegal s 7 0 0 64 = true ∧ dmaRoom s 7 = false) ∧
    (let held (w : DmaWait) : State := { z with dma := { ch := [(7, { req := some { id := 1, wait := w } })] } }
     let ok (w : DmaWait) := Running (held w) ∧ (chan (held w) 7).req = some { id := 1, wait := w } ∧ mtOwns (held w) 7 = false ∧
       0 < (held w).build.memPorts ∧ memTaker (held w) 0 1 = some 7 ∧ (chan (held w) 7).cut = []
     ok .read ∧ ok .write ∧ ok (.walk 3 true) ∧ 1 ≠ 0) ∧
    (let s := { z with dma := { ch := [(7, { cut := [{ id := 1 }] })] } }
     Running s ∧ (chan s 7).cut = { id := 1 } :: [] ∧ 7 ≠ 5) ∧
    (let s := { z with dma := { ch := [(7, { busy := true, cur := { state := 2 } })] } }
     Running s ∧ Secure hs ∧ (chan s 7).busy = true ∧ (chan s 7).cur.state = 2 ∧ s.dma.invBusy = false ∧
       fld (BitVec.ofNat 64 (2 ^ 59) : Word) 59 58 ≠ 3) := by decide +kernel

/-- A header of the small build: ten entries of one word each. -/
def hdrOf : List Word :=
  [0x4B52344253540003, BitVec.ofNat 64 (3 + (64 + 64 * 10) * 2 ^ 32), BitVec.ofNat 64 (0x040000 + 10 * 2 ^ 32),
    b64.identConfig, 1, 0, 0, 0] ++
  ([1, 2, 3, 4, 5, 6, 7, 8, 16, 17].flatMap fun r => BitVec.ofNat 64 (r + 8 * 2 ^ 32) :: List.replicate 7 0)

theorem wit_Loading :
    (let s := { z with loader := { event := { valid := true, seq := 0xFFFF } } }
     Running s ∧ Secure hs ∧ s.loader.event.valid = true ∧ fld (0xFFFF : Word) 15 0 = s.loader.event.seq ∧ s.fault.safe = false ∧
       s.loader.busy = false ∧ recovery s < 3 ∧ s.loader.session = 0) ∧
    (let e : TableEntry := { region := 17, length := 8 }
     let s := { z with loader := { regions := [(1, { state := .active })], active := some { entries := [e] } } }
     Running s ∧ s.fault.safe = false ∧ s.loader.busy = false ∧ recovery s < 3 ∧ fld (17 : Word) 4 0 = 17 ∧
       entryOf (loadTable s) 17 = some e ∧ (regionNumbers s.build).contains 17 = true ∧ s.loader.session = 0 ∧
       (region s 17).state = .fenced ∧ reloadAllowed s 17 = true) ∧
    (let e : TableEntry := { region := 17, length := 8 }
     let s := { z with loader := { session := 3, regions := [(1, { state := .active }), (17, { state := .active })], pend := some { entries := [e] } } }
     Running s ∧ s.fault.safe = false ∧ s.loader.busy = false ∧ recovery s < 3 ∧ entryOf (loadTable s) 17 = some e ∧
       (regionNumbers s.build).contains 17 = true ∧ s.loader.session = 3 ∧ (region s 17).state = .active ∧ reloadAllowed s 17 = true) ∧
    (let s := { z with loader := { session := 3 } }
     Running s ∧ s.fault.safe = false ∧ s.loader.busy = false ∧ s.loader.session = 3 ∧ toLoad s = 0 ∧ s.loader.reloaded = false) ∧
    (let s := { z with loader := { busy := true, session := 1 } }
     Running s ∧ s.fault.safe = false ∧ s.loader.busy = true ∧ s.loader.session = 1) ∧
    (let s := { z with loader := { busy := true, loadRegion := 2, regions := [(2, { state := .loading })] } }
     Running s ∧ s.fault.safe = false ∧ s.loader.busy = true ∧ s.loader.session ≠ 1 ∧
       (region s s.loader.loadRegion).state = .loading) ∧
    (let s := { z with loader := { session := 2, hdrWords := [] } }
     Running s ∧ s.fault.safe = false ∧ s.loader.session = 2 ∧ headerCheck s s.loader.hdrWords true 1 = some (fcVerify, 0)) ∧
    (let s := { z with loader := { regions := [(17, { state := .draining })] } }
     Running s ∧ s.fault.safe = false ∧ 17 < 128 ∧ (region s 17).state = .draining) ∧
    (let e : TableEntry := { region := 2, length := 8 }
     let s := { z with loader := {
       busy := true, loadRegion := 2, regions := [(2, { state := .verifying })], active := some { entries := [e] } } }
     Running s ∧ s.fault.safe = false ∧ s.loader.busy = true ∧ (region s s.loader.loadRegion).state = .verifying ∧
       entryOf (loadTable s) s.loader.loadRegion = some e) := by
  refine ⟨?_, ?_, ?_, ?_, ?_, ?_, ?_, ?_, ?_⟩ <;> decide +kernel

/-- For some value of the free hash, a header passes every check. -/
theorem wit_Loading_header (hh : ∀ m, Config.sha3_384 m = 1) :
    let s := { z with loader := { session := 2, hdrWords := hdrOf } }
    Running s ∧ s.fault.safe = false ∧ s.loader.session = 2 ∧ headerCheck s s.loader.hdrWords true 1 = none := by
  refine ⟨by decide +kernel, rfl, rfl, ?_⟩
  simp only [headerCheck, hh]
  decide +kernel

/-- An instruction word (R350). -/
def iw (op rd ra imm : Nat) : Nat := op * 2 ^ 27 + rd * 2 ^ 23 + ra * 2 ^ 19 + imm
/-- Core 3 running with one instruction. -/
def zq (w : Nat) (c : Machine.Core := {}) : State :=
  { z with seq := { cores := [(3, { c with state := .run, code := [BitVec.ofNat 64 w] })] } }
/-- It issues. -/
abbrev Goes (op w : Nat) (s : State := zq w) : Prop := Running s ∧ 3 < 4 ∧ Issues s 3 op w

theorem wit_RegisterInstructions :
    Goes 0x01 (iw 0x01 15 15 0x7FFFF) ∧ Goes 0x02 (iw 0x02 15 0 0x7FFFF) ∧ Goes 0x03 (iw 0x03 15 15 (15 * 2 ^ 15)) ∧
    Goes 0x04 (iw 0x04 15 15 (15 * 2 ^ 15)) ∧ Goes 0x05 (iw 0x05 0 15 0) ∧ Goes 0x06 (iw 0x06 15 15 0) ∧
    Goes 0x07 (iw 0x07 15 15 0) ∧ Goes 0x08 (iw 0x08 15 15 127) ∧ Goes 0x09 (iw 0x09 15 15 0x7FFFF) ∧
    Goes 0x0E (iw 0x0E 15 15 5) ∧ Goes 0x14 (iw 0x14 15 0 0) := by
  refine ⟨?_, ?_, ?_, ?_, ?_, ?_, ?_, ?_, ?_, ?_, ?_⟩ <;> (try unfold Goes Issues) <;> decide +kernel

theorem wit_OtherInstructions :
    (let w := iw 0x0A 1 0 16376
     Goes 0x0A w ∧ ((sreg (Machine.core (zq w) 3) (iRa w)) + BitVec.ofInt 64 (toSigned 19 (iImm w))).toNat = 16376 ∧
       16376 % 8 = 0 ∧ 16376 < 16384 ∧ dataBad (Machine.core (zq w) 3) 16376 1 = false ∧
       dataBad (Machine.core (zq w { dataErr := [2047] }) 3) 16376 1 = true) ∧
    (let s := zq 0 { codeErr := [0] }
     Running s ∧ 3 < 4 ∧ (Machine.core s 3).state = .run ∧ seqFrozen s 3 = false ∧
       (Machine.core s 3).codeErr.contains (Machine.core s 3).pc = true) ∧
    (let w := iw 0x0A 1 0 16384
     Goes 0x0A w ∧ ((sreg (Machine.core (zq w) 3) (iRa w)) + BitVec.ofInt 64 (toSigned 19 (iImm w))).toNat = 16384 ∧ 16384 ≤ 16384) ∧
    Goes 0x0B (iw 0x0B 1 0 16376) ∧
    (let w := iw 0x0C 1 0 0
     Goes 0x0C w ∧ seqRefused 0 false = false ∧ accessCode (zq w) (seqAcc 3) 0 false = 0) ∧
    (let w := iw 0x0D 1 2 0
     let s := zq w { regs := [(2, 0x030060)] }
     Goes 0x0D w s ∧ ((sreg (Machine.core s 3) (iRa w)) + BitVec.ofInt 64 (toSigned 19 (iImm w))).toNat = 0x030060 ∧
       seqRefused 0x030060 true = false ∧ accessCode s (seqAcc 3) 0x030060 true = 0) ∧
    Goes 0x0F (iw 0x0F 1 0 0x7FFFF) ∧ Goes 0x10 (iw 0x10 1 0 0x7FFFF) ∧ Goes 0x11 (iw 0x11 1 15 0) ∧
    (let w := iw 0x12 1 0 0x40000
     let s := zq w { latches := 2 ^ 18 }
     Goes 0x12 w s ∧ iImm w ≠ 0 ∧ lowLatch (Machine.core s 3).latches (iImm w) = some 18 ∧
       lowLatch (Machine.core (zq w) 3).latches (iImm w) = none) ∧
    (let s := { z with seq := { cores := [(3, { state := .wait, latches := 2 ^ 18, mask := 2 ^ 18 })] } }
     Running s ∧ 3 < 4 ∧ (Machine.core s 3).state = .wait ∧ seqFrozen s 3 = false ∧
       lowLatch (Machine.core s 3).latches (Machine.core s 3).mask = some 18) ∧
    (let w := iw 0x13 2 1 0x7FFFF
     Goes 0x13 w ∧ iRd w ≤ 2) ∧
    (let w := iw 0x15 1 2 0x0B
     let s := zq w { regs := [(2, 16285)] }
     Goes 0x15 w s ∧ iImm w % 256 = 0x0B ∧
       ((sreg (Machine.core s 3) (iRa w)) + BitVec.ofInt 64 (toSigned 19 (iImm w))).toNat = 16296 ∧ 16296 % 8 = 0 ∧
       16296 + 72 < 16384 ∧ dataBad (Machine.core s 3) 16296 10 = false) ∧
    Goes 0x16 (iw 0x16 1 2 7) ∧
    (let w := iw 0x17 0 2 5
     Goes 0x17 w ∧ escalateOk (zq w) (iImm w % 16) (fld (sreg (Machine.core (zq w) 3) (iRa w)) 15 0) = true) ∧
    (let w := iw 0x18 1 0 16352
     Goes 0x18 w ∧ 16352 % 8 = 0 ∧ 16352 + 24 < 16384 ∧ dataBad (Machine.core (zq w) 3) 16352 4 = false ∧ dmaRoom (zq w) 7 = true ∧
       dKind (sget 0 (Machine.core (zq w) 3).data (16352 / 8)) ≠ 2) ∧
    (let w := iw 0x19 0 0 (fcode 13 2 3)
     Goes 0x19 w ∧ fcls (iImm w % 2 ^ 16) ≠ 15 ∧ fsev (iImm w % 2 ^ 16) ≠ 3) := by
  refine ⟨?_, ?_, ?_, ?_, ?_, ?_, ?_, ?_, ?_, ?_, ?_, ?_, ?_, ?_, ?_, ?_, ?_⟩ <;> (try unfold Goes Issues) <;> decide +kernel

theorem wit_CoreEvents :
    let s := zq 0 { timers := [(2, 5)], latches := 2 ^ 18, mask := 2 ^ 18, traceFrozen := true }
    let f := { z with seq := { cores := [(3, { state := .fault })] } }
    Running s ∧ 3 < 4 ∧ 2 < 3 ∧ sget 0 (Machine.core s 3).timers 2 ≠ 0 ∧ (Machine.core s 3).state = .run ∧ seqFrozen s 3 = false ∧
    18 < 19 ∧ nbit ((Machine.core s 3).latches &&& (Machine.core s 3).mask) 18 = true ∧ (Machine.core s 3).overloadRaised = false ∧
    (Machine.core s 3).traceFrozen = true ∧ Running f ∧ Secure hs ∧ (Machine.core f 3).state = .fault := by decide +kernel

theorem wit_Mailboxes :
    Running z ∧ 7 < 8 ∧ Requester hn ∧ mbAllowed hn 4 = true ∧ mbAllowed hs 3 = true ∧
    bitOf (BitVec.ofNat 64 (2 ^ 62)) 62 = true ∧ 8 ≤ 8 ∧ 8 ≤ 255 ∧ 255 < 256 ∧ 255 ≠ 8 ∧
    (Machine.core (zq 0) 3).state = .run := by decide +kernel

theorem wit_RegisterAccesses :
    Running z ∧ Requester hn ∧ 0x050000 < 2 ^ 24 ∧ accessCode (cnt z 10) hn 0x050000 true = 0 ∧
    accessCode (cnt z 10) hn 0 false = 0 ∧ accessCode (cnt z 10) hn 0x010008 true = 1 ∧
    accessCode (cnt z 10) hn 0xFFFFF8 true = 2 ∧
    (let s := { z with shell := { krp := [{ id := 3 }] } }
     Running s ∧ s.shell.krp = { id := 3 } :: []) := by decide +kernel

theorem wit_NetMessages :
    let s := { z with shell := { net := [{ tag := 0xFFFF }] } }
    Running s ∧ s.shell.net.find? (fun x => x.tag == 0xFFFF) = some { tag := 0xFFFF } := by decide +kernel

theorem wit_CascadeRing :
    (let s := { z with cas := { role := .master, enumOut := true } }
     Running s ∧ s.cas.role = .master ∧ Secure hs ∧ isArmed s = false ∧ s.cas.enumOut = true ∧ 1 ≤ 7 ∧ 7 ≤ 7 ∧ s.fault.safe = false) ∧
    (let s := { z with cas := { role := .master }, fault := { safe := true } }
     Running s ∧ s.cas.role = .master ∧ s.fault.safe = true) ∧
    (let s := { z with cas := { role := .member, roleKnown := true } }
     Running s ∧ s.cas.role = .member ∧ s.cas.masterLost = false ∧ s.cas.roleKnown = true) ∧
    (Running z ∧ z.cas.roleKnown = false ∧ z.cas.role = .standalone ∧ z.fault.safe = false) := by decide +kernel

theorem wit_CascadeStep :
    (let s := { z with cas := { role := .master, instances := 8, armWait := some { kind := .arm, value := 0 } }, step := { vote := { verdict := some 0 } } }
     Running s ∧ s.cas.role = .master ∧ s.cas.armWait.isSome = true ∧ 1 ≤ 7 ∧ 7 < s.cas.instances ∧
       ((upto s.cas.instances).drop 1).filter (fun i => !(memberVoted s i)) = [1, 2, 3, 4, 5, 6, 7] ∧ s.step.vote.tree.own = none ∧
       s.step.vote.verdict.isSome = true ∧ s.cas.ringOk = false) ∧
    (let s := { z with cas := { role := .master, ringOk := true } }
     Running s ∧ s.cas.role = .master ∧ s.cas.ringOk = true) ∧
    (let s := { z with cas := { role := .member, armWait := some { kind := .arm, value := 0 }, armParams := { job := 5 } } }
     Running s ∧ s.cas.role = .member ∧ s.cas.armWait.isSome = true ∧ s.cas.armParams.job = 5 ∧
       s.cas.lastDec ≠ some (fld (0 : Word) 31 0, fld (0 : Word) 47 32) ∧ fld (0 : Word) 31 0 = s.step.eng.number % 2 ^ 32) := by
  decide +kernel

theorem wit_Observation :
    (Running z ∧ Secure hs ∧ z.obs.cntBusy = false ∧ fld (BitVec.ofNat 64 (63 * 2 ^ 16 + 63) : Word) 27 16 = 63 ∧
      fld (BitVec.ofNat 64 (63 * 2 ^ 16 + 63) : Word) 5 0 = 63 ∧ 63 < z.build.tiles ∧ riserUp z 63 = true) ∧
    (let s := { z with time := {} }
     Running s ∧ riserUp s 63 = false) ∧
    (let s := { z with sec := { state := some .sealed_ }, obs := { result := { valid := true, seq := 0xFFFF } } }
     Running s ∧ secState s = .sealed_ ∧ s.obs.run = none ∧ s.obs.result.valid = true ∧
       fld (0xFFFF : Word) 15 0 = s.obs.result.seq) ∧
    (let r : DumpRun := { written := true, bytes := [0] }
     let s := { z with obs := { run := some r, entries := [{ len := 2 }] } }
     Running s ∧ s.obs.run = some r ∧ r.written = true ∧ r.offset + r.bytes.length < (runEntry s r).len) ∧
    (let r : DumpRun := { written := true, bytes := [0] }
     let s := { z with obs := { run := some r, entries := [{ len := 1 }] } }
     Running s ∧ s.obs.run = some r ∧ r.written = true ∧ (runEntry s r).len ≤ r.offset + r.bytes.length) := by decide +kernel

theorem wit_TrayAndJtag :
    let s := { z with shell := { jtag := .network } }
    Running s ∧ s.cas.role ≠ .master ∧ 255 < 256 ∧ 127 < 128 ∧ s.shell.jtag = .network ∧ instrEnabled (secState s) .counters = true ∧
    Instrument.counters ≠ .zeroise ∧ instrEnabled (secState s) .captureSram = false ∧ s.shell.denied.contains .captureSram = false := by
  decide +kernel
/-- Whatever the strap, one argument carries it and one does not. -/
theorem wit_TrayAndJtag_address :
    (∃ x, x / 128 % 128 = Config.trayStatic % 128) ∧ (∃ x, x / 128 % 128 ≠ Config.trayStatic % 128) :=
  ⟨⟨Config.trayStatic % 128 * 128, by omega⟩, ⟨(Config.trayStatic % 128 + 1) % 128 * 128, by omega⟩⟩

theorem wit_StepRunsFront : z.pending = [] := rfl
theorem wit_CommandsComplete : wellFormed z.build (.hang 63) = true ∧ wellFormed z.build (.hang 64) = false := by decide +kernel
theorem wit_IdentityKept : step z = .next z ∧ 0xFFF < 0x1000 := ⟨rfl, by decide⟩
theorem wit_SoundKept : Sound { z with pending := [.hang 63] } := ⟨by decide +kernel, by simp [z]; decide⟩
theorem wit_RunsNeverStop : Sound z := ⟨by decide +kernel, by simp [z]⟩
theorem wit_DarkLasts :
    let s := { z with mode := { power := .dark }, pending := [.railIn 1] }
    s.mode.power = .dark ∧ (∀ strap, Instr.porstRelease strap ∉ s.pending) := by simp
theorem wit_DarkLasts_runs : core.run 0 z = .next z := rfl
theorem wit_ResetHolds :
    let s := { z with shell := { blkRstLow := true } }
    s.shell.blkRstLow = true ∧ outsideSpine (.hang 63) = false ∧ wellFormed s.build (.hang 63) = true := by decide +kernel
theorem wit_FaultBlockSecure :
    Running z ∧ Requester hn ∧ 0x010000 ≤ 0x010038 ∧ 0x0104F8 < 0x020000 ∧ isReg (cnt z 10) 0x010038 = true ∧
    isReg (cnt z 10) 0x010000 = true ∧ isReg (cnt z 10) 0x0104F8 = true ∧ hn.sec = false ∧ 0x0104F8 ≠ 0x010038 := by decide +kernel
theorem wit_BlockIdsRefused :
    let q : Acc := { id := 0xFFFF }
    Running z ∧ 0xFFF0 ≤ q.id ∧ q.id ≤ 0xFFFF ∧ 0xFFFFFF < 2 ^ 24 := by decide +kernel
theorem wit_NonSecureRefused :
    (Running z ∧ wellFormed z.build (.ladderStop hn) = true ∧ secureCmd (.ladderStop hn) = some hn ∧ hn.id < 0xFFF0 ∧ hn.sec = false) ∧
    (wellFormed z.build (.mbInPtr 3 0 hn) = true ∧ secureCmd (.mbInPtr 3 0 hn) = some hn ∧ secureCmd (.mbInPtr 4 0 hn) = none) := by
  decide +kernel
theorem wit_FullSlotPost :
    (let s := { z with mail := { ch := [(7, { inSeq := 1, outSeq := 0xFFFF })] } }
     mbAllowed hn 7 = true ∧ swf {} s.mail.ch = true ∧ inFull (mbox s 7) = true ∧ outFull (mbox s 7) = true ∧
       inOutArea (mbox s 7).outArea 0 = true) ∧
    (swf {} z.mail.ch = true ∧ inFull (mbox z 7) = false ∧ outFull (mbox z 7) = false ∧
      bitOf (BitVec.ofNat 64 (2 ^ 62)) 62 = true) := by decide +kernel
theorem wit_HeldRecord :
    let h : Held := { valid := true, seq := 0xFFFF }
    h.valid = true ∧ fld (0 : Word) 15 0 ≠ h.seq ∧ fld (0xFFFF : Word) 15 0 = h.seq := by decide +kernel
theorem wit_CoreRegistersAndWait :
    swf 0 (Machine.Core.regs {}) = true ∧ lowLatch (2 ^ 18) (2 ^ 18) = some 18 ∧ nbit (2 ^ 18) 18 = true := by decide +kernel
theorem wit_AcknowledgeFrames :
    let h : Held := { valid := true, seq := 0xFFFF }
    let s := { z with
      step := { regs := { covValid := true, covSeq := 0xFFFF } },
      hangReg := h,
      fault := { first := { valid := true, info := BitVec.ofNat 64 (0xFFFF * 2 ^ 32) } } }
    Quiet s ∧ Running s ∧ Secure hs ∧ s.step.regs.covValid = true ∧ fld (0xFFFF : Word) 15 0 = s.step.regs.covSeq ∧
    s.fault.first.valid = true ∧ fld (0xFFFF : Word) 15 0 = fld s.fault.first.info 47 32 ∧ 7 < 8 ∧
    bitOf (BitVec.ofNat 64 (2 ^ 62)) 62 = true := by
  refine ⟨⟨rfl, rfl, rfl, ?_, ?_, by decide +kernel, by decide +kernel, by decide +kernel⟩, by decide +kernel⟩
  · intro t ht; exact absurd ht (by simp [z])
  · intro n _; rfl
theorem wit_MemoryTest :
    (let s := { z with
       mem := { base := 0, limit := BitVec.ofNat 64 (2 ^ 30) },
       loader := { regions := [(1, { state := .active, content := [BitVec.ofNat 64 (2 ^ 40), 0, 0, 0, 0, 0, 0, 0, 0, 0, 0, 0, 0,
         BitVec.ofNat 64 (2 ^ 30 + 1)] })] } }
     Running s ∧ Secure hs ∧ isArmed s = false ∧ s.mem.busy = false ∧ 1 ≤ 1 ∧ s.mem.base.toNat < s.mem.limit.toNat ∧
       s.mem.base.toNat % 2 ^ 30 = 0 ∧ s.mem.limit.toNat % 2 ^ 30 = 0 ∧
       rangeRouted s s.mem.base.toNat s.mem.limit.toNat = true) ∧
    (let s := { z with mem := { busy := true, pause := true, elem := elemDone } }
     Running s ∧ s.mem.busy = true ∧ s.mem.pause = true ∧ s.mem.elem = elemDone) := by decide +kernel

end Sys2Proof.Tests
end

section
/-! The scope of the block (00_scope): the state after reset, what every step and every run keeps, the identity registers,
and what a register access answers. -/
namespace Sys2Proof.Scope

open Machine

/-! ### Commands, steps and runs -/

section
variable {c : Instr} {s t : State}

/-- Whether or not it can act now, a command that can happen on the build ends in a next state (R3). -/
theorem exec_wellFormed (h : wellFormed s.build c = true) :
    ∃ t, exec c s = .next t ∧ t.build = s.build ∧ t.pending = s.pending := by
  obtain ⟨f, hf⟩ := exec_run c s
  cases ha : acts s c with
  | false => exact ⟨s, hf.trans (run_idle h ha), rfl, rfl⟩
  | true => exact ⟨_, hf.trans (run_acts h ha), concluded_build .., concluded_pending ..⟩

theorem exec_illFormed (h : wellFormed s.build c = false) : exec c s = .fault .noSuchUnit := by
  obtain ⟨f, hf⟩ := exec_run c s
  exact hf.trans (run_bad h)

/-- A sound state has a next one: the front command can happen, since the build has the units it names. -/
theorem step_of_sound (hs : Sound s) : ∃ t, step s = .next t := by
  obtain ⟨-, hw⟩ := hs
  cases hp : s.pending with
  | nil => exact ⟨s, by simp [step, hp]⟩
  | cons c rest =>
    obtain ⟨t, ht, -⟩ := exec_wellFormed (s := { s with pending := rest }) (hw c (by simp [hp]))
    exact ⟨t, by simp [step, hp, ht]⟩

theorem step_keeps_sound (hs : Sound s) (h : step s = .next t) : Sound t := by
  obtain ⟨hok, hw⟩ := hs
  obtain ⟨hb, hp⟩ := step_next h
  refine ⟨by rwa [hb], fun i hi => ?_⟩
  rw [hp] at hi
  rw [hb]
  exact hw i (List.mem_of_mem_drop hi)

/-- A run from a sound state takes one command off the queue at each step, as long as one waits. -/
theorem run_of_sound (k : Nat) (hs : Sound s) :
    ∃ t, core.run k s = .next t ∧ Sound t ∧ t.build = s.build ∧ t.pending = s.pending.drop k := by
  induction k generalizing s with
  | zero => exact ⟨s, rfl, hs, rfl, rfl⟩
  | succ k ih =>
    obtain ⟨u, hu⟩ := step_of_sound hs
    obtain ⟨hb, hp⟩ := step_next hu
    obtain ⟨t, hrun, ht, htb, htp⟩ := ih (step_keeps_sound hs hu)
    refine ⟨t, (run_succ hu).trans hrun, ht, htb.trans hb, ?_⟩
    rw [htp, hp, List.drop_drop, Nat.add_comm]

end

/-- Settles O50, by induction on the number of steps: soundness gives each step its next state and is kept by it. -/
theorem runsNeverStop : Obligations.RunsNeverStop := fun k _ hs => run_of_sound k hs

/-- Settles O47: every command is `run` with an effect of its own, and `run` looks at the build first. -/
theorem commandsComplete : Obligations.CommandsComplete := fun _ _ => ⟨exec_wellFormed, exec_illFormed⟩

/-- Settles O49. -/
theorem soundKept : Obligations.SoundKept := fun _ _ hs h => step_keeps_sound hs h

/-! ### The identity registers (R4) -/

theorem viewIdent_congr {a b : State} (h : a.build = b.build) (off : Nat) : viewIdent a off = viewIdent b off := by
  simp only [viewIdent, h]

/-- The first 4 KiB of the window hold the IDENT registers. -/
theorem readReg_ident (s : State) {off : Nat} (ho : off < 0x1000) :
    readReg s off = if off % 8 != 0 then none else viewIdent s off := by
  have htile : inTiles off = false := by simp [inTiles]; omega
  have hblock : off / 0x10000 = 0 := by omega
  simp [readReg, htile, hblock, ho]

/-- Settles O48: an IDENT register reads constants and the build, which no step changes. -/
theorem identityKept : Obligations.IdentityKept := by
  intro s t h
  obtain ⟨hb, -⟩ := step_next h
  refine ⟨rfl, by rw [hb], fun off ho => ?_⟩
  rw [readReg_ident t ho, readReg_ident s ho, viewIdent_congr hb]

/-! ### Register accesses (R388, R389) -/

section
variable {s : State} {rq : Acc} {off : Nat} {w : Bool} {v : Word}

/-- What the step before sent has no part in what an access meets. -/
theorem accessCode_sent : accessCode (cnt (clearSent s) 10) rq off w = accessCode (cnt s 10) rq off w := by
  rw [cnt_clearSent, accessCode_clearSent]

/-- A KRP access that completes with OK has its effect and returns its data. -/
theorem krpAccess_ok {f : State → Word × State} (hid : Requester rq) (h : accessCode (cnt s 10) rq off w = 0) :
    krpAccess rq off w v f s = krpDone (f (cnt s 10)).2 rq.id 0 (f (cnt s 10)).1 := by
  have hkrp : ¬ rq.id ≥ 0xFFF0 := by omega
  simp [krpAccess, hkrp, h]

/-- One that is refused, or meets no register, is counted and answered. -/
theorem krpAccess_refused {f : State → Word × State} {code : Nat} (hid : Requester rq)
    (hcode : code = 1 ∨ code = 2) (h : accessCode (cnt s 10) rq off w = code) :
    krpAccess rq off w v f s = krpDone (cnt s 10) rq.id code 0 := by
  have hkrp : ¬ rq.id ≥ 0xFFF0 := by omega
  rcases hcode with rfl | rfl <;> simp [krpAccess, hkrp, h]

/-- On a running block a KRP request completes with the effect of its access. -/
theorem does_krpRequest {f : State → State} (hr : Running s) (ho : off < 2 ^ 24)
    (he : krpRequestEff rq off w v (clearSent s) = f (clearSent s)) : Does (.krpRequest rq.id off w v rq.sec) s f :=
  does_of rfl (decide_eq_true ho) hr he

theorem krpRequest_write (hr : Running s) (hid : Requester rq) (ho : off < 2 ^ 24)
    (h : accessCode (cnt s 10) rq off true = 0) :
    Does (.krpRequest rq.id off true v rq.sec) s fun a => krpDone (writeReg rq off v (cnt a 10)) rq.id 0 0 :=
  does_krpRequest hr ho (krpAccess_ok hid (accessCode_sent.trans h))

theorem krpRequest_read (hr : Running s) (hid : Requester rq) (ho : off < 2 ^ 24)
    (h : accessCode (cnt s 10) rq off false = 0) :
    Does (.krpRequest rq.id off false v rq.sec) s fun a =>
      krpDone (cnt a 10) rq.id 0 ((readReg (cnt a 10) off).getD 0) :=
  does_krpRequest hr ho (krpAccess_ok hid (accessCode_sent.trans h))

theorem krpRequest_refused {code : Nat} (hr : Running s) (hid : Requester rq) (ho : off < 2 ^ 24)
    (hcode : code = 1 ∨ code = 2) (h : accessCode (cnt s 10) rq off w = code) :
    Does (.krpRequest rq.id off w v rq.sec) s fun a => krpDone (cnt a 10) rq.id code 0 :=
  does_krpRequest hr ho (krpAccess_refused hid hcode (accessCode_sent.trans h))

/-- A register write without a row of its own is the KRP access of its requester (R9). -/
theorem registerWrite_writes (hr : Running s) (hid : Requester rq) (ho : off < 2 ^ 24)
    (h : accessCode (cnt s 10) rq off true = 0) : Writes (.registerWrite off v rq) s fun a => writeReg rq off v a :=
  does_of rfl (decide_eq_true ho) hr (krpAccess_ok hid (accessCode_sent.trans h))

/-- The response that has waited longest is the one discarded. -/
theorem krpRspLate_cons {r : KrpRsp} {l : List KrpRsp} (h : s.shell.krp = r :: l) :
    krpRspLate s = raisePort (modShell s fun p => { p with krp := l }) fcPortTimeout 6 0 (krpRspPayload r) := by
  simp only [krpRspLate, h]

end

/-- Settles O39, by what an access meets: OK with the effect, DENIED or NOREG without one; and the two timeouts. -/
theorem registerAccesses : Obligations.RegisterAccesses := by
  intro s hr
  refine ⟨fun rq addr v hid ho => ⟨fun h => ⟨krpRequest_write hr hid ho h, registerWrite_writes hr hid ho h⟩,
    krpRequest_read hr hid ho, fun w => krpRequest_refused hr hid ho (.inl rfl),
    fun w => krpRequest_refused hr hid ho (.inr rfl)⟩, fun rq addr w v ho => ?_, fun r l h => ?_⟩
  · exact does_of rfl (decide_eq_true ho) hr rfl
  · exact does_of rfl rfl hr (krpRspLate_cons (s := clearSent s) h)

/-! ### The secure side (R9, R364, R486) -/

/-- The registers, mailboxes apart, that the commands of the secure side write. -/
def secureRegs : List Nat :=
  [0x001108, 0x001208, 0x001228, 0x001240, 0x001300, 0x010008, 0x010028, 0x010040, 0x010048, 0x020030, 0x070018,
   0x070020, 0x080008, 0x080010, 0x080038, 0x090100, 0x0A0008, 0x0B0000, 0x0B0010, 0x0B0038, 0x0B0048, 0x0C0010,
   0x0D0020, 0x0D0080]

section
variable {s : State} {rq : Acc} {off : Nat}

theorem secureRegs_secureOnly : ∀ off ∈ secureRegs, secureOnly off = true ∧ mailChannel off = none := by decide

/-- To a secure requester each of them is open. -/
theorem access_secureRegs (hq : rq.sec = true) : ∀ off ∈ secureRegs, accessCode s rq off true = 0 := by
  simp only [secureRegs, List.forall_mem_cons]
  exact ⟨access_001108 s rq hq, access_001208 s rq hq, access_001228 s rq hq, access_001240 s rq hq,
    access_001300 s rq hq, access_010008 s rq hq, access_010028 s rq hq, access_010040 s rq hq, access_010048 s rq hq,
    access_020030 s rq hq, access_070018 s rq hq, access_070020 s rq hq, access_080008 s rq hq, access_080010 s rq hq,
    access_080038 s rq hq, access_090100 s rq hq, access_0A0008 s rq hq, access_0B0000 s rq hq, access_0B0010 s rq hq,
    access_0B0038 s rq hq, access_0B0048 s rq hq, access_0C0010 s rq hq, access_0D0020 s rq hq, access_0D0080 s rq hq,
    List.forall_mem_nil _⟩

/-- To a non-secure one each is closed. -/
theorem access_secureRegs_nonsecure (hoff : off ∈ secureRegs) (hq : rq.sec = false) : accessCode s rq off true = 1 := by
  obtain ⟨hsec, hmail⟩ := secureRegs_secureOnly off hoff
  exact access_nonsecure (access_secureRegs rfl off hoff) hsec hmail hq

end

/-- Command `c` of requester `rq` is, from `s`, a write of a register that denies it in every state. -/
def DeniedWrite (c : Instr) (rq : Acc) (s : State) : Prop :=
  ∃ off v g, exec c s = run c (regCmd rq off v g) s ∧ ∀ a, accessCode a rq off true = 1

section
variable {c : Instr} {s : State} {rq : Acc} {off : Nat} {v : Word} {g : State → State}

theorem DeniedWrite.does (h : DeniedWrite c rq s) (hw : wellFormed s.build c = true) (hr : Running s) (hid : Requester rq) :
    Does c s fun a => krpDone (cnt a 10) rq.id 1 0 := by
  obtain ⟨off, v, g, hexec, hcode⟩ := h
  exact denies hexec hw hr hid (hcode _)

theorem deniedWrite_reg (hq : rq.sec = false) (h : exec c s = run c (regCmd rq off v g) s) (hoff : off ∈ secureRegs) :
    DeniedWrite c rq s :=
  ⟨off, v, g, h, fun _ => access_secureRegs_nonsecure hoff hq⟩

/-- A mailbox command of a secure channel: the only case whose register depends on an operand. -/
theorem deniedWrite_mail {ch : Nat} {q : Acc} (o : Nat) (hc : (if ch < 4 then some q else none) = some rq) (hq : rq.sec = false)
    (h : exec c s = run c (regCmd q off v g) s)
    (ho : o = 0x00 ∨ o = 0x10 ∨ o = 0x20 ∨ o = 0x48 ∨ o = 0x50 ∨ o = 0x58) (hoff : off = 0x030000 + 0x100 * ch + o) :
    DeniedWrite c rq s := by
  obtain ⟨hlt, rfl⟩ : ch < 4 ∧ q = rq := by simpa using hc
  exact ⟨off, v, g, h, fun _ => access_mail_nonsecure hlt hq ho hoff⟩

end

/-- From a non-secure requester every command of the secure side is a denied write. -/
theorem secureCmd_deniedWrite {c : Instr} {rq : Acc} (s : State) (h : secureCmd c = some rq) (hq : rq.sec = false) :
    DeniedWrite c rq s := by
  cases c
  case mbInPtr ch x q => exact deniedWrite_mail 0x00 h hq rfl (by simp) (by omega)
  case mbInDb ch x q => exact deniedWrite_mail 0x20 h hq rfl (by simp) (by omega)
  case mbOutRxDone ch x q => exact deniedWrite_mail 0x50 h hq rfl (by simp) (by omega)
  case mbOutDb ch x q => exact deniedWrite_mail 0x58 h hq rfl (by simp) (by omega)
  case collisionClear ch outbound x q =>
    exact deniedWrite_mail (0x10 + 0x38 * b2n outbound) h hq rfl (by cases outbound <;> simp [b2n]) (by omega)
  all_goals simp only [secureCmd, reduceCtorEq, Option.some.injEq] at h
  all_goals
    subst h
    exact deniedWrite_reg hq rfl (by decide)

/-- Settles O55: each such command is a register write whose access the offset denies, so its operands have no part in it. -/
theorem nonSecureRefused : Obligations.NonSecureRefused := fun s _ _ hr hw hc hid hq =>
  (secureCmd_deniedWrite s hc hq).does hw hr hid

/-! ### Reset (R4, R253) -/

theorem sound_reset : Sound State.reset := ⟨by decide, by simp [State.reset]⟩

theorem running_reset : Running State.reset := ⟨rfl, rfl, by decide⟩

theorem regActive_reset (r : Nat) : regActive State.reset r = false := rfl

/-- Settles O46: the fields of the reset state, and the IDENT registers of the reference build. -/
theorem resetState : Obligations.ResetState := by
  refine ⟨sound_reset, rfl, rfl, rfl, rfl, rfl, rfl, rfl, rfl, ?_, rfl, fun r _ => regActive_reset r, rfl, rfl,
    running_reset, ?_, ?_, ?_, ?_, ?_⟩
  all_goals decide

end Sys2Proof.Scope
end

section
/-! The reliability plane (01_reliability_plane): TIME and its estimate on the oscillator, the rate windows, the risers, and
the tap ports of the host tiles. -/
namespace Sys2Proof.ReliabilityPlane

open Machine

/-! ### TIME (R23) -/

section
variable {s : State} {v : Word} {osc : Nat}

/-- In TRACKING an advance within the range becomes TIME. -/
theorem timeSampleEff_tracking (ht : s.time.state = .tracking) (hv : bitOf v 63 = false) (hlt : s.time.time < v.toNat)
    (hle : v.toNat ≤ s.time.time + 1000000) :
    timeSampleEff v osc s = modTime (timeAccept v.toNat s) fun k =>
      { k with elapsed := k.elapsed + 5 * (v.toNat - s.time.time) } := by
  have hback : ¬ v.toNat < s.time.time := by omega
  have hjump : ¬ v.toNat > s.time.time + 1000000 := by omega
  have hnew : v.toNat ≠ s.time.time := by omega
  simp only [timeSampleEff, ht, hv, hback, hjump, hnew, decide_false, Bool.or_false, Bool.false_eq_true, if_false]

/-- In TIME_LOST the oscillator counts first; then an advance over the last value heard is taken as one. -/
theorem timeSampleEff_lost (ht : s.time.state = .lost) (hv : bitOf v 63 = false) (hlt : s.time.heard < v.toNat) :
    timeSampleEff v osc s = timeLostSample v.toNat (oscTo osc s) := by
  have hback : ¬ v.toNat < (oscTo osc s).time.heard := by simp only [oscTo, modTime_time]; omega
  simp only [timeSampleEff, ht, hv, hback, decide_false, Bool.or_false, Bool.false_eq_true, if_false]

/-- While block time runs on the oscillator it passes at 4/5 of f0 on the measure of R23. -/
theorem oscTo_lost (ht : s.time.state = .lost) :
    oscTo osc s = modTime s fun t => { t with osc := osc, elapsed := t.elapsed + 4 * (osc - t.osc) } := by
  simp only [oscTo, modTime, ht, beq_self_eq_true, if_true]

/-- The first advance after TIME_LOST is held and is not yet TIME. -/
theorem timeLostSample_first {n : Nat} (hg : s.time.good = 0) (hlt : s.time.heard < n) :
    timeLostSample n s = modTime s fun t => { t with heard := n, good := 1, discarding := false } := by
  simp only [timeLostSample, hg, Nat.ne_of_gt hlt, if_true, if_false]

/-- The second one in succession ends TIME_LOST. -/
theorem timeLostSample_second {n : Nat} (hg : s.time.good ≠ 0) (hlt : s.time.heard < n) :
    timeLostSample n s =
      let b := modTime (timeAccept n s) fun t => { t with state := .tracking, good := 0 }
      record b 9 5 [BitVec.ofNat 64 s.time.lostFrom, stamp b] := by
  simp only [timeLostSample, hg, Nat.ne_of_gt hlt, if_false]

/-- TIME_LOST begins from TRACKING only (R23). -/
theorem timeLostEff_tracking (ht : s.time.state = .tracking) :
    timeLostEff osc s = raisePort (cnt (modTime s fun t =>
      { t with state := .lost, lostSeen := true, lostFrom := t.time, heard := t.time, good := 0, osc := osc,
               elapsed := t.elapsed + 4 * osc }) 14) (fcode 9 2 0) 12 0 s.time.time := by
  simp only [timeLostEff, ht, beq_self_eq_true, if_true, modTime_time]

end

/-! ### Rate windows and risers (R14, R18) -/

section
variable {s : State}

theorem rateSlow_or_iff {a b : Nat} : (rateSlow a || rateSlow b) = true ↔ a < 1500 ∨ b < 1500 := by
  simp only [rateSlow, Bool.or_eq_true, decide_eq_true_eq]

/-- A slow window after one that was not raises FABRIC_SLOW. -/
theorem rateWindow_slow {spine slowest k : Nat} (hwas : s.time.slow = false) (hslow : spine < 1500 ∨ slowest < 1500) :
    rateWindow spine slowest k s =
      let w := pack [(32, 8, part s (s.build.clusterFirst k)), (16, 16, slowest), (0, 16, spine)]
      raiseI (modTime s fun t => { t with rate := w, slow := true }) (fcode 9 1 2) 5 w.toNat := by
  simp only [rateWindow, rateSlow_or_iff.2 hslow, hwas, Bool.not_false, Bool.and_true, if_true]

/-- A live riser goes down once: its column's checkers are lost with it. -/
theorem riserDownEff_live {c : Nat} (hc : c ∈ s.time.risers) :
    riserDownEff c s =
      post (raiseI (modTime s fun t => { t with risers := t.risers.filter (· != c) }) fcRiserDown 5 c)
        (.loseCheckers (colPositions s c)) := by
  simp only [riserDownEff, List.contains_iff_mem.2 hc, Bool.not_true, Bool.false_eq_true, if_false]
  rfl

end

/-- Settles O1, clause by clause from what each time command does in the state that the clause names. -/
theorem timeKeeping : Obligations.TimeKeeping := by
  refine ⟨fun s v osc hr ht hv hlt hle => ?_, fun s osc hr ht => ?_, fun s v osc hr ht hg hv hlt => ?_,
    fun s v osc hr ht hg hv hlt => ?_, fun s spine slowest k hr hwas hslow => ?_, fun s c hr hcol hc => ?_⟩
  · exact does_of rfl rfl hr (timeSampleEff_tracking (s := clearSent s) ht hv hlt hle)
  · exact does_of rfl rfl hr (timeLostEff_tracking (s := clearSent s) ht)
  · refine does_of rfl rfl hr ?_
    rw [timeSampleEff_lost (s := clearSent s) ht hv hlt, oscTo_lost (s := clearSent s) ht]
    exact timeLostSample_first hg hlt
  · refine does_of rfl rfl hr ?_
    rw [timeSampleEff_lost (s := clearSent s) ht hv hlt, oscTo_lost (s := clearSent s) ht]
    exact timeLostSample_second hg hlt
  · exact does_of rfl rfl hr (rateWindow_slow (s := clearSent s) hwas hslow)
  · exact does_of rfl (decide_eq_true hcol) hr (riserDownEff_live (s := clearSent s) hc)

/-! ### Descriptors and late verdicts (R25, R381, R382) -/

section
variable {s : State} {n : Nat} {w : Word}

/-- A word before the sixth, without the end mark, joins the ones before it. -/
theorem tapDescWord_joins (hrst : (tile s n).port.rstReq = false) (hlen : (tile s n).port.words.length < 5) :
    tapDescWord n w false s = modPort s n fun p => { p with words := p.words ++ [w] } := by
  have hnot : ((tile s n).port.words.length == 5) = false := beq_eq_false_iff_ne.2 (Nat.ne_of_lt hlen)
  simp only [tapDescWord, hrst, hnot, bne_self_eq_false, Bool.false_eq_true, if_false]

/-- The sixth, with the end mark, completes the descriptor. -/
theorem tapDescWord_completes (hrst : (tile s n).port.rstReq = false) (hlen : (tile s n).port.words.length = 5) :
    tapDescWord n w true s = descComplete s n ((tile s n).port.words ++ [w]) := by
  simp only [tapDescWord, hrst, hlen, beq_self_eq_true, bne_self_eq_false, Bool.false_eq_true, if_false, if_true]

/-- The verdict of an operation names the oldest one of its checker. -/
theorem verdictLate_operation :
    verdictLate 0 n s = raise (cnt s 0)
      { code := fcode 0 1 10, access := 7, master := n,
        addr := ((tile s n).chk.ops.head?.map fun o => opIdent o.desc).getD 0, part := partOf s n, tile := some n } := by
  simp only [verdictLate, beq_self_eq_true, if_true, cnt_tile, cnt_partOf]

/-- That of a step or of a DECODE group names none. -/
theorem verdictLate_step {k : Nat} (hk : 0 < k) : verdictLate k n s = raiseI (cnt s 0) (fcode 0 1 10) 1 := by
  have hnot : (k == 0) = false := beq_eq_false_iff_ne.2 (Nat.ne_of_gt hk)
  simp only [verdictLate, hnot, Bool.false_eq_true, if_false]

end

/-! ### Beats (R20, R383, R384) -/

section
variable (s : State) (n : Nat)

/-- A coverage count touches the step unit alone. -/
theorem cov_keeps {α : Type} (view : State → α) (hview : ∀ u, view { s with step := u } = view s) (iv p i k : Nat) :
    view (cov s iv p i k) = view s := by
  unfold cov modCovAt
  split
  · rfl
  · split
    · exact hview _
    · exact hview _

@[simp] theorem cov_part (iv p i k : Nat) : part (cov s iv p i k) n = part s n :=
  cov_keeps s (part · n) (fun _ => rfl) iv p i k

@[simp] theorem cov_clusterOut (iv p i k : Nat) : clusterOut (cov s iv p i k) n = clusterOut s n :=
  cov_keeps s (clusterOut · n) (fun _ => rfl) iv p i k

@[simp] theorem tcnt_part (x i k : Nat) : part (tcnt s x i k) n = part s n := rfl

@[simp] theorem tcnt_clusterOut (x i k : Nat) : clusterOut (tcnt s x i k) n = clusterOut s n := rfl

end

/-- Whether a beat is lost to checker `x`: it was dropped there, or the checker is frozen or does not serve. -/
def beatDrops (s : State) (dropped : List Nat) (x : Nat) : Bool :=
  dropped.contains x || s.stop.frozenTiles.contains x || !(chkServes s x)

/-- A beat of operation `o` on host tile `n` is counted, unless no powered checker receives it. -/
def beatCounts (s : State) (n : Nat) (st : Stream) (o : PortOp) (dropped : List Nat) : State :=
  let z := counterOf s n
  let b := if clusterOut s z then s else cov (tcnt s z (3 + streamNo st)) o.interval (part s n) 4 1
  if !(clusterOut s z) && beatDrops s dropped (o.checker.getD z) then cov b o.interval (part s n) 5 1 else b

section
variable {s : State} {n q : Nat} {st : Stream} {data : Beat} {scale : Word} {last : Bool} {dr sk : List Nat} {o : PortOp}

/-- A beat that its open stream expects: it is counted, the port takes it, each checker that holds the operation gets it, and
the operation closes with its last stream. -/
theorem tapBeat_expected (hrst : (tile s n).port.rstReq = false)
    (hfind : ((tile s n).port.opn.find? fun x => x.num == q) = some o) (hused : streamUsed o.desc st = true)
    (hopen : (portStream o st).2 = true) (hdue : (portStream o st).1 < streamBeats o.desc st)
    (hlast : last = ((portStream o st).1 + 1 == streamBeats o.desc st)) :
    tapBeat n st q data scale last dr sk s =
      let o' := portTakes o st (!last)
      let b := modPort (beatCounts s n st o dr) n fun p => { p with opn := p.opn.map fun x => if x.num == q then o' else x }
      let b := forEach (holders b n q) b fun b x =>
        chkBeat b x.1 x.2 st (portStream o st).1 data scale (beatDrops s dr x.1) (sk.contains x.1)
      if o'.aOpen || o'.bOpen || o'.cOpen then b else portCloses b n q := by
  have hnotdue : ¬ streamBeats o.desc st ≤ (portStream o st).1 := by omega
  have hends : (last || (portStream o st).1 + 1 == streamBeats o.desc st) = last := by rw [← hlast, Bool.or_self]
  have hmark : (last != ((portStream o st).1 + 1 == streamBeats o.desc st)) = false := by rw [hlast, bne_self_eq_false]
  have hwhole : (last && decide ((portStream o st).1 + 1 < streamBeats o.desc st)) = false := by
    rw [hlast]
    by_cases h : (portStream o st).1 + 1 = streamBeats o.desc st <;> simp [h]
  -- What is counted turns on the power of the counting checker's cluster and on the drop; the rest is the same in each case.
  cases hout : clusterOut s (counterOf s n) <;> cases hdrop : beatDrops s dr (o.checker.getD (counterOf s n))
  all_goals
    rw [beatDrops] at hdrop
    simp only [tapBeat, beatCounts, beatDrops, beatDropped, hrst, hfind, hused, hopen, hnotdue, hends, hmark, hwhole, hout,
      hdrop, tcnt_clusterOut, cov_clusterOut, tcnt_part, cov_part, decide_false, Bool.not_true, Bool.not_false, Bool.or_false,
      Bool.and_true, Bool.and_false, Bool.false_eq_true, if_false, if_true]

end

/-- Settles O11: the descriptor words and the late verdicts case by case, and the beat that its stream expects. -/
theorem tapPorts : Obligations.TapPorts := by
  refine ⟨fun s n w hr hn hrst hlen => ?_, fun s n w hr hn hrst hlen => ?_,
    fun s n st q data scale last dr sk o hr hn hq hrst hfind hused hopen hdue hlast => ?_, fun s n hr hn => ?_,
    fun s k n hr hk hk3 hn => ?_⟩
  · exact does_of rfl (decide_eq_true hn) hr (tapDescWord_joins (s := clearSent s) hrst hlen)
  · exact does_of rfl (decide_eq_true hn) hr (tapDescWord_completes (s := clearSent s) hrst hlen)
  · have hw : wellFormed s.build (.tapBeat n st q data scale last dr sk) = true := by simp [wellFormed, hn, hq]
    exact does_of rfl hw hr (tapBeat_expected (s := clearSent s) hrst hfind hused hopen hdue hlast)
  · have hw : wellFormed s.build (.verdictLate 0 n) = true := by simp [wellFormed, hn]
    exact does_of rfl hw hr verdictLate_operation
  · have hw : wellFormed s.build (.verdictLate k n) = true := by simp [wellFormed, hn, hk3]
    exact does_of rfl hw hr (verdictLate_step hk)

end Sys2Proof.ReliabilityPlane
end

section
/-! The residue checksums (03_residue_checksums): held records and their acknowledgements, the outcomes of pips, collective
reports, the undo pages, the certificate, and the watch of a host tile. -/
namespace Sys2Proof.ResidueChecksums

open Machine

/-! ### Held records (R92) -/

section
variable {h : Held} {v : Word}

/-- A held record stays as it is; the result is counted as missed. -/
theorem heldPost_held (hv : h.valid = true) (w0 w1 t : Word) :
    heldPost h w0 w1 t = { h with missed := h.missed + 1 } := by
  simp only [heldPost, hv, if_true]

/-- A register that holds none takes the result. -/
theorem heldPost_free (hv : h.valid = false) (w0 w1 t : Word) :
    heldPost h w0 w1 t = { valid := true, seq := wrapAdd 16 h.seq 1, missed := 0, w0 := w0, w1 := w1, time := t } := by
  simp only [heldPost, hv, Bool.false_eq_true, if_false]

theorem heldAck_other (hv : fld v 15 0 ≠ h.seq) : heldAck h v = h := by
  have hnot : (fld v 15 0 == h.seq) = false := beq_eq_false_iff_ne.2 hv
  simp only [heldAck, hnot, Bool.and_false, Bool.false_eq_true, if_false]

theorem heldAck_seq (hvalid : h.valid = true) (hv : fld v 15 0 = h.seq) : heldAck h v = { h with valid := false } := by
  simp only [heldAck, hvalid, hv, beq_self_eq_true, Bool.and_true, if_true]

/-- Any number of results leave a held record. -/
theorem foldl_heldPost_held (rs : List (Word × Word × Word)) (hv : h.valid = true) :
    rs.foldl (fun h r => heldPost h r.1 r.2.1 r.2.2) h = { h with missed := h.missed + rs.length } := by
  induction rs generalizing h with
  | nil => rfl
  | cons r rs ih =>
    rw [List.foldl_cons, heldPost_held hv, ih (h := { h with missed := h.missed + 1 }) hv, List.length_cons,
      Nat.add_assoc, Nat.add_comm 1]

end

/-- Settles O58, by induction on the results that come while the record is held. -/
theorem heldRecord : Obligations.HeldRecord := by
  intro h rs hvalid g
  have hg : g = { h with missed := h.missed + rs.length } := foldl_heldPost_held rs hvalid
  refine ⟨hg, fun v hv => ?_, fun v hv a b t => ?_⟩
  · rw [hg]; exact heldAck_other hv
  · have hack : heldAck g v = { g with valid := false } := heldAck_seq (by rw [hg]; exact hvalid) (by rw [hg]; exact hv)
    rw [hack, heldPost_free rfl, hg]
    exact ⟨rfl, rfl, rfl, rfl⟩

/-! ### The records of the step engine (R93, R124, R174) -/

section
variable {s : State} {f f' : StepRegs → StepRegs} {v : Word}

theorem modRegs_congr (h : f s.step.regs = f' s.step.regs) : modRegs s f = modRegs s f' := by
  simp only [modRegs, h]

theorem covAck_seq (hvalid : s.step.regs.covValid = true) (hv : fld v 15 0 = s.step.regs.covSeq) :
    covAck v s = modRegs s fun g => { g with covValid := false } := by
  simp only [covAck, hvalid, hv, beq_self_eq_true, Bool.and_true, if_true, modRegs]

end

/-- Settles O16: each register is open to every requester, and the held SEQ consumes its record. -/
theorem stepAcks : Obligations.StepAcks := by
  intro s rq v hr hid
  have hregs : (cnt (clearSent s) 10).step.regs = s.step.regs := by rw [cnt_step, clearSent_step]
  refine ⟨fun hvalid hv => ?_, fun hvalid hv => ?_, fun hvalid hv => ?_, fun hvalid hv => ?_⟩
  · exact writes_of (g := collAck v) rfl rfl hr hid (access_050810 ..) (modRegs_congr (by rw [hregs, heldAck_seq hvalid hv]))
  · exact writes_of (g := covAck v) rfl rfl hr hid (access_050908 ..)
      (covAck_seq (by rw [hregs, hvalid]) (by rw [hregs, hv]))
  · exact writes_of (g := verdictAck v) rfl rfl hr hid (access_050038 ..)
      (modRegs_congr (by rw [hregs, heldAck_seq hvalid hv]))
  · exact writes_of (g := decisionAck v) rfl rfl hr hid (access_050048 ..)
      (modRegs_congr (by rw [hregs, heldAck_seq hvalid hv]))

/-! ### Acknowledgements on a quiet block (R388, R473) -/

/-- State `t` with the access of `rq` counted and answered OK, and what the step before sent taken. -/
def answered (rq : Acc) (t : State) : State :=
  { t with
    obs := (cnt t 10).obs, cas := { t.cas with out := [] },
    shell := { t.shell with krp := t.shell.krp.drop (t.shell.krp.length - 7) ++ [⟨0, rq.id, 0⟩], trayOut := [] } }

theorem krpDone_answered (rq : Acc) (t : State) : krpDone (clearSent (cnt t 10)) rq.id 0 0 = answered rq t := by
  simp only [answered, cnt_eq]
  rfl

/-- Everything that no acknowledgement and no answer changes. -/
def offAcks (s : State) : State :=
  { s with
    mode := { s.mode with refused := {} }, fault := { s.fault with first := {} }, hangReg := {}, stopReg := {}
    qrs := { s.qrs with event := {} }, loader := { s.loader with event := {} }, mail := {}, obs := {}
    step := { s.step with regs := {} }, mirror := { s.mirror with checkReg := {} }
    cas := { s.cas with out := [] }, shell := { s.shell with krp := [], trayOut := [] } }

section
variable {c : Instr} {rq : Acc} {off : Nat} {v : Word} {g : State → State} {s t : State}

@[simp] theorem offAcks_answered : offAcks (answered rq t) = offAcks t := rfl

/-- Quietness reads no held record, no mailbox and no counter. -/
theorem quiet_of_offAcks (h : offAcks t = offAcks s) (hq : Quiet s) : Quiet t := by
  have hq' : Quiet (offAcks t) := h ▸ hq
  exact hq'

/-- Nor does what settling compares. -/
theorem sameAxes_of_offAcks (h : offAcks t = offAcks s) : SameAxes s t := by
  have hx : SameAxes (offAcks s) (offAcks t) := h ▸ ⟨rfl, rfl, rfl, rfl, rfl, rfl, rfl, rfl, rfl, rfl, rfl⟩
  exact hx

/-- On a quiet block a register write that changes `s` to `t` ends there, with its answer, where the change is one that an
acknowledgement makes. -/
theorem exec_answered_of (h : exec c s = run c (regCmd rq off v g) s) (hw : wellFormed s.build c = true) (hq : Quiet s)
    (hr : Running s) (hid : Requester rq) (hc : accessCode (cnt (clearSent s) 10) rq off true = 0)
    (ht : offAcks t = offAcks s) (he : g (cnt (clearSent s) 10) = clearSent (cnt t 10))
    (hk : requester c = rq.id := by rfl) : exec c s = .next (answered rq t) := by
  have hdone : krpDone (g (cnt (clearSent s) 10)) rq.id 0 0 = answered rq t := by rw [he, krpDone_answered]
  have hoff : offAcks (answered rq t) = offAcks s := by rw [offAcks_answered, ht]
  have hb : t.build = s.build := congrArg (·.build) ht
  have hp : t.pending = s.pending := congrArg (·.pending) ht
  refine regCmd_quiet h hw hr hid hc ?_ ?_ ?_ hk
  · rw [hdone]; exact quiet_of_offAcks hoff hq
  · rw [hdone]; exact sameAxes_of_offAcks hoff
  · rw [hdone, ← hb, ← hp]; rfl

/-- The same where the effect neither reads nor changes the block's own counters. -/
theorem exec_answered (h : exec c s = run c (regCmd rq off v g) s) (hw : wellFormed s.build c = true) (hq : Quiet s)
    (hr : Running s) (hid : Requester rq) (hc : accessCode (cnt (clearSent s) 10) rq off true = 0)
    (ht : offAcks t = offAcks s) (he : ∀ o, g { clearSent s with obs := o } = clearSent { t with obs := o })
    (ho : t.obs = s.obs := by rfl) (hk : requester c = rq.id := by rfl) : exec c s = .next (answered rq t) := by
  refine exec_answered_of h hw hq hr hid hc ht ?_ hk
  rw [cnt_eq, cnt_eq, he, ho, clearSent_obs]

theorem firstAck_seq (hsec : rq.sec = true) (hvalid : s.fault.first.valid = true)
    (hv : fld v 15 0 = fld s.fault.first.info 47 32) :
    firstAck rq v s = { s with
      fault := { s.fault with first := { s.fault.first with valid := false, info := setFld s.fault.first.info 63 63 0 } } } := by
  simp only [firstAck, secure, hsec, hvalid, hv, beq_self_eq_true, Bool.and_true, if_true, modFault]

theorem mbOutDbClear_secure (hsec : rq.sec = true) (ch : Nat) :
    mbOutDbClear rq ch v s = updMbox s ch fun m => { m with outDb := m.outDb - (m.outDb &&& fld v 31 0) } := by
  simp only [mbOutDbClear, mbAllowed, hsec, Bool.true_or, Bool.not_true, Bool.false_eq_true, if_false]

theorem mbCollClear_secure (hsec : rq.sec = true) (hv : bitOf v 62 = true) (ch : Nat) (out : Bool) :
    mbCollClear rq ch out v s =
      updMbox s ch fun m => if out then { m with outColl := false } else { m with inColl := false } := by
  simp only [mbCollClear, mbAllowed, hsec, hv, Bool.true_or, Bool.not_true, Bool.or_false, Bool.false_eq_true, if_false]

end

/-- Settles O60: each acknowledgement is a register write that changes its record alone, and settling reads no record. -/
theorem acknowledgeFrames : Obligations.AcknowledgeFrames := by
  intro s rq v hq hr hs ans
  obtain ⟨hid, hsec⟩ := hs
  refine ⟨?_, ?_, ?_, ?_, ?_, ?_, ?_, ?_, ?_, ?_, fun hvalid hv => ?_, fun hvalid hv => ?_, fun ch hch => ?_⟩
  · exact exec_answered rfl rfl hq hr hid (access_001130 ..) rfl fun _ => rfl
  · exact exec_answered rfl rfl hq hr hid (access_001228 _ _ hsec) rfl fun _ => if_pos hsec
  · exact exec_answered rfl rfl hq hr hid (access_001240 _ _ hsec) rfl fun _ => if_pos hsec
  · exact exec_answered rfl rfl hq hr hid (access_090028 ..) rfl fun _ => rfl
  · exact exec_answered rfl rfl hq hr hid (access_060058 ..) rfl fun _ => rfl
  · exact exec_answered rfl rfl hq hr hid (access_080038 _ _ hsec) rfl fun _ => rfl
  · -- The dump result's record stands in the unit that counts the access.
    refine exec_answered_of rfl rfl hq hr hid (access_0B0048 _ _ hsec) rfl ?_
    rw [cnt_eq, cnt_eq]
    cases hrun : s.obs.running <;> simp [hrun, writeObs, modOb, clearSent]
  · exact exec_answered rfl rfl hq hr hid (access_050038 ..) rfl fun _ => rfl
  · exact exec_answered rfl rfl hq hr hid (access_050048 ..) rfl fun _ => rfl
  · exact exec_answered rfl rfl hq hr hid (access_050810 ..) rfl fun _ => rfl
  · exact exec_answered rfl rfl hq hr hid (access_050908 ..) rfl fun _ => covAck_seq hvalid hv
  · exact exec_answered rfl rfl hq hr hid (access_010028 _ _ hsec) rfl fun _ => firstAck_seq hsec hvalid hv
  · have hw : decide (ch < 256) = true := decide_eq_true (by omega)
    have hrq : mbAllowed rq ch = true := by simp only [mbAllowed, hsec, Bool.true_or]
    refine ⟨?_, fun hv => ⟨?_, ?_⟩⟩
    · exact exec_answered rfl hw hq hr hid (access_mail _ _ ch 0x58 _ hch hrq (by simp) (by omega)) rfl
        fun _ => mbOutDbClear_secure hsec ch
    · exact exec_answered rfl hw hq hr hid (access_mail _ _ ch 0x10 _ hch hrq (by simp) (by simp [b2n]; omega)) rfl
        fun _ => mbCollClear_secure hsec hv ch false
    · exact exec_answered rfl hw hq hr hid (access_mail _ _ ch 0x48 _ hch hrq (by simp) (by simp [b2n]; omega)) rfl
        fun _ => mbCollClear_secure hsec hv ch true

/-! ### Pips and mismatch records (R92, R103–R106, R126) -/

section
variable {s : State} {rq : Acc} {x tl : Nat} {v : Word}

/-- The oldest runnable pip, where its captures agree. -/
theorem pipOutcome_agree {o : Op} {p : Pip} {rest : List (Nat × Grain × Bool)} {f : Bool}
    (hrun : (tile s x).chk.runq = (o.uid, p.grain, f) :: rest) (hop : opOf s x o.uid = some o)
    (hpip : ((tile s x).chk.pips.find? fun q => q.op == o.uid && q.grain == p.grain) = some p)
    (hout : pipOutcomeOf o p = .agree) :
    pipOutcome x s =
      let b := modChk s x fun c =>
        { c with runq := c.runq.drop 1, backlog := c.backlog - pipCost o.desc, pips := c.pips.filter fun q => !(samePip q p) }
      maybeJudged (tcnt (cov (modOp b x o.uid fun o => { o with pipAgree := true }) o.interval (part b o.host) 7 1) x 10)
        x o.uid := by
  have hnot : (PipOut.agree == PipOut.mismatch) = false := by decide
  simp only [pipOutcome, hrun, hop, hpip, hout, hnot, Bool.false_eq_true, if_false]

/-- A write of an acknowledgement in the window of a tile that the build has, on a live riser. -/
theorem tileAck_writes {c : Instr} {off : Nat} {g : State → State} (h : exec c s = run c (regCmd rq off v g) s)
    (hw : wellFormed s.build c = decide (tl < 4096)) (hr : Running s) (hid : Requester rq) (hok : s.build.ok = true)
    (ht : tl < s.build.tiles) (hup : riserUp s tl = true)
    (hoff : off = 0x100018 + 0x400 * tl ∨ off = 0x100040 + 0x400 * tl) (hq : requester c = rq.id := by rfl) :
    Writes c s g := by
  have h4096 : tl < 4096 := by simp [Build.ok] at hok; omega
  refine writes_of h (hw.trans (decide_eq_true h4096)) hr hid (access_tile _ rq tl off ?_ ?_ ?_ hoff) rfl hq
  · simpa using hok
  · simpa using ht
  · simpa using hup

/-- One in the window of a tile at or above PHYS_TILES. -/
theorem unbuiltAck_noReg {c : Instr} {off : Nat} {g : State → State} (h : exec c s = run c (regCmd rq off v g) s)
    (hw : wellFormed s.build c = decide (tl < 4096)) (hr : Running s) (hid : Requester rq) (ht : s.build.tiles ≤ tl)
    (h4096 : tl < 4096) (hoff : off = 0x100018 + 0x400 * tl ∨ off = 0x100040 + 0x400 * tl) :
    Does c s fun a => krpDone (cnt a 10) rq.id 2 0 := by
  refine does_of h (hw.trans (decide_eq_true h4096)) hr
    (regCmd_noReg hid (access_unbuilt _ rq tl off true ?_ h4096 (by omega) (by omega)))
  simpa using ht

end

/-- Settles O12: the agreeing pip by its outcome, the acknowledgements by what their tile window answers. -/
theorem checkerResults : Obligations.CheckerResults := by
  refine ⟨fun s x o p rest f hr hx hrun hop hpip hout => ?_, fun s rq tl v hr hid hok ht hup _ _ => ?_,
    fun s rq tl v hr hid hok ht hup _ _ => ?_, fun s rq tl v hr hid ht h4096 => ⟨?_, ?_⟩⟩
  · exact does_of rfl (decide_eq_true hx) hr (pipOutcome_agree (s := clearSent s) hrun hop hpip hout)
  · exact tileAck_writes rfl rfl hr hid hok ht hup (.inl rfl)
  · exact tileAck_writes rfl rfl hr hid hok ht hup (.inr rfl)
  · exact unbuiltAck_noReg rfl rfl hr hid ht h4096 (.inl rfl)
  · exact unbuiltAck_noReg rfl rfl hr hid ht h4096 (.inr rfl)

/-! ### Collectives, undo pages and the certificate (R84–R86, R145, R146, R171) -/

section
variable {s : State}

/-- A RECV with the declared residue joins its chain: it is no contribution to Z, and no check fails. -/
theorem collReport_recv {r : Report} (hbad : reportBad s r = false) (hkind : r.kind = 1) (hres : r.res = r.resDecl) :
    collReport r s = setChain (cnt s 7) (chainTakes (chainOf (cnt s 7) r) r (chainOf (cnt s 7) r).pending) := by
  have hz (a : State) : addZ a r = a := by simp [addZ, hkind]
  simp [collReport, hbad, hz, hkind, hres]

theorem undoCopyDone_last (hbusy : s.step.eng.undoBusy = true) (hread : s.step.eng.undoReading = false)
    (hleft : s.step.eng.undoLeft = 0) :
    undoCopyDone s =
      journalW (modEng s fun e => { e with undoBusy := false, undoDone := true }) 6 0
        (BitVec.ofNat 64 s.step.eng.undoPages.length ::
          (upto 6).map (digestWord (Config.sha3_384 (wordsBytes s.step.eng.undoPages)))) := by
  simp only [undoCopyDone, hbusy, hread, hleft, Bool.not_true, Bool.or_self, bne_self_eq_false, Bool.false_eq_true, if_false]

theorem undoRestoreDone_last (hrest : s.step.eng.restoring = true) (hleft : s.step.eng.restoreLeft = 0) :
    undoRestoreDone s = modEng s fun e => { e with
      restoring := false, epochValid := e.epochValid || e.recovering == 3
      recovering := if e.recovering = 3 then 0 else e.recovering } := by
  simp only [undoRestoreDone, hrest, hleft, beq_self_eq_true, Bool.and_self, if_true, beq_iff_eq]

/-- With every digest there, what becomes of a certificate turns on the attestation key. -/
theorem certDigestDone_complete (hbusy : s.step.cert.busy = true) (hlist : s.step.cert.listed = true)
    (hwrite : s.step.cert.writing = false) (hlen : s.step.cert.shards.length ≤ s.step.cert.digests.length) :
    certDigestDone s =
      match s.sec.att with
      | none => modCert s fun c => { c with busy := false, failed := true }
      | some key =>
        let bytes := certBody s ++ Config.sign key (certBody s)
        certMove (modCert s fun c => { c with writing := true }) blockEnd
          (BitVec.ofNat 64 (certBase s + ceilDiv (16 * (s.step.cert.shards.length + 1)) 64 * 64))
          (ceilDiv bytes.length 64 * 64) 3 bytes := by
  have hall : decide (s.step.cert.digests.length < s.step.cert.shards.length) = false := decide_eq_false (by omega)
  exact if_neg (by rw [hbusy, hlist, hwrite, hall]; decide)

end

/-- Settles O21, command by command, each in the state in which its work is complete. -/
theorem collectivesAndUndo : Obligations.CollectivesAndUndo := by
  intro s hr
  refine ⟨fun r hbad hkind hres => ?_, fun hbusy hread hleft => ?_, fun hrest hleft => ?_,
    fun hbusy hlist hwrite hlen => ?_⟩
  · exact does_of rfl rfl hr (collReport_recv (s := clearSent s) hbad hkind hres)
  · exact does_of rfl rfl hr (undoCopyDone_last (s := clearSent s) hbusy hread hleft)
  · exact does_of rfl rfl hr (undoRestoreDone_last (s := clearSent s) hrest hleft)
  · exact does_of rfl rfl hr (certDigestDone_complete (s := clearSent s) hbusy hlist hwrite hlen)

/-! ### The watch of a host tile (R275, R278, R279, R384, R387) -/

section
variable {s : State} {n : Nat}

/-- A beacon that advances on a watched tile. -/
theorem beaconSample_advance {v : Nat} (hon : (tile s n).watch.on = true) (hne : v ≠ (tile s n).watch.beacon)
    (hadv : (v + 2 ^ 32 - (tile s n).watch.beacon) % 2 ^ 32 < 2 ^ 31) :
    beaconSample n v s =
      let z := counterOf s n
      let b := lateProgress (modWatch (ring (tcnt s z 14) z 4 (z != n) v) n fun w => { w with beacon := v }) n
      if watched b n then watchRestart b n else b := by
  have hnew : (v == (tile s n).watch.beacon) = false := beq_eq_false_iff_ne.2 hne
  have hnot : ¬ (v + 2 ^ 32 - (tile s n).watch.beacon) % 2 ^ 32 ≥ 2 ^ 31 := Nat.not_le.2 hadv
  simp only [beaconSample, hon, hnew, hnot, Bool.true_or, Bool.true_and, Bool.false_eq_true, if_false]

/-- HANG on a watched tile, with `o` its oldest open operation. -/
theorem hang_watched {o : PortOp} {rest : List PortOp} (hon : (tile s n).watch.on = true) (hw : watched s n = true)
    (hops : (tile s n).port.opn = o :: rest) :
    hang n s =
      let w := (tile s n).watch
      let z := counterOf s n
      let b := latch (modObs (ring (raiseTap s (fcode 7 2 0) n o.desc) z 9 (z != n) 0 (idOf o.desc)) z fun k =>
        { k with frozen := true }) 1 5
      let seq := wrapAdd 16 b.hangReg.seq (b.hangReg.missed + 1)
      let w0 := pack [(62, 1, b2n w.overflow), (56, 5, w.suspects.length), (16, 12, n)]
      let b := ladderRec { b with hangReg := heldPostAll b.hangReg w0 0 0 } 5
        [setFld (setFld w0 63 63 1) 47 32 seq, BitVec.ofNat 64 (opIdent o.desc)]
      let b := modWatch b n fun w => { w with on := false, hung := true, hungSeq := some seq }
      let b := forEach (o :: rest) b fun b o => if o.suspect then b else opFails b o.phase o.desc.mb o.run o.gen 1
      if (replaying b n).isSome then suspectFound b 2
      else modSearch b fun q =>
        { q with
          hangs := q.hangs + 1
          uncovered := q.uncovered ++ [⟨n, seq, w.suspects, w.overflow, q.hangs, opIdent o.desc⟩] } := by
  have hz : counterOf (raiseTap s (fcode 7 2 0) n o.desc) n = counterOf s n := rfl
  simp only [hang, hon, hw, hops, hz, fcHang, Bool.and_self, Bool.not_true, Bool.false_eq_true, if_false]

/-- A reset that a tile asks for while none is under way. -/
theorem tileRstReq_rises (hidle : (tile s n).port.rstReq = false) :
    tileRstReq n s =
      let z := counterOf s n
      unresolve (ring (discardOps (modPort s n fun p => { p with words := [], rstReq := true, rstAck := true })
        (fun _ o => o.host == n) (fun m _ => m == n)) z 6 (z != n) 0) fun m _ => m == n := by
  simp only [tileRstReq, tileRst, hidle, Bool.false_eq_true, if_false]

/-- The end of a reset that no rung of the ladder asked for. -/
theorem tileRstEnds_unasked (hrst : (tile s n).port.rstReq = true) (hrung : s.ladder.rung = 0) :
    tileRstEnds n s = engineReset (modPort s n fun p => { p with rstReq := false, rstAck := false, num := 0 }) n := by
  simp [tileRstEnds, tileRstFall, hrst, hrung]

end

/-- Settles O13: of its hypotheses, that the tile has not hung yet and that no search runs are not needed. -/
theorem tileWatch : Obligations.TileWatch := by
  refine ⟨fun s n v hr hn hon _ hne hadv => ?_, fun s n o rest hr hn hon hw hops _ => ?_, fun s n hr hn hidle => ?_,
    fun s n hr hn hrst hrung => ?_⟩
  · exact does_of rfl (decide_eq_true hn) hr (beaconSample_advance (s := clearSent s) hon hne hadv)
  · exact does_of rfl (decide_eq_true hn) hr (hang_watched (s := clearSent s) hon hw hops)
  · exact does_of rfl (decide_eq_true hn) hr (tileRstReq_rises (s := clearSent s) hidle)
  · exact does_of rfl (decide_eq_true hn) hr (tileRstEnds_unasked (s := clearSent s) hrst hrung)

end Sys2Proof.ResidueChecksums
end

section
/-! The pips and signatures (04_pips_and_signatures): the scalars of a step, its coverage intervals and the opening of the
update. -/
namespace Sys2Proof.PipsAndSignatures

open Machine

/-! ### Scalars (R143, R164, R393) -/

section
variable {s : State} {payload : Nat} {fits nf : Bool} {f : Step → Step}

/-- A non-finite value counts in an armed block whose run has not had one yet (R29, R164). -/
theorem nonfiniteLatch_eq : nonfiniteLatch s =
    if isArmed s && !s.step.eng.nonfinite then
      post (closeGates (modEng s fun e => { e with nonfinite := true })) (.require 4 true none 9)
    else s := by
  have hskip : (!(isArmed s) || s.step.eng.nonfinite) = !(isArmed s && !s.step.eng.nonfinite) := by
    rw [Bool.not_and, Bool.not_not]
  rw [nonfiniteLatch, hskip]
  cases isArmed s && !s.step.eng.nonfinite <;> rfl

/-- A field that does not fit is a range fault. -/
theorem scalar_misfit (hfits : fits = false) : scalar s payload fits nf f = raisePort s fcPortRange 10 0 payload := by
  simp only [scalar, hfits, Bool.not_false, Bool.true_or, if_true]

/-- Before the run's vote a scalar that fits is stored, and a non-finite one is latched as the flag is. The storing leaves
what the latch looks at. -/
theorem scalar_stored (hfits : fits = true) (hvote : (isArmed s && s.step.vote.voted) = false)
    (harm : (f s.step.eng).armed = s.step.eng.armed) (hkeep : (f s.step.eng).nonfinite = s.step.eng.nonfinite) :
    scalar s payload fits nf f =
      if isArmed s && nf && !s.step.eng.nonfinite then
        post (closeGates (modEng (modEng s f) fun e => { e with nonfinite := true })) (.require 4 true none 9)
      else modEng s f := by
  have harmed : isArmed (modEng s f) = isArmed s := harm
  have hlatched : (modEng s f).step.eng.nonfinite = s.step.eng.nonfinite := hkeep
  cases nf with
  | false =>
    simp only [scalar, hfits, hvote, Bool.not_true, Bool.or_self, Bool.and_false, Bool.false_and, Bool.false_eq_true, if_false]
  | true =>
    simp only [scalar, hfits, hvote, nonfiniteLatch_eq, harmed, hlatched, Bool.not_true, Bool.or_self, Bool.and_true,
      Bool.false_eq_true, if_false, if_true]

/-- On every build LOSS and GRAD_NORM can happen with fields as wide as the port's. -/
theorem lossScalar_wellFormed (b : Build) {mb x : Nat} (hmb : mb < 2 ^ 32) (hx : x < 2 ^ 57) :
    wellFormed b (.lossScalar mb x) = true := Bool.and_eq_true_iff.2 ⟨decide_eq_true hmb, decide_eq_true hx⟩

theorem gradNormScalar_wellFormed (b : Build) {i : ScalarItem} (hmb : i.mb < 2 ^ 32) (harg : i.arg < 2 ^ 57) :
    wellFormed b (.gradNormScalar i) = true := Bool.and_eq_true_iff.2 ⟨decide_eq_true hmb, decide_eq_true harg⟩

/-- GRAD_NORM uses no micro-batch: one that is set does not fit, nor does a value over 32 bits. -/
theorem gradFits_eq_false {i : ScalarItem} (h : i.mb ≠ 0 ∨ 2 ^ 32 ≤ i.arg) :
    (i.mb == 0 && decide (i.arg < 2 ^ 32)) = false := by
  rcases h with hmb | hover
  · rw [beq_eq_false_iff_ne.2 hmb, Bool.false_and]
  · rw [decide_eq_false (Nat.not_lt.2 hover), Bool.and_false]

end

/-! ### Coverage summaries and the update (R122, R124, R143) -/

section
variable {s : State}

/-- The oldest closed interval goes to a free register. -/
theorem coverageSummary_posts {c : Cov} {rest : List Cov} (hready : s.step.covReady = c :: rest)
    (hdone : covBusy s c.no = false) (hfree : s.step.regs.covValid = false) :
    coverageSummary s =
      let ws := covWords s c
      let b := { s with step := { s.step with
        covReady := rest, covHeld := c
        regs := { s.step.regs with covValid := true, covSeq := wrapAdd 16 s.step.regs.covSeq 1, covMissed := 0 } } }
      post (record b 5 1 [BitVec.ofNat 64 3, nthW ws 0, nthW ws 1, BitVec.ofNat 64 c.no])
        (.journal { type := 5, replay := c.replay, step := c.step, pay := .words ws }) := by
  simp only [coverageSummary, hready, hdone, hfree, Bool.false_eq_true, if_false]

/-- With no condition of R143 left the update opens. -/
theorem updOpens_ready (hshut : s.step.eng.updOpen = false) (hwait : updWait s = 0) :
    updOpens s = modEng s fun e => { e with updOpen := true, updOpened := true } := by
  simp only [updOpens, hshut, hwait, bne_self_eq_false, Bool.or_self, Bool.false_eq_true, if_false]

end

/-- Settles O18: the scalars by the one rule that LOSS and GRAD_NORM share, the flag by the latch alone. -/
theorem scalars : Obligations.Scalars := by
  intro s hr
  refine ⟨fun mb x hmb hx hvote => ?_, fun mb x hmb hover hx => ?_, fun x hx hvote => ?_, fun i hmb harg hbad => ?_, ?_,
    fun c rest hready hdone hfree => ?_, fun hshut hwait => ?_⟩
  · exact does_of rfl (lossScalar_wellFormed _ hmb (Nat.lt_trans hx (by decide))) hr
      (scalar_stored (s := clearSent s) (decide_eq_true hx) hvote rfl rfl)
  · exact does_of rfl (lossScalar_wellFormed _ hmb hx) hr (scalar_misfit (decide_eq_false (Nat.not_lt.2 hover)))
  · exact does_of rfl (gradNormScalar_wellFormed _ (Nat.two_pow_pos 32) (Nat.lt_trans hx (by decide))) hr
      (scalar_stored (s := clearSent s) (decide_eq_true hx) hvote rfl rfl)
  · exact does_of rfl (gradNormScalar_wellFormed _ hmb harg) hr (scalar_misfit (gradFits_eq_false hbad))
  · exact does_of rfl rfl hr (nonfiniteLatch_eq (s := clearSent s))
  · exact does_of rfl rfl hr (coverageSummary_posts (s := clearSent s) hready hdone hfree)
  · exact does_of rfl rfl hr (updOpens_ready (s := clearSent s) hshut hwait)

end Sys2Proof.PipsAndSignatures
end

section
/-! The step, its journal and its commit (05_step_journal_and_commit): arming, the commands of STEP_CMD, markers, the verdict,
the votes and decisions on the tree and over the cascade ring, and the token gate. -/
namespace Sys2Proof.StepJournalAndCommit

open Machine

/-! ### Arming (R173, R184, R242, R245, R454) -/

section
variable {s : State} {rq : Acc} {v : Word} {rises : State → State} {w : ArmWait}

/-- Off any ring an arm goes through at once. -/
theorem armRing_standalone (hknown : s.cas.roleKnown = true) (hrole : s.cas.role = .standalone) :
    armRing rises w s = rises s := by
  simp only [armRing, hknown, hrole, Bool.not_true, beq_self_eq_true, Bool.false_eq_true, if_false, if_true]

/-- Before the role is known it waits for it. -/
theorem armRing_unknown (hknown : s.cas.roleKnown = false) :
    armRing rises w s = modCas s fun c => { c with armWait := some w, armOk := false, armRole := true } := by
  simp only [armRing, hknown, Bool.not_false, if_true]

/-- What R245 asks of a write of STEP_ARM where there is no mirror and no ring. -/
structure ArmLegal (s : State) (job : Nat) : Prop where
  live : s.fault.safe = false
  unarmed : isArmed s = false
  noPairWait : s.mirror.wait = none
  noRingWait : s.cas.armWait = none
  mode : jobMode s ≠ 3
  style : jobMode s = 0 ∨ isUndo s = false
  noMirror : mirMode s = 0
  security : secState s = .open_ ∨ secState s = .sealed_
  jobKey : jobKeyFor s job = true
  policy : regActive s 2 = true
  thermal : regActive s 3 = true
  standalone : s.cas.role = .standalone

/-- It is as legal once the access is counted. -/
theorem ArmLegal.counted {job : Nat} (h : ArmLegal s job) : ArmLegal (cnt (clearSent s) 10) job := by
  rw [cnt_eq]
  exact { h with }

/-- No row of R244 refuses such an arm. -/
theorem stepArm_legal (h : ArmLegal s (fld v 31 0)) : stepArm rq v s = armRing (armRises v) ⟨.arm, v⟩ s := by
  obtain ⟨hsafe, harmed, hpair, hring, hmode, hstyle, hmirror, hsec, hkey, hpolicy, htherm, hrole⟩ := h
  have hdecode : (jobMode s == 3) = false := beq_eq_false_iff_ne.2 hmode
  have hstyle' : (jobMode s != 0 && isUndo s) = false := by rcases hstyle with h | h <;> simp [h]
  have hsec' : (secState s == .provision || secState s == .locked || !(jobKeyFor s (fld v 31 0))) = false := by
    rcases hsec with h | h <;> simp [h, hkey]
  have hrow : casRowFails s (fld v 31 0) = false := by simp [casRowFails, isMaster, hrole]
  simp only [stepArm, hsafe, harmed, hpair, hring, hdecode, hstyle', hsec', hrow, hpolicy, htherm, hmirror,
    Option.isSome_none, Bool.or_self, Bool.or_false, Bool.and_self, Bool.not_true, Bool.false_and, bne_self_eq_false,
    Bool.false_eq_true, if_false]

/-- A wait for PAIRED that has lasted 1 ms ends with a fault, that of a RECOVER does not end. -/
theorem armPairLate_waiting (hwait : s.mirror.wait = some w) :
    armPairLate s =
      if w.kind = .recover then s else raiseI { s with mirror := { s.mirror with wait := none } } (fcode 4 2 5) 2 := by
  simp only [armPairLate, hwait, beq_iff_eq]
  rfl

/-- STEP_CONFIG is stored while unarmed; AUDIT requests are demoted where the job mode becomes DECODE only. -/
theorem configWrite_unarmed (hsafe : s.fault.safe = false) (harmed : isArmed s = false)
    (hmode : fld (configStore v) 3 2 ≠ 1 ∨ jobMode s = 1) :
    configWrite rq v s =
      modRegs (modEng s fun e => { e with config := configStore v }) fun g => { g with written := g.written ||| 1 } := by
  have hkept : (fld (configStore v) 3 2 == 1 && fld s.step.eng.config 3 2 != 1) = false := by
    rcases hmode with h | h
    · simp [h]
    · have hold : fld s.step.eng.config 3 2 = 1 := h
      simp [hold]
  simp only [configWrite, hsafe, harmed, hkept, Bool.false_and, Bool.false_eq_true, if_false]

end

/-- Settles O14: the legal arm by what the ring makes of it, the late wait by its kind, the configuration as it is stored. -/
theorem arming : Obligations.Arming := by
  intro s hr hsafe
  refine ⟨fun v rq hid harmed hpair hring hmode hstyle hmirror hsec hkey hpolicy htherm hrole => ?_, fun w hwait => ?_,
    fun v rq hid harmed hmode => ?_⟩
  · refine writes_of (g := stepArm rq v) rfl rfl hr hid (access_050000 ..) ?_
    have hlegal : ArmLegal s (fld v 31 0) :=
      ⟨hsafe, harmed, hpair, hring, hmode, hstyle, hmirror, hsec, hkey, hpolicy, htherm, hrole⟩
    rw [stepArm_legal hlegal.counted]
    cases hknown : s.cas.roleKnown with
    | true => simp [armRing_standalone, hknown, hrole, armRises]
    | false => simp [armRing_unknown, hknown, modCas]
  · exact does_of rfl rfl hr (armPairLate_waiting (s := clearSent s) hwait)
  · exact writes_of (g := configWrite rq v) rfl rfl hr hid (access_050008 _ _ (by simpa [isArmed] using harmed))
      (configWrite_unarmed (by simpa) (by simpa) (by simpa))

/-! ### The commands of STEP_CMD (R141, R160, R162, R166, R171, R175) -/

section
variable {s : State} {rq : Acc} {cmd step : Nat} {ok : State → Bool} {f g : State → State} {v : Word} {c : Instr}

/-- Outside the safe state a command that R175 lets act does. -/
theorem stepCmd_acts (hsafe : s.fault.safe = false) (hok : ok s = true) : stepCmd rq cmd ok f s = f s := by
  simp only [stepCmd, hsafe, hok, Bool.false_eq_true, if_false, if_true]

/-- So it does as a write of STEP_CMD. -/
theorem stepCommand_writes (h : exec c s = run c (regCmd rq 0x050050 v (stepCmd rq cmd ok g)) s)
    (hw : wellFormed s.build c = true) (hr : Running s) (hid : Requester rq) (hsafe : s.fault.safe = false)
    (hok : ok (cnt (clearSent s) 10) = true) (he : g (cnt (clearSent s) 10) = f (cnt (clearSent s) 10))
    (hq : requester c = rq.id := by rfl) : Writes c s f :=
  writes_of h hw hr hid (access_050050 ..) ((stepCmd_acts (by simpa using hsafe) hok).trans he) hq

/-- With the key of the journal and a STEP_OPEN record in it RECOVER goes on. -/
theorem recoverGo_standalone (hkey : s.sec.jnl.isSome = true) (hopen : (recRec s 1).isSome = true)
    (hknown : s.cas.roleKnown = true) (hrole : s.cas.role = .standalone) :
    recoverGo s = post (recoverTo (rxRecovered s)) .armed := by
  have hfound : (s.sec.jnl.isNone || (recRec s 1).isNone) = false := by
    simp [Option.isNone_eq_false_iff, hkey, hopen]
  rw [recoverGo, hfound, if_neg Bool.false_ne_true, armRing_standalone hknown hrole]
  rfl

/-- A job outside EVAL has its certificates for EPOCH. -/
theorem certStep_epoch (hmode : jobMode s ≠ 2) : certStep s = s.step.eng.epochStep := by
  simp [certStep, hmode]

end

/-- Settles O15: each command acts as R175 lets it; what its rule says is its effect. -/
theorem stepCommands : Obligations.StepCommands := by
  intro s rq step hr hid hsafe
  refine ⟨fun hstep hmnf => ?_, fun hstep hwhy => ?_, fun hstep hphase => ?_,
    fun hconf hpair hring hready hknown hrole hkey hopen => ?_, fun hconf hpair hring hready => ?_,
    fun hconf hpair hring hmirror hknown hrole => ?_, fun hstep hbusy hmixed hmode hphase hused hslot hdone => ?_,
    fun mb ws hstep hkey hnotice => ?_, fun hstep hhalt => ?_⟩
  · exact stepCommand_writes rfl rfl hr hid hsafe (by simp [hstep, hmnf]) rfl
  · refine stepCommand_writes rfl rfl hr hid hsafe ?_ ?_
    · rcases hwhy with h | h | h | h <;> simp [hstep, h]
    · simp only [beq_iff_eq]
  · refine stepCommand_writes rfl rfl hr hid hsafe ?_ rfl
    rcases hphase with h | h <;> simp [hstep, h]
  · refine stepCommand_writes rfl rfl hr hid hsafe (by simp [hconf, hpair, hring]) ?_
    simp only [cnt_pairReady, clearSent_pairReady, hready, if_true]
    exact recoverGo_standalone (by simpa) (by simpa) (by simpa) (by simpa)
  · refine stepCommand_writes rfl rfl hr hid hsafe (by simp [hconf, hpair, hring]) ?_
    simp only [cnt_pairReady, clearSent_pairReady, hready, Bool.false_eq_true, if_false]
    rfl
  · have hready : pairReady s = true := by simp [pairReady, hmirror]
    refine stepCommand_writes rfl rfl hr hid hsafe (by simp [hconf, hpair, hring, hmirror]) ?_
    simp only [cnt_pairReady, clearSent_pairReady, hready, if_true]
    exact armRing_standalone (by simpa) (by simpa)
  · refine stepCommand_writes rfl rfl hr hid hsafe (by simp [hstep, hbusy, hmixed, hmode, hphase]) ?_
    have hstep' : certStep s = s.step.eng.epochStep := certStep_epoch (by simp [hmode])
    simp [hstep', hused, hslot, hdone]
  · refine stepCommand_writes rfl rfl hr hid hsafe (by simp [hstep, hkey, fetchNotice, hnotice]) ?_
    simp [fetchNotice, hnotice]
  · exact stepCommand_writes rfl rfl hr hid hsafe (by simp [hstep, hhalt]) rfl

/-! ### What comes before a marker's own effect (R129, R138, R210)

The marker aborts the tests, its flush writes the records still being packed, and the run that was in progress ends. None of
this touches what the order of R129 reads. -/

/-- An engine without what a flush can set and the end of a run takes away. -/
def flowOf (e : Step) : Step := { e with jnlBad := false, cur := none, runs := [], runForced := false }

/-- A field that `flowOf` keeps is the same in two engines of one flow. -/
theorem flowOf_field {α : Type} (p : Step → α) {e e' : Step} (h : flowOf e = flowOf e')
    (hp : ∀ x, p (flowOf x) = p x := by exact fun _ => rfl) : p e = p e' := by rw [← hp e, h, hp e']

/-- What a primary marker's own effect finds: the tests aborted, the records written, the run that was in progress ended. -/
def marked (s : State) : State := endRun (flushPend (markerAborts s))

section
variable (s : State)

@[simp] theorem flowOf_endRun : flowOf (endRun s).step.eng = flowOf s.step.eng := by unfold endRun; split <;> rfl

@[simp] theorem flowOf_flushPend : flowOf (flushPend s).step.eng = flowOf s.step.eng :=
  congrArg (fun e : Step => { e with cur := none, runs := [], runForced := false }) (eng_of_offJnl (offJnl_flushPend s))

/-- The flow is the one that the marker came to. -/
theorem flowOf_marked : flowOf (marked s).step.eng = flowOf s.step.eng := by
  rw [marked, flowOf_endRun, flowOf_flushPend, markerAborts_step]

variable {s} {t : State}

/-- The order of R129 is read off the flow. -/
theorem inOrder_congr (h : flowOf t.step.eng = flowOf s.step.eng) (ph : Phase) (next : Nat) (bs : List Nat) (m : Marker)
    (b : Nat) : inOrder t ph next bs m b = inOrder s ph next bs m b := by
  unfold inOrder mbCount jobMode
  rw [flowOf_field (·.config) h, flowOf_field (·.nonfinite) h]

end

/-- What a slot says of its step's commit. -/
def slotChecks (s : State) (i : Nat) : Bool × Bool := ((slot s i).committed, (slot s i).checked)

section
variable (s : State) (i : Nat)

theorem slotChecks_of_step {a b : State} (h : a.step = b.step) : slotChecks a i = slotChecks b i := by
  simp only [slotChecks, slot, h]

/-- A record that joins a slot says nothing of the commit of its step. -/
@[simp] theorem slotChecks_journalPut (r : JRec) : slotChecks (journalPut r s) i = slotChecks s i := by
  unfold journalPut
  dsimp only
  split
  · rfl
  · split
    · rfl
    · split
      · rfl
      · -- The record is in its slot, which differs from an empty one by being used.
        rw [jnlPut, slotChecks_of_step i (dmaPost_step ..), slotChecks_of_step i (cnt_step ..)]
        by_cases hi : i = r.step % 2
        · subst hi
          simp only [slotChecks, slot, updSlot, modJnl, supd]
          rw [sget_sset_self (by simp)]
        · simp only [slotChecks, slot, updSlot, modJnl]
          rw [sget_supd_of_ne hi]

@[simp] theorem slotChecks_flushSigs : slotChecks (flushSigs s) i = slotChecks s i := by
  unfold flushSigs; split
  · rfl
  · rw [slotChecks_journalPut]; rfl

@[simp] theorem slotChecks_flushColls : slotChecks (flushColls s) i = slotChecks s i := by
  unfold flushColls; split
  · rfl
  · rw [slotChecks_journalPut]; rfl

@[simp] theorem slotChecks_endRun : slotChecks (endRun s) i = slotChecks s i := by unfold endRun; split <;> rfl

theorem slotChecks_marked : slotChecks (marked s) i = slotChecks s i := by
  simp only [marked, slotChecks_endRun, flushPend, slotChecks_flushColls, slotChecks_flushSigs]
  exact slotChecks_of_step i (markerAborts_step s)

variable {s i}

/-- A slot with no committed step, or with a checked one, holds up no step (R139). -/
theorem uncheckedIn_eq_false (h : (slotChecks s i).1 = false ∨ (slotChecks s i).2 = true) : uncheckedIn s i = false := by
  rcases h with h | h <;> simp only [slotChecks] at h <;> simp [uncheckedIn, h]

end

/-! ### Markers (R129–R135, R393) -/

/-- A micro-batch and an argument as wide as the fields of STEP fit the port. -/
theorem port_fits {mb arg : Nat} (hmb : mb < 2 ^ 32) (harg : arg < 2 ^ 57) :
    (decide (mb < 2 ^ 32) && decide (arg < 2 ^ 57)) = true :=
  Bool.and_eq_true_iff.2 ⟨decide_eq_true hmb, decide_eq_true harg⟩

section
variable {s : State} {m : Marker} {b arg : Nat} {replay : Bool}

/-- A marker with a field that it does not use set is a range fault. -/
theorem marker_misfit (h : markerBad s m b arg = true) :
    marker m replay b arg s = raisePort s fcPortRange 10 0 (stepPayload 0 (markerCode m) replay b arg) := if_pos h

section
variable (hbad : markerBad s m b arg = false) (hsafe : s.fault.safe = false) (harmed : s.step.eng.armed = true)
  (hjob : isDecode s = false) (horder : inOrder s s.step.eng.base s.step.eng.fwdNext s.step.eng.bwdSet m b = true)
include hbad hsafe harmed hjob horder

/-- A primary marker of an armed TRAIN or EVAL job, in order and, where it opens a step, over a slot that R139 allows, advances
the flow and has its own effect. -/
theorem marker_accepted (hclear : (m == .fwd && s.step.eng.base == .idle && uncheckedIn (marked s) (curSlot s)) = false) :
    marker m false b arg s =
      let a := modEng (if m == .fwd && s.step.eng.base == .idle then stepStarts (marked s) else marked s) (advanceFlow m b)
      markerEffect (markerAccepted a m false b (s.step.eng.base != markerPhase m)) m false b arg := by
  have hflow := flowOf_marked s
  have harmed' : (marked s).step.eng.armed = true := (flowOf_field (·.armed) hflow).trans harmed
  have hbase : (marked s).step.eng.base = s.step.eng.base := flowOf_field (·.base) hflow
  have hnext : (marked s).step.eng.fwdNext = s.step.eng.fwdNext := flowOf_field (·.fwdNext) hflow
  have hset : (marked s).step.eng.bwdSet = s.step.eng.bwdSet := flowOf_field (·.bwdSet) hflow
  have hslot : curSlot (marked s) = curSlot s := flowOf_field (·.number % 2) hflow
  have hjob' : isDecode (markerAborts s) = false := by simpa only [isDecode, jobMode, markerAborts_step] using hjob
  have hmarked : endRun (flushPend (markerAborts s)) = marked s := rfl
  simp only [marker, trainMarker, hmarked, hbad, hsafe, hjob', harmed', hbase, hnext, hset, hslot, hclear,
    inOrder_congr hflow, horder, Bool.and_false, Bool.not_false, Bool.not_true, Bool.or_self, Bool.false_eq_true, if_false,
    if_true]

/-- One that opens no step. -/
theorem marker_goesOn (hno : (m == .fwd && s.step.eng.base == .idle) = false) :
    marker m false b arg s =
      markerEffect (markerAccepted (modEng (marked s) (advanceFlow m b)) m false b (s.step.eng.base != markerPhase m))
        m false b arg := by
  rw [marker_accepted hbad hsafe harmed hjob horder (by rw [hno, Bool.false_and])]
  simp only [hno, Bool.false_eq_true, if_false]

end

/-- A FWD marker carries an address of 57 bits at a multiple of 256. -/
theorem markerBad_fwd (hjob : isDecode s = false) (hb : b < 2 ^ 32) (harg : arg < 2 ^ 57) (halign : arg % 256 = 0) :
    markerBad s .fwd b arg = false := by
  have hb' : decide (b ≥ 2 ^ 32) = false := decide_eq_false (Nat.not_le.2 hb)
  have harg' : decide (arg ≥ 2 ^ 57) = false := decide_eq_false (Nat.not_le.2 harg)
  simp only [markerBad, hjob, halign, hb', harg', beq_self_eq_true, bne_self_eq_false, Bool.not_false, Bool.and_self,
    Bool.or_self, Bool.true_or, if_true]

/-- A BWD marker uses its micro-batch alone. -/
theorem markerBad_bwd : markerBad s .bwd b arg = (arg != 0 || decide (b ≥ 2 ^ 32)) := rfl

/-- EXCH, UPD and END use no field. -/
theorem markerBad_plain (hm : m = .exch ∨ m = .upd ∨ m = .fin) : markerBad s m b arg = (arg != 0 || b != 0) := by
  rcases hm with rfl | rfl | rfl <;> rfl

/-- FWD(0) is in order before the step has begun. -/
theorem inOrder_first (hbase : s.step.eng.base = .idle) (hcount : 0 < mbCount s) :
    inOrder s s.step.eng.base s.step.eng.fwdNext s.step.eng.bwdSet .fwd 0 = true := by
  simp [inOrder, hbase, hcount]

end

/-- Settles O17: an accepted marker by the one rule they share, a refused one by the field that is set. -/
theorem markers : Obligations.Markers := by
  intro s hr hsafe harmed hjob
  refine ⟨fun mb arg hmb harg halign hbase horder => ?_, fun arg harg halign hbase hcount hslot => ?_, fun mb hmb horder => ?_,
    fun horder => ?_, fun horder => ?_, fun horder => ?_, fun i hmb harg hset => ?_, fun mb i hmb harg hset => ?_⟩
  · have hno : (Marker.fwd == .fwd && s.step.eng.base == .idle) = false := by simp [hbase]
    exact does_of rfl (port_fits hmb harg) hr
      (marker_goesOn (s := clearSent s) (markerBad_fwd hjob hmb harg halign) hsafe harmed hjob horder hno)
  · have hclear : uncheckedIn (marked (clearSent s)) (curSlot (clearSent s)) = false :=
      uncheckedIn_eq_false (by rw [slotChecks_marked]; exact hslot)
    refine does_of rfl (port_fits (mb := 0) (by decide) harg) hr ?_
    rw [marker_accepted (s := clearSent s) (markerBad_fwd hjob (by decide) harg halign) hsafe harmed hjob
      (inOrder_first hbase hcount) (by rw [hclear, Bool.and_false])]
    simp only [clearSent_step, hbase, beq_self_eq_true, Bool.and_self, if_true]
    rfl
  · have hfits : markerBad (clearSent s) .bwd mb 0 = false := by
      rw [markerBad_bwd, decide_eq_false (Nat.not_le.2 hmb), bne_self_eq_false, Bool.or_self]
    exact does_of rfl (port_fits hmb (by decide)) hr (marker_goesOn (s := clearSent s) hfits hsafe harmed hjob horder rfl)
  · exact does_of rfl rfl hr (marker_goesOn (s := clearSent s) rfl hsafe harmed hjob horder rfl)
  · exact does_of rfl rfl hr (marker_goesOn (s := clearSent s) rfl hsafe harmed hjob horder rfl)
  · exact does_of rfl rfl hr (marker_goesOn (s := clearSent s) rfl hsafe harmed hjob horder rfl)
  · have hbad {m : Marker} (hm : m = .exch ∨ m = .upd ∨ m = .fin) : markerBad (clearSent s) m i.mb i.arg = true := by
      rw [markerBad_plain hm]
      rcases hset with h | h <;> simp [h]
    refine ⟨?_, ?_, ?_⟩ <;> exact does_of rfl (port_fits hmb harg) hr (marker_misfit (hbad (by simp)))
  · have hbad : markerBad (clearSent s) .bwd mb i.arg = true := by simp [markerBad_bwd, hset]
    exact does_of rfl (port_fits hmb harg) hr (marker_misfit hbad)

/-! ### The step verdict (R132, R150) -/

section
variable {s : State} {v reason : Nat}

/-- With no arbitration open none fails. -/
theorem arbStillOpen_none (h : (s.tiles.filter fun t => arbIsOpen t.2.arb) = []) : arbStillOpen s = s := by
  rw [arbStillOpen, h]
  rfl

/-- No non-finite replay, no outcome of one. -/
theorem nfJudge_none (hruns : (s.step.eng.runs.find? (·.nf)) = none) (hnf : s.step.eng.nfRun = none) :
    nfJudge s = (false, s) := by
  simp only [nfJudge, hruns, hnf, Option.or_self]

theorem verdictDue_of (harmed : s.step.eng.armed = true) (hphase : s.step.eng.phase = .vote)
    (hnone : s.step.vote.verdict = none) (hops : opsIn s (s.step.eng.marks + 1) = true) : verdictDue s = true := by
  simp [verdictDue, harmed, hphase, hnone, hops]

/-- A verdict that is due is posted, where it does not wait for a summary; one that is no CLEAN or SUSPECT closes the gates. -/
theorem stepVerdict_due (hdue : verdictDue s = true) (harb : (s.tiles.filter fun t => arbIsOpen t.2.arb) = [])
    (hruns : (s.step.eng.runs.find? (·.nf)) = none) (hnf : s.step.eng.nfRun = none) (hv : verdictOf s = (v, reason))
    (hsummary : v = 0 → s.step.covReady = []) :
    stepVerdict s =
      let b := postVerdict (auditClose s) v s.step.eng.req.point reason false
      let b := if v ≥ 2 then closeGates b else b
      post (if b.step.vote.tree.sent then voteRecord b else b) .tally := by
  have hready : (v == 0 && !s.step.covReady.isEmpty) = false := by
    by_cases h : v = 0
    · simp [hsummary h]
    · simp [h]
  simp only [stepVerdict, arbStillOpen_none harb, hv, hdue, hready, nfJudge_none hruns hnf, Bool.not_true, Bool.or_self,
    Bool.false_and, Bool.false_eq_true, if_false]
  rfl

/-- A host fault makes FAILED (R150). -/
theorem verdictOf_hostFault (hsafe : s.fault.safe = false) (hhost : s.step.eng.hostFault = true) : verdictOf s = (2, 4) := by
  simp only [verdictOf, hsafe, hhost, Bool.false_eq_true, if_false, if_true]

/-- Without one, a conflict or a non-finite scalar the requirement decides. -/
theorem verdictOf_requirement (hsafe : s.fault.safe = false) (hhost : s.step.eng.hostFault = false)
    (hconf : s.step.eng.conflict = false) (hnf : s.step.eng.nonfinite = false) :
    verdictOf s =
      if s.step.eng.req.point ≠ 0 then
        (1, if s.step.eng.req.reason ≤ 1 then (if s.tiles.any fun t => arbIsOpen t.2.arb then 2 else 1)
          else s.step.eng.req.reason)
      else (0, 0) := by
  simp only [verdictOf, hsafe, hhost, hconf, hnf, Bool.false_eq_true, if_false, bne_iff_ne]

end

/-- Settles O19: the verdict by R150's order of causes, then the one rule for posting it. -/
theorem stepVerdicts : Obligations.StepVerdicts := by
  intro s hr harmed hphase hnone hops hsafe hconf hnf harb hruns hrun
  have hdue : verdictDue (clearSent s) = true := verdictDue_of harmed hphase hnone hops
  refine ⟨fun hhost hpoint hready => ?_, fun hhost hpoint hreason => ?_, fun hhost => ?_⟩
  · have hv : verdictOf (clearSent s) = (0, 0) := by
      rw [verdictOf_requirement (s := clearSent s) hsafe hhost hconf hnf]; exact if_neg fun h => h hpoint
    refine does_of rfl rfl hr ((stepVerdict_due (s := clearSent s) hdue harb hruns hrun hv fun _ => hready).trans ?_)
    simp only [clearSent_step, hpoint, if_neg (show ¬ 0 ≥ 2 by decide)]
  · have hv : verdictOf (clearSent s) = (1, s.step.eng.req.reason) := by
      rw [verdictOf_requirement (s := clearSent s) hsafe hhost hconf hnf, clearSent_step, if_pos hpoint,
        if_neg (Nat.not_le.2 hreason)]
    refine does_of rfl rfl hr ((stepVerdict_due (s := clearSent s) hdue harb hruns hrun hv nofun).trans ?_)
    simp only [clearSent_step, if_neg (show ¬ 1 ≥ 2 by decide)]
  · have hv : verdictOf (clearSent s) = (2, 4) := verdictOf_hostFault hsafe hhost
    refine does_of rfl rfl hr ((stepVerdict_due (s := clearSent s) hdue harb hruns hrun hv nofun).trans ?_)
    simp only [clearSent_step, if_pos (show 2 ≥ 2 by decide)]

/-! ### Votes and decisions on the tree (R151, R153, R156, R158–R160) -/

/-- A message of the step protocol has come: it is counted, and SQ0 sees it. -/
abbrev treeGot (s : State) : State := latch (cnt s 6) 0 2

section
variable {s : State} {v : Vote} {d : Decision} {src : Nat}

/-! The step unit reads neither the counters nor the latches. -/

@[simp] theorem treeGot_step : (treeGot s).step = s.step := cnt_step ..
@[simp] theorem treeGot_voteHears (job : Nat) (auth : Bool) : voteHears (treeGot s) job auth = voteHears s job auth :=
  cnt_voteHears ..
@[simp] theorem treeGot_thisRun (n no : Nat) : thisRun (treeGot s) n no = thisRun s n no := cnt_thisRun ..
@[simp] theorem treeGot_jobSize : jobSize (treeGot s) = jobSize s := cnt_jobSize ..
@[simp] theorem treeGot_treePos (root : Nat) : treePos (treeGot s) root = treePos s root := cnt_treePos ..
@[simp] theorem treeGot_rootOf (re : Bool) : rootOf (treeGot s) re = rootOf s re := cnt_rootOf ..
@[simp] theorem treeGot_keepsDecisions : keepsDecisions (treeGot s) = keepsDecisions s := cnt_keepsDecisions ..

/-- An authentic vote of a child for the run joins the tally of a node that has not voted, is not late and has no decision. -/
theorem voteGot_child (hhears : voteHears s v.job true = true) (hrun : thisRun s v.step v.replayNo = true)
    (hchild : (childrenOf (jobSize s) (treePos s (rootOf s false))).contains v.fromPos = true)
    (hsent : s.step.vote.tree.sent = false) (hlate : s.step.vote.tree.late = false)
    (hnew : (s.step.vote.tree.children.any fun c => c.fromPos == v.fromPos) = false) (hnone : s.step.vote.decision = none) :
    voteGot v false true src s =
      post (modVote (treeGot s) fun w => { w with
        tree := { w.tree with children := w.tree.children ++ [{ v with worst := worstOf v }], timer := true } }) .tally := by
  have hchild' : v.fromPos ∈ childrenOf (jobSize s) (treePos s (rootOf s false)) := List.contains_iff_mem.1 hchild
  simp [voteGot, treeOf, modTree, hhears, hrun, hchild', hsent, hlate, hnew, hnone]

/-- After its timer a node does not hear a child any more. -/
theorem voteGot_late (hhears : voteHears s v.job true = true) (hrun : thisRun s v.step v.replayNo = true)
    (hchild : (childrenOf (jobSize s) (treePos s (rootOf s false))).contains v.fromPos = true)
    (hlate : s.step.vote.tree.late = true) : voteGot v false true src s = treeGot s := by
  have hchild' : v.fromPos ∈ childrenOf (jobSize s) (treePos s (rootOf s false)) := List.contains_iff_mem.1 hchild
  simp [voteGot, treeOf, hhears, hrun, hchild', hlate]

theorem backupAck_pending (hhears : voteHears s d.job true = true) (hpend : s.step.vote.pend = some d) :
    backupAck d.job d.step d.replayNo true src s = broadcast (modVote (treeGot s) fun v => { v with pend := none }) d := by
  simp [backupAck, hhears, hpend]

theorem backupWait_pending (hpend : s.step.vote.pend = some d) :
    backupWait s = broadcast (modVote s fun v => { v with pend := none })
      (if d.kind = 0 then { d with kind := 2, point := 4, audit := false, backup := true } else d) := by
  simp only [backupWait, hpend, beq_iff_eq]

/-- A decision for the run, where none has been taken. -/
theorem decisionGot_first (hhears : voteHears s d.job true = true) (hrun : thisRun s d.step d.replayNo = true)
    (hnone : s.step.vote.decision = none) :
    decisionGot d false true src s = acceptDecision (sendDown (recordDecision (treeGot s) d) d) d := by
  simp [decisionGot, hhears, hrun, hnone]

/-- Without a decision a chip that has voted, and is neither the root nor a member, votes again. -/
theorem decisionTimeout_revotes (harmed : isArmed s = true) (hsent : s.step.vote.tree.sent = true)
    (hroot : treePos s s.step.vote.arb ≠ 0) (hnone : s.step.vote.decision = none) (hfirst : s.step.vote.revoted = false)
    (hhalt : s.step.eng.halted = 0) (hmember : isMember s = false) :
    decisionTimeout s = post (modVote s fun v =>
      { v with revoted := true, reTree := { v.reTree with own := v.tree.own, timer := true } }) .tally := by
  simp [decisionTimeout, harmed, hsent, hroot, hnone, hfirst, hhalt, hmember]

theorem decisionTimeout_member (hmember : isMember s = true) : decisionTimeout s = s := by
  simp [decisionTimeout, hmember]

/-- After the second vote without a decision the step is held. -/
theorem voteLost_revoted (harmed : isArmed s = true) (hre : s.step.vote.revoted = true) (hnone : s.step.vote.decision = none)
    (hhalt : s.step.eng.halted = 0) : voteLost s = raiseI (modEng s fun e => { e with halted := 1 }) (fcode 3 2 6) 1 := by
  simp [voteLost, harmed, hre, hnone, hhalt]

/-- An arbiter or backup answers with the latest decision that it keeps for the step. -/
theorem decisionQuery_kept (hhears : voteHears s d.job true = true) (hkeeps : keepsDecisions s = true)
    (hlast : (s.step.vote.recorded.filter fun x => x.step == d.step).getLast? = some d) :
    decisionQuery d.job d.step src true s = net (treeGot s) src netQuery (1 :: decWords d) := by
  simp [decisionQuery, hhears, hkeeps, hlast]

end

/-- Settles O20, message by message and timer by timer. -/
theorem votes : Obligations.Votes := by
  intro s hr
  refine ⟨fun v src hhears hrun hchild hsent hlate hnew hnone => ?_, fun v src hhears hrun hchild hlate => ?_, ?_,
    fun d src hhears hpend => ?_, fun d hpend => ?_, fun d src hhears hrun hnone => ?_,
    fun harmed hsent hroot hnone hfirst hhalt hmember => ?_, fun hmember => ?_, fun harmed hre hnone hhalt => ?_,
    fun d src hhears hkeeps hlast => ?_⟩
  · exact does_of rfl rfl hr (voteGot_child (s := clearSent s) hhears hrun hchild hsent hlate hnew hnone)
  · exact does_of rfl rfl hr (voteGot_late (s := clearSent s) hhears hrun hchild hlate)
  · exact does_of (g := voteAbsent) rfl rfl hr rfl
  · exact does_of rfl rfl hr (backupAck_pending (s := clearSent s) hhears hpend)
  · exact does_of rfl rfl hr (backupWait_pending (s := clearSent s) hpend)
  · exact does_of rfl rfl hr (decisionGot_first (s := clearSent s) hhears hrun hnone)
  · exact does_of rfl rfl hr (decisionTimeout_revotes (s := clearSent s) harmed hsent hroot hnone hfirst hhalt hmember)
  · exact does_of rfl rfl hr (decisionTimeout_member (s := clearSent s) hmember)
  · exact does_of rfl rfl hr (voteLost_revoted (s := clearSent s) harmed hre hnone hhalt)
  · exact does_of rfl rfl hr (decisionQuery_kept (s := clearSent s) hhears hkeeps hlast)

/-! ### Votes combined (R154) -/

section
variable (v : Vote) (vs : List Vote)

/-- A count that combining adds is, over a subtree, the sum of those of its votes. -/
theorem foldl_addVote_sum (f : Vote → Nat) (hf : ∀ a b, f (addVote a b) = f a + f b) :
    f (vs.foldl addVote v) = ((v :: vs).map f).sum := by
  induction vs generalizing v with
  | nil => simp
  | cons w ws ih => rw [List.foldl_cons, ih]; simp [hf, Nat.add_assoc]

/-- So is Z, modulo 2³¹ − 1. -/
theorem foldl_addVote_z : (vs.foldl addVote v).z % resP = ((v :: vs).map (·.z)).sum % resP := by
  induction vs generalizing v with
  | nil => rfl
  | cons w ws ih =>
    calc (ws.foldl addVote (addVote v w)).z % resP
        = ((v.z + w.z) % resP + (ws.map (·.z)).sum) % resP := ih (addVote v w)
      _ = (v.z + w.z + (ws.map (·.z)).sum) % resP := Nat.mod_add_mod ..
      _ = ((v :: w :: ws).map (·.z)).sum % resP := by simp only [List.map_cons, List.sum_cons, Nat.add_assoc]

theorem foldl_addVote_nfReproAll : (vs.foldl addVote v).nfReproAll = (v :: vs).all (·.nfReproAll) := by
  induction vs generalizing v with
  | nil => simp
  | cons w ws ih => rw [List.foldl_cons, ih]; simp [addVote, Bool.and_assoc]

/-- Where combining two votes takes the greater of a field, no vote has a greater one than the combination. -/
theorem le_foldl_addVote (f : Vote → Nat) (hf : ∀ a b, f (addVote a b) = max (f a) (f b)) :
    ∀ x ∈ v :: vs, f x ≤ f (vs.foldl addVote v) := by
  induction vs generalizing v with
  | nil => simp
  | cons w ws ih =>
    obtain ⟨hfirst, hrest⟩ := List.forall_mem_cons.1 (ih (addVote v w))
    obtain ⟨hv, hw⟩ := Nat.max_le.1 (hf v w ▸ hfirst)
    exact List.forall_mem_cons.2 ⟨hv, List.forall_mem_cons.2 ⟨hw, hrest⟩⟩

/-- Where combining two votes takes what it shows of one of them, so does combining many. -/
theorem exists_foldl_addVote {α : Type} (g : Vote → α) (hg : ∀ a b, g (addVote a b) = g a ∨ g (addVote a b) = g b) :
    ∃ x ∈ v :: vs, g x = g (vs.foldl addVote v) := by
  induction vs generalizing v with
  | nil => simp
  | cons w ws ih =>
    obtain ⟨x, hx, hxr⟩ := ih (addVote v w)
    rcases List.mem_cons.1 hx with rfl | hx
    · rcases hg v w with h | h
      · exact ⟨v, by simp, h ▸ hxr⟩
      · exact ⟨w, by simp, h ▸ hxr⟩
    · exact ⟨x, by simp [hx], hxr⟩

theorem addVote_point (a b : Vote) : (addVote a b).point = a.point ∨ (addVote a b).point = b.point :=
  (Nat.le_total b.point a.point).imp Nat.max_eq_left Nat.max_eq_right

/-- FIRST_CHIP comes with the worst verdict: from the worse vote, or from either where they are equally bad. -/
theorem addVote_worst_firstChip (a b : Vote) :
    ((addVote a b).worst, (addVote a b).firstChip) = (a.worst, a.firstChip) ∨
      ((addVote a b).worst, (addVote a b).firstChip) = (b.worst, b.firstChip) := by
  rcases Nat.lt_trichotomy a.worst b.worst with h | h | h
  · right
    simp only [addVote, Nat.max_eq_right (Nat.le_of_lt h), if_neg (Nat.lt_asymm h), if_pos h]
  · have hchip : (addVote a b).firstChip = min a.firstChip b.firstChip := by
      simp only [addVote, h, if_neg (Nat.lt_irrefl _)]
    have hworst : (addVote a b).worst = b.worst := by simp only [addVote, h, Nat.max_self]
    rcases Nat.le_total a.firstChip b.firstChip with hle | hle
    · left; rw [hchip, hworst, h, Nat.min_eq_left hle]
    · right; rw [hchip, hworst, Nat.min_eq_right hle]
  · left
    simp only [addVote, Nat.max_eq_left (Nat.le_of_lt h), if_pos h]

end

/-- Settles O57: each field of the combination by the induction over the votes that its way of combining asks for. -/
theorem voteCombination : Obligations.VoteCombination := by
  intro v vs
  refine ⟨foldl_addVote_sum v vs _ fun _ _ => rfl, foldl_addVote_sum v vs _ fun _ _ => rfl,
    foldl_addVote_sum v vs _ fun _ _ => rfl, foldl_addVote_sum v vs _ fun _ _ => rfl,
    foldl_addVote_sum v vs _ fun _ _ => rfl, foldl_addVote_z v vs, ?_,
    exists_foldl_addVote v vs _ addVote_point, le_foldl_addVote v vs _ fun _ _ => rfl, ?_,
    le_foldl_addVote v vs _ fun _ _ => rfl⟩
  · rw [foldl_addVote_nfReproAll, List.all_eq_true]
  · obtain ⟨x, hx, hxr⟩ := exists_foldl_addVote v vs (fun x => (x.worst, x.firstChip)) addVote_worst_firstChip
    exact ⟨x, hx, (Prod.mk.inj hxr).1, (Prod.mk.inj hxr).2⟩

/-! ### The token gate (R167, R168, R170, R395) -/

section
variable {s : State}

/-- With room a token joins its group's opening behind those before it. -/
theorem tokenPresent_room {g tag : Nat} (hroom : s.step.gate.held.length < 64) :
    tokenPresent g tag s =
      let id := (genFor s g).1
      let b := modGen (genFor s g).2 id fun x => { x with presented := true }
      gateLook (modGate b fun t => { t with held := t.held ++ [{ group := g, tag := tag, gen := id }] }) :=
  if_neg (Nat.not_le.2 hroom)

/-- Token `i` is decided where it is the oldest whose work has closed without a MISMATCH. -/
theorem tokenRelease_decides {i : Nat} (hopen : s.step.gate.closed = false)
    (hfind : (s.step.gate.held.findIdx? fun t => t.decided.isNone && !(genBad s t.gen) && !(genBusy s t.gen)) = some i) :
    tokenRelease s = gateOffer (modGate s fun g =>
      { g with held := g.held.zipIdx.map fun p => if p.2 == i then { p.1 with decided := some true } else p.1 }) := by
  simp only [tokenRelease, hopen, hfind, Bool.false_eq_true, if_false]

/-- A mark of what is not so is there only where it is not. -/
theorem b2n_not_mul (b : Bool) (k : Nat) : b2n (!b) * k = if b then 0 else k := by
  cases b with
  | false => exact Nat.one_mul k
  | true => exact Nat.zero_mul k

/-- The first offered outcome that has not been timed yet. -/
theorem tokenOutTimeout_first {i : Nat} {t : TokenOut} (hfind : (s.step.gate.out.findIdx? fun x => !x.timedOut) = some i)
    (ht : s.step.gate.out[i]? = some t) :
    tokenOutTimeout s =
      raisePort (modGate s fun g => { g with out := g.out.set i { t with timedOut := true } }) (fcode 8 2 1) 11 0
        (t.group + t.tag * 2 ^ 32 + (if t.released then 0 else 2 ^ 48)) := by
  simp only [tokenOutTimeout, hfind, ht, Option.getD_some, tokenPayload, b2n_not_mul, fcPortTimeout]

end

/-- Settles O22: each command in the state of the gate that its clause names. -/
theorem tokenGate : Obligations.TokenGate := by
  intro s hr
  refine ⟨fun g tag hroom => ?_, fun i hopen hfind => ?_, fun i t hfind ht => ?_⟩
  · exact does_of rfl rfl hr (tokenPresent_room (s := clearSent s) hroom)
  · exact does_of rfl rfl hr (tokenRelease_decides (s := clearSent s) hopen hfind)
  · exact does_of rfl rfl hr (tokenOutTimeout_first (s := clearSent s) hfind ht)

/-! ### The step over the cascade ring (R158, R291, R451, R452, R454–R456, R458) -/

section
variable {s : State}

theorem isMaster_iff : isMaster s = true ↔ s.cas.role = .master := beq_iff_eq

theorem isMember_iff : isMember s = true ↔ s.cas.role = .member := beq_iff_eq

/-- A member is not the master. -/
theorem isMaster_of_member (hrole : s.cas.role = .member) : isMaster s = false := by
  rw [isMaster, hrole]; rfl

/-- What a member does not take for itself it passes on as it came (R452). -/
theorem casPass_member (hrole : s.cas.role = .member) (type src dst : Nat) (payload : List Nat) :
    casPass s type src dst payload = casForward (latch s 3 5) type src dst payload := by
  rw [casPass, isMaster_of_member hrole, if_neg Bool.false_ne_true]
  rfl

/-! #### The master -/

section
variable (hrole : s.cas.role = .master)
include hrole

/-- Without a ring no arm check is taken. -/
theorem armCheckGot_noRing {i : Nat} {p : ArmParams} (hring : s.cas.ringOk = false) :
    armCheckGot i p s = casArmRefuse p.job (latch s 3 5) := by
  simp only [armCheckGot, isMaster_iff.2 hrole, hring, Bool.not_true, Bool.not_false, Bool.false_eq_true, if_false, if_true]
  rfl

/-- On a ring it takes the place of an earlier one of its member, and the arm is judged. -/
theorem armCheckGot_ring {i : Nat} {p : ArmParams} (hring : s.cas.ringOk = true) :
    armCheckGot i p s =
      casArmTry (latch (modCas s fun c => { c with armChecks := (c.armChecks.filter fun x => x.1 != i) ++ [(i, p)] }) 3 5) := by
  simp only [armCheckGot, isMaster_iff.2 hrole, hring, Bool.not_true, Bool.false_eq_true, if_false]
  rfl

/-- An arm whose checks are not all there in time is refused. -/
theorem armCheckLate_waiting (hwait : s.cas.armWait.isSome = true) :
    armCheckLate s = casArmRefuse s.cas.armParams.job s := by
  simp only [armCheckLate, isMaster_iff.2 hrole, hwait, Bool.and_self, if_true]

/-- The verdict of a member is held for the package's vote. -/
theorem casVerdictGot_master {i v pt z n r : Nat} {nf : Bool} (hi : 1 ≤ i) (hlt : i < s.cas.instances) :
    casVerdictGot i v pt nf z n r s =
      post (latch (updMember s i fun m =>
        { m with verdict := v, point := pt, nfRepro := nf, z := z, vstep := n, vreplay := r, voted := true }) 3 5) .tally := by
  simp only [casVerdictGot, isMaster_iff.2 hrole, hi, hlt, and_self, if_true]
  rfl

/-- A package whose master has its verdict votes without a member's that is missing at the time limit. -/
theorem casVerdictLate_missing (hmiss : ((upto s.cas.instances).drop 1).filter (fun i => !(memberVoted s i)) ≠ [])
    (hown : s.step.vote.tree.own = none) (hverdict : s.step.vote.verdict.isSome = true) :
    casVerdictLate s =
      let b := modCas s fun c => { c with late := some (s.step.eng.number % 2 ^ 32, s.step.eng.replayNo) }
      post (raiseI b (fcode 14 2 2) 12) .tally := by
  have hall : ((upto s.cas.instances).drop 1).all (memberVoted s) = false := by
    rw [Bool.eq_false_iff, Ne, List.all_eq_true]
    intro h
    exact hmiss (List.filter_eq_nil_iff.2 fun i hi => by simp [h i hi])
  simp only [casVerdictLate, isMaster_iff.2 hrole, hall, hown, hverdict, Option.isNone_none, Bool.not_false, Bool.true_or,
    Bool.and_self, if_true]

theorem summaryGot_master {i p vm gm : Nat} {safe : Bool} (hlt : i < s.cas.instances) :
    summaryGot i p safe vm gm s =
      latch (updMember s i fun m =>
        { m with safe := safe, error := p % 2 ^ 16, fatal := p / 2 ^ 16 % 2 ^ 16, max := gm, validMax := vm }) 3 5 := by
  simp only [summaryGot, isMaster_iff.2 hrole, hlt, if_true]
  rfl

end

/-! #### A member -/

section
variable (hrole : s.cas.role = .member)
include hrole

/-- ARM_OK for the job that a member waits to arm. -/
theorem armOkGot_waiting {job : Nat} (hwait : s.cas.armWait.isSome = true) (hjob : s.cas.armParams.job = job) :
    armOkGot job s =
      post (modCas (casForward (latch s 3 5) 4 0 0xFF [0, job]) fun c => { c with armOk := true }) .armGo := by
  rw [armOkGot, casPass_member hrole]
  refine if_pos ?_
  rw [Bool.and_eq_true, Bool.and_eq_true]
  exact ⟨⟨isMember_iff.2 hrole, hwait⟩, beq_iff_eq.2 hjob⟩

theorem armRefusedGot_member {job : Nat} :
    armRefusedGot job s = casForward (latch (modCas s fun c => { c with armWait := none }) 3 5) 4 0 0xFF [1, job] := by
  rw [armRefusedGot, isMember_iff.2 hrole, if_pos rfl]
  exact casPass_member (by simpa using hrole) ..

/-- A decision that is no duplicate, for the step that the member is in. -/
theorem casDecisionGot_applies {w : Word} (hnew : s.cas.lastDec ≠ some (fld w 31 0, fld w 47 32))
    (hstep : fld w 31 0 = s.step.eng.number % 2 ^ 32) :
    casDecisionGot w s =
      let b := modCas (casForward (latch s 3 5) 6 0 0xFF [w.toNat]) fun c => { c with lastDec := some (fld w 31 0, fld w 47 32) }
      post b (.decision (wordDecision b w)) := by
  have hskip : (!(isMember s) || s.cas.lastDec == some (fld w 31 0, fld w 47 32)) = false := by
    simp [isMember_iff.2 hrole, hnew]
  rw [casDecisionGot, casPass_member hrole]
  exact (if_neg (ne_true_of_eq_false hskip)).trans (if_pos (beq_iff_eq.2 hstep))

theorem summarySend_member :
    summarySend s = casSend s 7 0 [pendingHigh s, b2n s.fault.safe, s.thermal.validMax, s.thermal.globalMax] := by
  rw [summarySend, isMember_iff.2 hrole, if_pos rfl, summaryOf]

theorem casStopGot_member : casStopGot s = post (casForward (latch s 3 5) 8 0 0xFF []) .stop := by
  rw [casStopGot, casPass_member hrole]
  exact if_pos (isMember_iff.2 hrole)

/-- The messages for the master go on. -/
theorem armCheckGot_member {i : Nat} {p : ArmParams} :
    armCheckGot i p s = casForward (latch s 3 5) 3 i 0 [p.jobMode, p.style, p.mirror, p.job] := by
  rw [armCheckGot, isMaster_of_member hrole]
  exact casPass_member hrole ..

theorem casVerdictGot_member {i v pt z n r : Nat} {nf : Bool} :
    casVerdictGot i v pt nf z n r s = casForward (latch s 3 5) 5 i 0 [v, pt, b2n nf, z, n, r] := by
  rw [casVerdictGot, isMaster_of_member hrole]
  exact casPass_member hrole ..

theorem summaryGot_member {i p vm gm : Nat} {safe : Bool} :
    summaryGot i p safe vm gm s = casForward (latch s 3 5) 7 i 0 [p, b2n safe, vm, gm] := by
  rw [summaryGot, isMaster_of_member hrole]
  exact casPass_member hrole ..

end

end

/-- Settles O42: the messages and time limits of the master, then those of a member. -/
theorem cascadeStep : Obligations.CascadeStep := by
  intro s hr
  refine ⟨fun hrole => ⟨fun i p hring => ?_, fun i p hring => ?_, fun hwait => ?_, fun i v pt nf z n r hi hlt => ?_,
      fun ms hms hmiss hown hverdict => ?_, fun i p safe vm gm hlt => ?_⟩,
    fun hrole => ⟨fun job hwait hjob => ?_, fun job => ?_, fun w hnew hstep => ?_, ?_, ?_, fun i p => ?_,
      fun i v pt nf z n r => ?_, fun i p safe vm gm => ?_⟩⟩
  · exact does_of rfl rfl hr (armCheckGot_noRing (s := clearSent s) hrole hring)
  · exact does_of rfl rfl hr (armCheckGot_ring (s := clearSent s) hrole hring)
  · exact does_of rfl rfl hr (armCheckLate_waiting (s := clearSent s) hrole hwait)
  · exact does_of rfl rfl hr (casVerdictGot_master (s := clearSent s) hrole hi hlt)
  · exact does_of rfl rfl hr (casVerdictLate_missing (s := clearSent s) hrole (hms ▸ hmiss) hown hverdict)
  · exact does_of rfl rfl hr (summaryGot_master (s := clearSent s) hrole hlt)
  · exact does_of rfl rfl hr (armOkGot_waiting (s := clearSent s) hrole hwait hjob)
  · exact does_of rfl rfl hr (armRefusedGot_member (s := clearSent s) hrole)
  · exact does_of rfl rfl hr (casDecisionGot_applies (s := clearSent s) hrole hnew hstep)
  · exact does_of rfl rfl hr (summarySend_member (s := clearSent s) hrole)
  · exact does_of rfl rfl hr (casStopGot_member (s := clearSent s) hrole)
  · exact does_of rfl rfl hr (armCheckGot_member (s := clearSent s) hrole)
  · exact does_of rfl rfl hr (casVerdictGot_member (s := clearSent s) hrole)
  · exact does_of rfl rfl hr (summaryGot_member (s := clearSent s) hrole)

end Sys2Proof.StepJournalAndCommit
end

section
/-! Partners, mirrors and spares (06_partners_mirrors_spares): the commands of the partner link, the handshake and its timers,
the checks between partners, the copies and the pulls. -/
namespace Sys2Proof.PartnersMirrorsSpares

open Machine

/-! ### Messages of the partner (R177, R182, R183, R391) -/

section
variable {s : State} {q n k : Nat} {f : State → State}

/-! A message that is counted, and a protected one that is taken, change nothing that a unit of the link reads but the last
sequence number. -/

@[simp] theorem netGot_mirror : (netGot s).mirror = s.mirror := by simp [netGot]
@[simp] theorem netGot_sec : (netGot s).sec = s.sec := by simp [netGot]
@[simp] theorem taken_mirror : (taken s q).mirror = { s.mirror with rxSeq := some q } := by simp [taken]
@[simp] theorem taken_sec : (taken s q).sec = s.sec := by simp [taken]
@[simp] theorem taken_step : (taken s q).step = s.step := by simp [taken, netGot]
@[simp] theorem taken_mirMode : mirMode (taken s q) = mirMode s := by simp [mirMode]
@[simp] theorem taken_rxSlotBytes : rxSlotBytes (taken s q) = rxSlotBytes s := by simp [rxSlotBytes]
@[simp] theorem taken_rxSlotAddr : rxSlotAddr (taken s q) k = rxSlotAddr s k := by simp [rxSlotAddr]

/-- A message with a good tag that `TakesSeq` admits is accepted. -/
theorem melRecv_takes (h : TakesSeq s q) (type : Nat) : melRecv type q true f s = f (taken s q) := by
  obtain ⟨hwired, hcompat, hkey, hnew⟩ := h
  have hjudged : (s.mirror.link == .miswired || s.mirror.link == .incompatible) = false := by simp [hwired, hcompat]
  cases hlast : s.mirror.rxSeq with
  | none => simp [melRecv, taken, hjudged, hlast, hkey]
  | some r => simp [melRecv, taken, hjudged, hlast, hkey, hnew r hlast]

/-- With header, PAIR_SEQ, step, chunk number and tag 67024 bytes are 524 beats. -/
theorem beats_gt_iff : ceilDiv (n + 48) 128 > 524 ↔ 67024 < n := by
  rw [ceilDiv]; omega

theorem rxFramed_fits (h : n ≤ 67024) (type : Nat) : rxFramed type n f s = f s :=
  if_neg fun hlong => absurd (beats_gt_iff.1 hlong) (Nat.not_lt.2 h)

theorem rxFramed_misfit (h : 67024 < n) (type : Nat) :
    rxFramed type n f s = raisePort s fcPortRange 8 0 (2 + 2 ^ 8 + type * 2 ^ 16 + (n + 16) * 2 ^ 24) :=
  if_pos (beats_gt_iff.2 h)

end

/-! ### The commands of the partner link (R182, R183, R196, R200–R202) -/

section
variable {s : State} {rq : Acc} {v : Word} {c : Instr} {f g : State → State} {cmd : Nat}

theorem mirCheckAck_seq (hvalid : s.mirror.checkReg.valid = true) (hv : fld v 15 0 = s.mirror.checkReg.seq) :
    mirCheckAck v s = modMir s fun m => { m with checkReg := { m.checkReg with valid := false } } := by
  simp [mirCheckAck, modMir, heldAck, hvalid, hv]

/-- Outside the safe state a write of MIRROR_CMD has the effect of its command. -/
theorem linkCommand_writes (h : exec c s = run c (regCmd rq 0x060010 v (unlessSafe rq 0x060010 cmd g)) s)
    (hw : wellFormed s.build c = true) (hr : Running s) (hid : Requester rq) (hsafe : s.fault.safe = false)
    (he : g (cnt (clearSent s) 10) = f (cnt (clearSent s) 10)) (hq : requester c = rq.id := by rfl) : Writes c s f :=
  writes_of h hw hr hid (access_060010 ..) ((if_neg (by simp [hsafe])).trans he) hq

theorem pairCmd_down {job : Nat} (hlink : s.mirror.link = .down) (hmode : mirMode s ≠ 0)
    (hsec : secState s = .open_ ∨ secState s = .sealed_) :
    pairCmd rq job s =
      modMir s fun m => { m with link := .hello, pairJob := job, tries := 0, cause := 0, peerHolds := none } := by
  rcases hsec with h | h <;> simp [pairCmd, hlink, hmode, h]

theorem repairCmd_judged (hlink : s.mirror.link = .miswired ∨ s.mirror.link = .incompatible) :
    repairCmd rq s = modMir s fun m => { m with link := .hello, cause := 0, tries := 0 } := by
  rcases hlink with h | h <;> simp [repairCmd, h]

theorem pullCmd_paired {step : Nat} {shards : List Shard} (hlink : s.mirror.link = .paired) (harmed : isArmed s = false)
    (hidle : s.mirror.pull.running = false) :
    pullCmd rq step shards s =
      melSend
        (modMir s fun m =>
          { m with
            pull := { running := true, step := step }, shards := shards, pullDone := false, pullFailed := false,
            cause := 0, pullTotal := (shards.map (·.len)).sum, pulled := [] })
        0x0D (BitVec.ofNat 64 step :: shards.map fun e => BitVec.ofNat 64 e.len) :=
  if_pos (by simp [isPaired, hlink, harmed, hidle])

theorem abortPull_running (hrun : s.mirror.pull.running = true) :
    abortPull rq s = dropPull (modMir s fun m => { m with pull := { m.pull with running := false } }) :=
  if_pos hrun

end

/-- Settles O23: MIRROR_CMD acts outside the safe state, and each command does where R201 lets it. -/
theorem linkCommands : Obligations.LinkCommands := by
  intro s rq hr hid
  refine ⟨fun v hvalid hv => ?_, fun hsafe => ⟨fun job hlink hmode hsec => ?_, fun hlink => ?_, ?_,
    fun step shards hlink harmed hidle => ?_, fun hrun => ?_⟩⟩
  · exact writes_of (g := mirCheckAck v) rfl rfl hr hid (access_060058 ..) (mirCheckAck_seq (by simpa) (by simpa))
  · exact linkCommand_writes rfl rfl hr hid hsafe (pairCmd_down (by simpa) (by simpa) (by simpa))
  · exact linkCommand_writes rfl rfl hr hid hsafe (repairCmd_judged (by simpa))
  · exact linkCommand_writes (g := unpairCmd) rfl rfl hr hid hsafe rfl
  · exact linkCommand_writes rfl rfl hr hid hsafe (pullCmd_paired (by simpa) (by simpa [isArmed] using harmed) (by simpa))
  · exact linkCommand_writes rfl rfl hr hid hsafe (abortPull_running (by simpa))

/-! ### The handshake and the timers of the link (R177, R179, R181, R182) -/

section
variable {s : State} {h : Hello} {nbr : Option Nat} {q ct cause : Nat}

/-- Keeping the HELLO does not change what the checks of R179 find. -/
theorem helloCheck_heard :
    helloCheck (modMir (netGot s) fun m => { m with lastHello := h }) h nbr = helloCheck s h nbr :=
  cnt_helloCheck s 6 1 h nbr

section
variable (hlink : s.mirror.link = .hello ∨ s.mirror.link = .lost)
include hlink

theorem hello_judged : (s.mirror.link == .hello || s.mirror.link == .lost) = true := by
  rcases hlink with h | h <;> simp [h]

/-- A HELLO that passes every check of R179 leads to KEYING. -/
theorem helloGot_passes (hcheck : helloCheck s h nbr = none) :
    helloGot h nbr s = enterKeying (modMir (netGot s) fun m => { m with lastHello := h, peerHello := h }) h := by
  simp only [helloGot, hello_judged hlink, helloCheck_heard, hcheck, if_true]
  rfl

/-- One that fails a check of the wiring leads to MISWIRED (R183). -/
theorem helloGot_miswired (hcheck : helloCheck s h nbr = some (false, cause)) :
    helloGot h nbr s =
      let b := modMir (netGot s) fun m => { m with lastHello := h, peerHello := h, link := .miswired, cause := cause }
      identRecord (raiseNetRecv b (fcode 4 2 3) h.chip 1) h := by
  simp only [helloGot, hello_judged hlink, helloCheck_heard, hcheck, if_true]
  rfl

end

/-- KEY gives slot 1 the keys of the pair, and FINISH follows. -/
theorem keyGot_keying (hlink : s.mirror.link = .keying) (hslot : ownSlot s ≠ 0) (hkey : s.mirror.rxKey = none) :
    keyGot ct q true s =
      let b := setPairKeys (netGot s) (Config.kem (s.sec.kem.getD 0) ct)
      keyingDone (sendFinish (modMir b fun m => { m with rxSeq := some q, keyCt := ct })) := by
  simp [keyGot, hlink, hslot, hkey]

theorem finishGot_takes (hq : TakesSeq s q) :
    finishGot q true true s = keyingDone (modMir (taken s q) fun m => { m with finGot := true }) :=
  melRecv_takes hq 3

theorem beatGot_takes (hq : TakesSeq s q) : beatGot q true s = taken s q := melRecv_takes hq 4

theorem beatSend_paired (hlink : s.mirror.link = .paired) :
    beatSend s = melSend s 4 [BitVec.ofNat 64 (phaseCode s.step.eng.phase), BitVec.ofNat 64 s.step.eng.epochStep] :=
  if_pos (beq_iff_eq.2 hlink)

theorem pairTimeout_hello (hlink : s.mirror.link = .hello) :
    pairTimeout s = raiseI (modMir s fun m => { m with link := .down }) (fcode 4 2 1) 2 :=
  if_pos (beq_iff_eq.2 hlink)

/-- The first two times KEYING goes back to HELLO. -/
theorem keyingTimeout_retries (hlink : s.mirror.link = .keying) (htries : s.mirror.tries < 3) :
    keyingTimeoutEff s = modMir s fun m => { m with link := .hello, secret := none, txKey := none, rxKey := none } := by
  simp [keyingTimeoutEff, hlink, htries]

/-- The third time the partner is MISWIRED. -/
theorem keyingTimeout_third (hlink : s.mirror.link = .keying) (htries : 3 ≤ s.mirror.tries) :
    keyingTimeoutEff s =
      let b := modMir s fun m => { m with link := .miswired, cause := 9, secret := none, txKey := none, rxKey := none }
      identRecord (raiseI b (fcode 4 2 3) 2) s.mirror.peerHello := by
  simp [keyingTimeoutEff, hlink, Nat.not_lt.2 htries]

theorem linkLost_paired (hlink : s.mirror.link = .paired) :
    linkLost s = raiseI (modMir (leavePaired s) fun m => { m with link := .lost }) (fcode 4 1 2) 2 :=
  if_pos (beq_iff_eq.2 hlink)

end

/-- Settles O24: the messages of the handshake, then the timers of the link by its state. -/
theorem pairing : Obligations.Pairing := by
  intro s hr
  refine ⟨fun h n hlink hcheck => ?_, fun h n hlink c hcheck => ?_, fun ct q hlink hslot hkey => ?_, fun q hq => ?_,
    fun ph n q hq => ?_, fun _ _ => ?_, fun hlink => ?_, fun hlink => ?_, fun hlink htries => ?_, fun hlink htries => ?_,
    fun hlink => ?_⟩
  · exact does_of rfl rfl hr (helloGot_passes (s := clearSent s) hlink hcheck)
  · exact does_of rfl rfl hr (helloGot_miswired (s := clearSent s) hlink hcheck)
  · exact does_of rfl rfl hr (keyGot_keying (s := clearSent s) hlink hslot hkey)
  · exact does_of rfl rfl hr (finishGot_takes (s := clearSent s) hq)
  · exact does_of rfl rfl hr (beatGot_takes (s := clearSent s) hq)
  · exact does_of (g := helloSend) rfl rfl hr rfl
  · exact does_of rfl rfl hr (beatSend_paired (s := clearSent s) hlink)
  · exact does_of rfl rfl hr (pairTimeout_hello (s := clearSent s) hlink)
  · exact does_of rfl rfl hr (keyingTimeout_retries (s := clearSent s) hlink htries)
  · exact does_of rfl rfl hr (keyingTimeout_third (s := clearSent s) hlink htries)
  · exact does_of rfl rfl hr (linkLost_paired (s := clearSent s) hlink)

/-! ### Checks between partners (R185, R187–R189, R193, R195) -/

section
variable {s : State} {q n : Nat} {id : OpId} {own sig : Word}

section
variable (hq : TakesSeq s q)
include hq

theorem noticeGot_takes {mb : Nat} {ws : List Word} :
    noticeGot n mb ws q true s =
      let t := modMir (taken s q) fun m =>
        { m with notices := m.notices.filter fun x => decide (x.1 + 1 ≥ n) && x != (n, mb) }
      let b := if t.sec.mst.isSome then modMir t fun m => { m with noticesIn := m.noticesIn ++ [(n, mb)] } else t
      storeWrite b (noticeAt b n mb) (noticeNonce n mb) .notice (wordsBytes ws) :=
  melRecv_takes hq 5

theorem committedGot_takes {c : Committed} :
    committedGot c q true s = checkJudge (modMir (taken s q) fun m => { m with check := { m.check with part := some c } }) :=
  melRecv_takes hq 6

theorem notCommittedGot_takes :
    notCommittedGot n q true s =
      checkJudge (modMir (taken s q) fun m => { m with check := { m.check with notCommitted := some n } }) :=
  melRecv_takes hq 7

/-- After the step verdict no signature is compared. -/
theorem auditGot_shut (hshut : s.mirror.auditShut = true) : auditGot id sig q true s = taken s q :=
  (melRecv_takes hq 8).trans (if_pos (by simp [hshut]))

/-- A signature that comes before the own one waits for it. -/
theorem auditGot_first (hshut : s.mirror.auditShut = false)
    (hown : s.mirror.auditOwn.find? (fun p => p.1 == id) = none) :
    auditGot id sig q true s = modMir (taken s q) fun m => { m with auditPeer := m.auditPeer ++ [(id, sig)] } := by
  rw [auditGot, melRecv_takes hq]
  simp only [taken_mirror, hshut, hown, Bool.false_eq_true, if_false]

/-- One that differs from the own one makes the requirement EXCH. -/
theorem auditGot_differs (hshut : s.mirror.auditShut = false)
    (hown : s.mirror.auditOwn.find? (fun p => p.1 == id) = some (id, own)) (hne : own ≠ sig) :
    auditGot id sig q true s =
      let b := modMir (taken s q) fun m => { m with auditOwn := m.auditOwn.filter fun p => p.1 != id }
      post (raiseI b (fcode 1 2 6) 2) (.require 3 false none 6) := by
  rw [auditGot, melRecv_takes hq]
  simp only [taken_mirror, hshut, hown, auditCompare, beq_eq_false_iff_ne.2 hne, Bool.false_eq_true, if_false]

end

theorem checkFails_open (hopen : s.mirror.check.open_ = true) (reason : Nat) : checkFails s reason = checkEnds s reason false :=
  if_pos hopen

/-- Without a partner that answers a REPLICA check fails. -/
theorem checkTimeout_replica (hmode : mirMode s = 1) (hopen : s.mirror.check.open_ = true) :
    checkTimeout s = checkEnds s 3 false := by
  simp [checkTimeout, hmode, checkFails_open hopen]

theorem gapTimeout_inbound (hrun : s.mirror.inb.running = true) :
    gapTimeout s =
      checkFails (dropIn (modMir s fun m => { m with inb := { m.inb with running := false, abandoned := true } })) 3 :=
  if_pos hrun

end

/-- Settles O25: what the partner sends is taken, then what each message does; and the two time limits of a check. -/
theorem partnerChecks : Obligations.PartnerChecks := by
  intro s q hr hq
  refine ⟨fun n mb ws => ?_, fun c => ?_, fun n d => ?_, fun id sig hshut => ?_, fun id sig hshut hown => ?_,
    fun id own sig hshut hown hne => ?_, fun hmode hopen => ?_, fun hrun => ?_⟩
  · exact does_of rfl rfl hr (noticeGot_takes (s := clearSent s) hq)
  · exact does_of rfl rfl hr (committedGot_takes (s := clearSent s) hq)
  · exact does_of rfl rfl hr (notCommittedGot_takes (s := clearSent s) hq)
  · exact does_of rfl rfl hr (auditGot_shut (s := clearSent s) hq hshut)
  · exact does_of rfl rfl hr (auditGot_first (s := clearSent s) hq hshut hown)
  · exact does_of rfl rfl hr (auditGot_differs (s := clearSent s) hq hshut hown hne)
  · exact does_of rfl rfl hr (checkTimeout_replica (s := clearSent s) hmode hopen)
  · exact does_of rfl rfl hr (gapTimeout_inbound (s := clearSent s) hrun)

/-! ### Copies (R190–R193) -/

section
variable {s : State} {q n c d : Nat} {bs : List Byte}

section
variable (hq : TakesSeq s q)
include hq

/-- The chunk that an inbound copy waits for goes into its receive slot, where it has room there. -/
theorem chunkGot_inOrder (hmode : mirMode s = 2) (hrun : s.mirror.inb.running = true) (hstep : s.mirror.inb.step = n)
    (hchunk : s.mirror.inb.chunk = c) (hkey : s.sec.mst.isSome = true)
    (hroom : s.mirror.inb.bytes.length + bs.length ≤ rxSlotBytes s) (hlen : bs.length ≤ 67024) :
    chunkGot n c bs q true s =
      let b := modMir (taken s q) fun m =>
        { m with inb := { m.inb with
          bytes := m.inb.bytes ++ bs, lens := m.inb.lens ++ [bs.length], chunk := m.inb.chunk + 1, left := 1 } }
      storeWrite b (rxSlotAddr s s.mirror.inb.slot + s.mirror.inb.bytes.length) (chunkNonce n c) .mirrorIn bs := by
  have hkey' : s.sec.mst.isNone = false := by simp [Option.isNone_eq_false_iff, hkey]
  rw [chunkGot, rxFramed_fits hlen, melRecv_takes hq]
  simp [hmode, hrun, hstep, hchunk, hkey', Nat.not_lt.2 hroom]

theorem ackGot_outbound (hrun : s.mirror.out.running = true) (hstep : s.mirror.out.step = n) (hchunk : s.mirror.out.chunk = c)
    (hacked : s.mirror.out.acked < s.mirror.out.bytes.length) : ackGot n c q true s = copyAcked (taken s q) :=
  (melRecv_takes hq _).trans (if_pos (by simp [hrun, hstep, hchunk, hacked]))

/-- COPY_END with the digest of the bytes received: the slot is the held copy, and COPY_DONE says so. -/
theorem endGot_digest (hrun : s.mirror.inb.running = true) (hstep : s.mirror.inb.step = n) (hchunk : s.mirror.inb.chunk = c)
    (hdigest : d = Config.sha3_384 s.mirror.inb.bytes) :
    endGot n c d q true s =
      let b := modMir (taken s q) fun m =>
        { m with
          inb := { m.inb with running := false, done := true }, heldValid := true, heldStep := n,
          heldSlot := m.inb.slot, heldLens := m.inb.lens }
      checkJudge (melSend b 0x0C (BitVec.ofNat 64 n :: sha384Words s.mirror.inb.bytes)) := by
  rw [endGot, melRecv_takes hq]
  simp [hrun, hstep, hchunk, hdigest, modMir]

/-- COPY_DONE ends the sender's side, by the digest that it carries. -/
theorem doneGot_outbound (hrun : s.mirror.out.running = true) (hend : s.mirror.out.endSent = true)
    (hstep : s.mirror.out.step = n) :
    doneGot n d q true s =
      let ok := d == Config.sha3_384 s.mirror.out.bytes
      checkJudge (modMir (taken s q) fun m =>
        { m with
          out := { m.out with running := false, done := ok, digestBad := !ok },
          peerHolds := if ok then some n else m.peerHolds }) := by
  rw [doneGot, melRecv_takes hq]
  simp [hrun, hend, hstep]

end

section
variable (hrun : s.mirror.out.running = true)
include hrun

theorem chunkFailed_outbound : chunkFailed s = copyRetry s := if_pos hrun

theorem nackGot_outbound (hq : TakesSeq s q) (hstep : s.mirror.out.step = n) (hchunk : s.mirror.out.chunk = c) :
    nackGot n c q true s = copyRetry (taken s q) :=
  calc nackGot n c q true s
    _ = chunkFailed (taken s q) := (melRecv_takes hq _).trans (if_pos (by simp [hstep, hchunk]))
    _ = copyRetry (taken s q) := chunkFailed_outbound (by simpa)

/-- The chunk is sent again after its first and its second failure. -/
theorem copyRetry_again (htries : s.mirror.out.tries < 2) :
    copyRetry s = copySendChunk (modMir s fun m => { m with out := { m.out with tries := m.out.tries + 1 } }) := by
  have hthird : ¬ s.mirror.out.tries + 1 ≥ 3 := by omega
  simp only [copyRetry, modMir_mirror, hrun, hthird, Bool.not_true, Bool.false_eq_true, if_false]

/-- After the third the copy is abandoned. -/
theorem copyRetry_abandons (htries : 2 ≤ s.mirror.out.tries) :
    copyRetry s =
      let b := dropOut (modMir s fun m =>
        { m with out := { m.out with tries := m.out.tries + 1, running := false, abandoned := true } })
      checkJudge (raiseI b (fcode 4 2 9) 2) := by
  have hthird : s.mirror.out.tries + 1 ≥ 3 := by omega
  simp only [copyRetry, copyAbandon, modMir_mirror, hrun, hthird, Bool.not_true, Bool.false_eq_true, if_false, if_true]
  rfl

end

end

/-- Settles O26: the messages of a copy at its receiver and at its sender, and the chunk that is not acknowledged in time. -/
theorem copies : Obligations.Copies := by
  intro s q hr
  refine ⟨fun hq => ⟨fun n c bs hmode hrun hstep hchunk hkey hroom hlen => ?_, fun n c hrun hstep hchunk hacked => ?_,
      fun n c hrun hstep hchunk => ?_, fun n c d hrun hstep hchunk hdigest => ?_, fun n d hrun hend hstep => ?_⟩,
    fun hrun htries => ?_, fun hrun htries => ?_⟩
  · exact does_of rfl rfl hr (chunkGot_inOrder (s := clearSent s) hq hmode hrun hstep hchunk hkey hroom hlen)
  · exact does_of rfl rfl hr (ackGot_outbound (s := clearSent s) hq hrun hstep hchunk hacked)
  · exact does_of rfl rfl hr (nackGot_outbound (s := clearSent s) hrun hq hstep hchunk)
  · exact does_of rfl rfl hr (endGot_digest (s := clearSent s) hq hrun hstep hchunk hdigest)
  · exact does_of rfl rfl hr (doneGot_outbound (s := clearSent s) hq hrun hend hstep)
  · exact does_of rfl rfl hr ((chunkFailed_outbound (s := clearSent s) hrun).trans (copyRetry_again hrun htries))
  · exact does_of rfl rfl hr ((chunkFailed_outbound (s := clearSent s) hrun).trans (copyRetry_abandons hrun htries))

/-! ### Pulls (R196, R197) -/

section
variable {s : State} {q n c d cause : Nat} {bs : List Byte} {lens : List Nat} {ns : List Notice}

/-- A pull that is running fails with its cause. -/
theorem pullFails_running (hrun : s.mirror.pull.running = true) :
    pullFails s cause =
      raiseI (dropPull (modMir s fun m =>
        { m with pull := { m.pull with running := false }, pullFailed := true, cause := cause })) (fcode 4 2 12) 2 := by
  simp [pullFails, hrun]

/-- A chunk of more than 524 beats is discarded before its tag is looked at (R391). -/
theorem pullChunkGot_misfit (hlen : 67024 < bs.length) :
    pullChunkGot n c bs q true s = raisePort s fcPortRange 8 0 (2 + 2 ^ 8 + 0x0E * 2 ^ 16 + (bs.length + 16) * 2 ^ 24) :=
  rxFramed_misfit hlen 0x0E

section
variable (hq : TakesSeq s q)
include hq

/-- A replica that is in HOLD or IDLE serves the step after its epoch from the shard list. -/
theorem pullReqGot_served (hphase : s.step.eng.phase = .hold ∨ s.step.eng.phase = .idle)
    (hrestore : s.step.eng.restoring = false) (hmode : mirMode s = 1) (hvalid : s.step.eng.epochValid = true)
    (hnext : (s.step.eng.epochStep + 1) % 2 ^ 32 = n % 2 ^ 32) :
    pullReqGot n lens q true s =
      mirRead (modMir (taken s q) fun m => { m with serve := { running := true, step := n }, serveLens := lens })
        s.mirror.shardList.toNat 8192 1 .serve := by
  have hstill : (s.step.eng.phase == .hold || s.step.eng.phase == .idle) = true := by rcases hphase with h | h <;> simp [h]
  rw [pullReqGot, melRecv_takes hq]
  simp [hstill, hrestore, hmode, hvalid, hnext, -Nat.reducePow]

/-- In another phase, or without an epoch, the pull is refused. -/
theorem pullReqGot_refused
    (hwhy : (s.step.eng.phase ≠ .hold ∧ s.step.eng.phase ≠ .idle) ∨ s.step.eng.epochValid = false) :
    pullReqGot n lens q true s =
      melSend (dropServe (modMir (taken s q) fun m => { m with serve := { m.serve with running := false } })) 0x0E [2, 13] := by
  rw [pullReqGot, melRecv_takes hq]
  refine if_neg ?_
  rcases hwhy with ⟨hhold, hidle⟩ | hvalid
  · simp [hhold, hidle]
  · simp [hvalid]

section
variable (hrun : s.mirror.pull.running = true) (hstep : s.mirror.pull.step = n)
include hrun hstep

/-- The chunk that the pull waits for is written piece by piece to the epoch-0 addresses of the shard list. -/
theorem pullChunkGot_inOrder (hchunk : s.mirror.pull.chunk = c) (hlen : bs.length ≤ 67024) :
    pullChunkGot n c bs q true s =
      let t := taken s q
      let segs := (segments (shardPieces t.mirror.shards 0) t.mirror.pull.bytes.length bs.length).filter fun x => x.2.2 != 0
      let b := modMir t fun m =>
        { m with pull := { m.pull with bytes := m.pull.bytes ++ bs, chunk := m.pull.chunk + 1, left := segs.length } }
      forEach segs (if segs.isEmpty then sendAck b n c true else b) fun x seg =>
        mirWrite x seg.1 .pullWrite ((bs.drop seg.2.1).take seg.2.2) := by
  rw [pullChunkGot, rxFramed_fits hlen, melRecv_takes hq]
  have hwaited : (!((taken s q).mirror.pull.running && (taken s q).mirror.pull.step == n)) = false := by simp [hrun, hstep]
  have hnotLater : ¬ c > (taken s q).mirror.pull.chunk := by simp [hchunk]
  have hnotEarlier : ¬ c < (taken s q).mirror.pull.chunk := by simp [hchunk]
  simp only [hwaited, hnotLater, hnotEarlier, Bool.false_eq_true, if_false]

theorem pullEndGot_digest (hchunk : s.mirror.pull.chunk = c) (hdigest : d = Config.sha3_384 s.mirror.pull.bytes) :
    pullEndGot n c d ns q true s =
      modMir (taken s q) fun m => { m with pull := { m.pull with running := false }, pullDone := true, pulled := ns } := by
  rw [pullEndGot, melRecv_takes hq]
  simp [hrun, hstep, hchunk, hdigest]

theorem pullEndGot_badDigest (hdigest : d ≠ Config.sha3_384 s.mirror.pull.bytes) :
    pullEndGot n c d ns q true s =
      raiseI (dropPull (modMir (taken s q) fun m =>
        { m with pull := { m.pull with running := false }, pullFailed := true, cause := 15 })) (fcode 4 2 12) 2 :=
  calc pullEndGot n c d ns q true s
    _ = pullFails (taken s q) 15 := by
      rw [pullEndGot, melRecv_takes hq]
      simp [hrun, hstep, hdigest]
    _ = _ := pullFails_running (by simpa)

end

theorem pullRefused_running (hrun : s.mirror.pull.running = true) :
    pullRefused cause q true s =
      raiseI (dropPull (modMir (taken s q) fun m =>
        { m with pull := { m.pull with running := false }, pullFailed := true, cause := cause })) (fcode 4 2 12) 2 :=
  (melRecv_takes hq _).trans (pullFails_running (by simpa))

end

end

/-- Settles O27: the side that serves a pull, then the side that pulls. -/
theorem pulls : Obligations.Pulls := by
  intro s q hr hq
  refine ⟨fun n lens hphase hrestore hmode hvalid hnext => ?_, fun n c bs hlen => ?_, fun n lens hwhy => ?_,
    fun hrun => ⟨fun n c bs hstep hchunk hlen => ?_, fun n c d ns hstep hchunk hdigest => ?_,
      fun n c d ns hstep hdigest => ?_, fun cause => ?_⟩⟩
  · exact does_of rfl rfl hr (pullReqGot_served (s := clearSent s) hq hphase hrestore hmode hvalid hnext)
  · exact does_of rfl rfl hr (pullChunkGot_misfit (s := clearSent s) hlen)
  · exact does_of rfl rfl hr (pullReqGot_refused (s := clearSent s) hq hwhy)
  · exact does_of rfl rfl hr (pullChunkGot_inOrder (s := clearSent s) hq hrun hstep hchunk hlen)
  · exact does_of rfl rfl hr (pullEndGot_digest (s := clearSent s) hq hrun hstep hchunk hdigest)
  · exact does_of rfl rfl hr (pullEndGot_badDigest (s := clearSent s) hq hrun hstep hdigest)
  · exact does_of rfl rfl hr (pullRefused_running (s := clearSent s) hq hrun)

end Sys2Proof.PartnersMirrorsSpares
end

section
/-! Field tests, quarantine and remap (07_field_tests_quarantine_remap): the commands of the unit, and the ends of the tests of
a position. -/
namespace Sys2Proof.FieldTestsQuarantineRemap

open Machine

/-! ### QRS_CMD and QRS_EVENT_ACK (R210, R215, R217, R225, R227, R230, R231) -/

section
variable {s : State} {rq : Acc} {v : Word} {c : Instr} {f g : State → State} {cmd l n tag tile : Nat}

theorem unlessSafe_runs (hsafe : s.fault.safe = false) (off : Nat) : unlessSafe rq off cmd g s = g s := by
  simp only [unlessSafe, hsafe, Bool.false_eq_true, if_false]

/-- Outside the safe state a write of QRS_CMD has the effect of its command. -/
theorem qrsCommand_writes (h : exec c s = run c (regCmd rq 0x090008 v (unlessSafe rq 0x090008 cmd g)) s)
    (hw : wellFormed s.build c = true) (hr : Running s) (hid : Requester rq) (hsafe : s.fault.safe = false)
    (he : g (cnt (clearSent s) 10) = f (cnt (clearSent s) 10)) (hq : requester c = rq.id := by rfl) : Writes c s f :=
  writes_of h hw hr hid (access_090008 ..) ((unlessSafe_runs (by simpa using hsafe) _).trans he) hq

theorem qrsAck_seq (hvalid : s.qrs.event.valid = true) (hv : fld v 15 0 = s.qrs.event.seq) :
    qrsAck v s = modQrs s fun q => { q with event := { q.event with valid := false } } := by
  simp only [qrsAck, modQrs, ResidueChecksums.heldAck_seq hvalid hv]

/-! A command that acts finds none running; the tests and RECONCILE wait for the bring-up commands too. -/

section
variable (hbusy : s.qrs.busy = false)
include hbusy

theorem qrsFence_inService (hstate : (remapOf s l).state = 1) :
    qrsFence rq l tag s = quarantine (qrsTakes s 1 tag l false 1) (remapOf s l).phys 3 := by
  simp [qrsFence, hbusy, hstate]

variable (hbring : s.bring.busy = false)
include hbring

theorem qrsStruct_allowed (hok : structAllowed s n = true) :
    qrsStruct rq n tag s = structStart (qrsTakes s 2 tag n true 0) n .cmd := by
  simp [qrsStruct, hbusy, hbring, hok]

theorem qrsSelftest_allowed (hok : selfAllowed s n = true) :
    qrsSelftest rq n tag s = selfStart (qrsTakes s 3 tag n true 0) n .cmd := by
  simp [qrsSelftest, hbusy, hbring, hok]

/-- The checker has FAILED, and not by the fuse map alone: its bit is clear, or an override covers it. -/
theorem qrsReturn_failed (hok : selfAllowed s n = true) (hchk : (pos s n).chk = .failed)
    (hfuse : fuseBad s n true = false ∨ overrideOf s n true = 1) :
    qrsReturn rq n tag s = selfStart (modPos (qrsTakes s 4 tag n true 0) n fun p => { p with returning := true }) n .cmd := by
  rcases hfuse with h | h <;> simp [qrsReturn, hbusy, hbring, hok, hchk, h]

theorem qrsReconcile_disarmed (harmed : isArmed s = false) (hfuse : s.bring.fuseOk = true) (hactive : regActive s 1 = true) :
    qrsReconcile rq tile tag s = reconcile (qrsTakes s 5 tag tile false 1) := by
  simp [qrsReconcile, hbusy, hbring, harmed, hfuse, hactive]

end

section
variable (hbusy : s.qrs.busy = true)
include hbusy

theorem qrsCancel_struct (hcmd : s.qrs.busyCmd = 2) : qrsCancel rq tile tag s = structEnds s s.qrs.tile 3 := by
  simp [qrsCancel, hbusy, hcmd]

/-- Every command but STRUCT that runs on is a self-test. -/
theorem qrsCancel_selftest (hcmd : s.qrs.busyCmd ≠ 2) :
    qrsCancel rq tile tag s = selfEnds (modPos s s.qrs.tile fun p => { p with returning := false }) s.qrs.tile 3 0 := by
  simp [qrsCancel, hbusy, hcmd]

end

end

/-- Settles O28: the acknowledgement, then each command in the state of the unit in which it acts. -/
theorem quarantineCommands : Obligations.QuarantineCommands := by
  intro s rq tag hr hid
  refine ⟨fun v hvalid hv => ?_, fun hsafe hbusy => ⟨fun l hstate => ?_, fun hbring => ⟨fun n hok => ?_, fun n hok => ?_,
    fun n hok hchk hfuse => ?_, fun w harmed hfuse hactive => ?_⟩⟩, fun hsafe hbusy w => ⟨fun hcmd => ?_, fun hcmd => ?_⟩⟩
  · exact writes_of (g := qrsAck v) rfl rfl hr hid (access_090028 ..) (qrsAck_seq (by simpa) (by simpa))
  · refine qrsCommand_writes rfl rfl hr hid hsafe ((qrsFence_inService (by simpa) (by simpa)).trans ?_)
    simp only [cnt_remapOf, clearSent_remapOf]
  · exact qrsCommand_writes rfl rfl hr hid hsafe (qrsStruct_allowed (by simpa) (by simpa) (by simpa))
  · exact qrsCommand_writes rfl rfl hr hid hsafe (qrsSelftest_allowed (by simpa) (by simpa) (by simpa))
  · exact qrsCommand_writes rfl rfl hr hid hsafe
      (qrsReturn_failed (by simpa) (by simpa) (by simpa) (by simpa) (by simpa))
  · exact qrsCommand_writes rfl rfl hr hid hsafe
      (qrsReconcile_disarmed (by simpa) (by simpa) (by simpa) (by simpa) (by simpa))
  · refine qrsCommand_writes rfl rfl hr hid hsafe ((qrsCancel_struct (by simpa) (by simpa)).trans ?_)
    simp only [cnt_qrs, clearSent_qrs]
  · refine qrsCommand_writes rfl rfl hr hid hsafe ((qrsCancel_selftest (by simpa) (by simpa)).trans ?_)
    simp only [cnt_qrs, clearSent_qrs]

/-! ### Tests of a position (R209–R211, R214, R215) -/

section
variable {s : State} {n u : Nat} {us vs : List Nat}

/-- A test that no longer waits for the pattern read ends by its signature. -/
theorem structDone_read (htest : (pos s n).testing.isSome = true) (hread : s.qrs.pattern.users.contains n = false)
    (ws : List (BitVec 32)) :
    structDone n ws s = structEnds s n (if structSig ws == (pos s n).expected then 1 else 2) := by
  simp only [structDone, htest, hread, Bool.not_false, Bool.and_true, if_true]

/-- Runs that have all passed name no unit. -/
theorem firstFail_passed (hus : ∀ u ∈ us, u = 0) (hvs : ∀ u ∈ vs, u = 0) : firstFail us vs = none := by
  induction us generalizing vs with
  | nil => rfl
  | cons c cs ih =>
    obtain ⟨rfl, hcs⟩ := List.forall_mem_cons.1 hus
    cases vs with
    | nil => exact ih hcs hvs
    | cons i is =>
      obtain ⟨rfl, his⟩ := List.forall_mem_cons.1 hvs
      exact ih hcs his

section
variable (hriser : riserUp s n = true) (hseg : (pos s n).segment = true)
include hriser hseg

/-- All 64 segments have passed, clean and injected. -/
theorem selfDone_passed (hus : us.length = 64) (hvs : vs.length = 64) (hpass : ∀ u ∈ us ++ vs, u = 0) :
    selfDone n us vs s = selfEnds s n 1 0 := by
  obtain ⟨hclean, hinjected⟩ := List.forall_mem_append.1 hpass
  simp [selfDone, hriser, hseg, firstFail_passed hclean hinjected, hus, hvs]

theorem selfDone_failed (hfail : firstFail us vs = some u) : selfDone n us vs s = selfEnds s n 2 u := by
  simp [selfDone, hriser, hseg, hfail]

end

section
variable (hcfg : fld s.qrs.testCfg 63 32 ≠ 0) (hspare : spareNow (pos s n).host = true)
include hcfg hspare

theorem spareInterval_open (hopen : testsOpen s n = true) : spareInterval n s = spareTests (latch s 1 3) n := by
  have hl : testsOpen (latch s 1 3) n = true := hopen
  simp [spareInterval, hcfg, hspare, hl]

theorem spareInterval_closed (hopen : testsOpen s n = false) :
    spareInterval n s = modPos (latch s 1 3) n fun p => { p with autoWait := true } := by
  have hl : testsOpen (latch s 1 3) n = false := hopen
  simp [spareInterval, hcfg, hspare, hl]

end

/-- A free spare takes its structural test; then any spare takes its self-test. -/
theorem spareTests_eq : spareTests s n =
    let b := modPos s n fun p => { p with autoWait := false }
    let c := if (pos b n).host = .spareFree ∧ structAllowed b n = true then structStart b n .auto else b
    if spareNow (pos c n).host = true ∧ selfAllowed c n = true then selfStart c n .auto else c := by
  simp only [spareTests, Bool.and_eq_true, beq_iff_eq]

end

/-- Settles O29: each test by what its command reports or by its timer, then the automatic tests of a spare. -/
theorem positionTests : Obligations.PositionTests := by
  intro s n hr hn
  have hpos : decide (n < s.build.tiles) = true := decide_eq_true hn
  refine ⟨fun ws htest hread => ?_, ?_, fun us vs hclean hinjected hunits hriser hseg => ?_, ?_, fun hcfg hspare =>
    ⟨fun hopen => ?_, fun hopen => ?_⟩⟩
  · exact does_of rfl hpos hr (structDone_read (s := clearSent s) htest hread ws)
  · exact does_of (g := fun s => structEnds s n 4) rfl hpos hr rfl
  · have hw : wellFormed s.build (.selftestDone n us vs) = true := by
      simpa only [wellFormed, Bool.and_eq_true, decide_eq_true_eq, List.all_eq_true] using ⟨⟨⟨hn, hclean⟩, hinjected⟩, hunits⟩
    exact ⟨fun hus hvs hpass => does_of rfl hw hr (selfDone_passed (s := clearSent s) hriser hseg hus hvs hpass),
      fun u hfail => does_of rfl hw hr (selfDone_failed (s := clearSent s) hriser hseg hfail)⟩
  · exact does_of (g := fun s => selfEnds s n 6 0) rfl hpos hr rfl
  · exact does_of rfl hpos hr ((spareInterval_open (s := clearSent s) hcfg hspare hopen).trans spareTests_eq)
  · exact does_of rfl hpos hr (spareInterval_closed (s := clearSent s) hcfg hspare hopen)

end Sys2Proof.FieldTestsQuarantineRemap
end

section
/-! The mode lattice (08_mode_lattice): DARK and the reset pins, what a reset holds, and the commands of the mode arbiter. -/
namespace Sys2Proof.ModeLattice

open Machine

/-! ### What the pins do to the power state (R250)

Of the commands that act in DARK only PORST_N's release has an effect that leaves it. -/

section
variable (s : State)

@[simp] theorem bumpGen_power : (bumpGen s).mode.power = s.mode.power := by simp [bumpGen]

@[simp] theorem setPower_power (p : Power) : (setPower s p).mode.power = p := by
  unfold setPower
  split
  · assumption
  · exact bumpGen_power _

@[simp] theorem cutWrite_mode : (cutWrite s).mode = s.mode := by
  unfold cutWrite
  split
  · rfl
  · rfl

@[simp] theorem interlock_mode : (interlock s).mode = s.mode := cutWrite_mode s

@[simp] theorem interlockEnds_mode : (interlockEnds s).mode = s.mode := by
  unfold interlockEnds
  split
  · split
    · rfl
    · rfl
  · rfl

@[simp] theorem clusterLeaves_mode (k : Nat) : (clusterLeaves k s).mode = s.mode := by
  simp only [clusterLeaves]
  split
  · rfl
  · split <;> simp [envRecord]

@[simp] theorem clusterReturns_mode (k : Nat) : (clusterReturns k s).mode = s.mode := by
  simp only [clusterReturns]
  split
  · exact interlockEnds_mode s
  · rw [forEach_inv State.mode fun s n => post_mode s (.regainChecker n)]
    exact interlockEnds_mode _

/-- A rail that comes back in range does not end DARK. -/
theorem railReturns_mode (r : Nat) : (railReturns r s).mode = s.mode := by
  simp only [railReturns]
  split
  · exact forEach_inv State.mode (fun s k => clusterReturns_mode s k) _ _
  · split <;> simp [envRecord]

theorem goDark_power : (goDark s).mode.power = .dark := setPower_power ..

theorem porstAssert_power : (porstAssert s).mode.power = s.mode.power := by
  unfold porstAssert
  split
  · rfl
  · rfl

end

/-- In DARK effect `f` leaves the block DARK. -/
def KeepsDark (f : State → State) : Prop := ∀ s : State, s.mode.power = .dark → (f s).mode.power = .dark

theorem keepsDark_of_mode {f : State → State} (h : ∀ s, (f s).mode = s.mode) : KeepsDark f := fun s hd => by rw [h s, hd]

/-- A rail out of range leaves the power state as it is or brings DARK. -/
theorem railLeaves_keepsDark (r : Nat) : KeepsDark (railLeaves r) := by
  intro s hd
  simp only [railLeaves]
  split
  · rw [forEach_inv State.mode fun s k => clusterLeaves_mode s k, hd]
  · split
    · exact hd
    · split
      · exact goDark_power _
      · simpa [envRecord] using hd

theorem blkAssert_keepsDark : KeepsDark blkAssert := by
  intro s hd
  unfold blkAssert
  split
  · exact hd
  · dsimp only
    split
    · exact hd
    · simp [chipReset, hd]

/-- In DARK the spine does not leave reset with BLK_RST_N. -/
theorem blkRelease_keepsDark (strap : Bool) : KeepsDark (blkRelease strap) := by
  intro s hd
  simp only [blkRelease, hd, beq_self_eq_true, Bool.or_true, if_true]
  split
  · exact hd
  · exact hd

/-! ### DARK over a run (R250) -/

section
variable {c : Instr} {f : State → State} {s t : State}

/-- In DARK a command that acts, the release of PORST_N apart, has an effect that keeps DARK. -/
theorem exec_effect_keepsDark (hd : s.mode.power = .dark) (hact : acts s c = true)
    (hc : ∀ strap, c ≠ .porstRelease strap) : ∃ f, exec c s = run c f s ∧ KeepsDark f := by
  cases c
  case porstRelease strap => exact absurd rfl (hc strap)
  case porstAssert => exact ⟨_, rfl, fun s hd => (porstAssert_power s).trans hd⟩
  case blkRstAssert => exact ⟨_, rfl, blkAssert_keepsDark⟩
  case blkRstRelease strap => exact ⟨_, rfl, blkRelease_keepsDark strap⟩
  case railOut r => exact ⟨_, rfl, railLeaves_keepsDark r⟩
  case railIn r => exact ⟨_, rfl, keepsDark_of_mode fun s => railReturns_mode s r⟩
  case emramInterlock => exact ⟨_, rfl, keepsDark_of_mode interlock_mode⟩
  case clusterVddcOut k => exact ⟨_, rfl, keepsDark_of_mode fun s => clusterLeaves_mode s k⟩
  case clusterVddcIn k => exact ⟨_, rfl, keepsDark_of_mode fun s => clusterReturns_mode s k⟩
  all_goals simp [acts, hd] at hact

/-- A command that has a next state acts and concludes with its effect, or changes nothing. -/
theorem run_next_cases (h : run c f s = .next t) :
    (acts s c = true ∧ t = concluded (clearSent s) (f (clearSent s))) ∨ (acts s c = false ∧ t = s) := by
  cases hw : wellFormed s.build c with
  | false => rw [run_bad hw] at h; cases h
  | true =>
    cases hact : acts s c with
    | true => rw [run_acts hw hact] at h; cases h; exact .inl ⟨rfl, rfl⟩
    | false => rw [run_idle hw hact] at h; cases h; exact .inr ⟨rfl, rfl⟩

/-- Nothing settles after an effect in DARK. -/
theorem concluded_power_dark {a e : State} (hd : e.mode.power = .dark) : (concluded a e).mode.power = .dark := by
  simp [concluded, hd]

theorem exec_keeps_dark (hd : s.mode.power = .dark) (hc : ∀ strap, c ≠ .porstRelease strap)
    (h : exec c s = .next t) : t.mode.power = .dark := by
  cases hact : acts s c with
  | true =>
    obtain ⟨f, hf, hkeep⟩ := exec_effect_keepsDark hd hact hc
    obtain ⟨-, rfl⟩ | ⟨hidle, -⟩ := run_next_cases (hf.symm.trans h)
    · exact concluded_power_dark (hkeep _ hd)
    · simp [hact] at hidle
  | false =>
    obtain ⟨f, hf⟩ := exec_run c s
    obtain ⟨hacts, -⟩ | ⟨-, rfl⟩ := run_next_cases (hf.symm.trans h)
    · simp [hact] at hacts
    · exact hd

/-- The block is DARK, and no command that waits releases PORST_N. -/
def DarkHeld (s : State) : Prop := s.mode.power = .dark ∧ ∀ strap, Instr.porstRelease strap ∉ s.pending

theorem step_keeps_darkHeld (hs : DarkHeld s) (h : step s = .next t) : DarkHeld t := by
  obtain ⟨hd, hq⟩ := hs
  refine ⟨?_, fun strap hmem => hq strap ?_⟩
  · unfold step at h
    split at h
    · cases h; exact hd
    · next c rest hp =>
      exact exec_keeps_dark (s := { s with pending := rest }) hd (fun strap hc => hq strap (by simp [hp, hc])) h
  · rw [(step_next h).2] at hmem
    exact List.mem_of_mem_drop hmem

/-- A run of `k + 1` steps with a next state is a step and a run of `k`. -/
theorem run_succ_next {k : Nat} (h : core.run (k + 1) s = .next t) : ∃ u, step s = .next u ∧ core.run k u = .next t := by
  cases hstep : step s with
  | next u => exact ⟨u, rfl, (run_succ (M := core) hstep).symm.trans h⟩
  | fault r => rw [run_fault (M := core) hstep] at h; cases h
  | refused r => rw [run_refused (M := core) hstep] at h; cases h

/-- What every step keeps, a run of any length keeps. -/
theorem run_keeps {P : State → Prop} (hP : ∀ s t, P s → step s = .next t → P t) (k : Nat) (hs : P s)
    (h : core.run k s = .next t) : P t := by
  induction k generalizing s with
  | zero => cases h; exact hs
  | succ k ih =>
    obtain ⟨u, hu, hrun⟩ := run_succ_next h
    exact ih (hP s u hs hu) hrun

end

/-- Settles O51: DARK with no release of PORST_N in the queue is an invariant of the step. -/
theorem darkLasts : Obligations.DarkLasts := fun k _ _ hd hq h =>
  (run_keeps (fun _ _ => step_keeps_darkHeld) k ⟨hd, hq⟩ h).1

/-! ### What a reset holds (R253, R378, R379) -/

/-- A command of a unit that the resets hold acts on a running block only. -/
theorem acts_of_held {s : State} {c : Instr} (h : outsideSpine c = false) :
    acts s c = (!s.shell.porstLow && !s.shell.blkRstLow && s.mode.power != .dark) := by
  cases c <;> simp [outsideSpine] at h <;> rfl

/-- Settles O52: such a command cannot act, and one that cannot act changes nothing. -/
theorem resetHolds : Obligations.ResetHolds := by
  intro s c hreset hheld hw
  obtain ⟨f, hf⟩ := exec_run c s
  have hidle : acts s c = false := by
    rw [acts_of_held hheld]
    rcases hreset with h | h <;> simp [h]
  exact hf.trans (run_idle hw hidle)

/-! ### The reset pins (R250, R253, R284, R398) -/

section
variable {s : State} {strap : Bool}

theorem porstAssert_of_high (hlow : s.shell.porstLow = false) :
    porstAssert s =
      { build := s.build, gran := s.gran, mode := { power := s.mode.power }, sec := { drawn := s.sec.drawn },
        ladder := { pwrCyc := s.ladder.pwrCyc }, supply := s.supply,
        shell := scanPath .locked
          { porstLow := true, blkRstLow := s.shell.blkRstLow, jtag := s.shell.jtag, included := s.shell.included,
            denied := s.shell.denied } } := by
  simp [porstAssert, hlow]

/-- With BLK_RST_N high the spine leaves reset with PORST_N. -/
theorem porstRelease_of_low (hlow : s.shell.porstLow = true) (hblk : s.shell.blkRstLow = false) :
    porstRelease strap s = spineRelease strap { s with
      shell := { s.shell with porstLow := false, keySeedReady := true }, ladder := {}, supply := supplyKept s,
      mode := { s.mode with power := .run }, sec := { s.sec with drawn := s.sec.drawn + 1, bootSalt := s.sec.drawn } } := by
  simp only [porstRelease, hlow, Bool.not_true, Bool.false_eq_true, if_false]
  exact if_neg (Bool.eq_false_iff.1 hblk)

theorem blkAssert_of_high (hpor : s.shell.porstLow = false) (hblk : s.shell.blkRstLow = false) :
    blkAssert s = { chipReset s with shell := { (chipReset s).shell with blkRstLow := true } } := by
  simp [blkAssert, hpor, hblk]

theorem blkRelease_of_low (hpor : s.shell.porstLow = false) (hblk : s.shell.blkRstLow = true) (hlit : s.mode.power ≠ .dark) :
    blkRelease strap s = spineRelease strap { s with shell := { s.shell with blkRstLow := false } } := by
  simp [blkRelease, hpor, hblk, hlit]

end

/-- Settles O6: each pin acts in every state, and moves where it is not yet at its new level. -/
theorem resetPins : Obligations.ResetPins := by
  refine ⟨fun s hlow => ?_, fun s strap hlow hblk => ?_, fun s hpor hblk => ?_, fun s strap hpor hblk hlit => ?_⟩
  · exact does_acts rfl rfl rfl (porstAssert_of_high (s := clearSent s) hlow)
  · exact does_acts rfl rfl rfl (porstRelease_of_low (s := clearSent s) hlow hblk)
  · exact does_acts rfl rfl rfl (blkAssert_of_high (s := clearSent s) hpor hblk)
  · exact does_acts rfl rfl rfl (blkRelease_of_low (s := clearSent s) hpor hblk hlit)

/-! ### The mode commands (R242, R250, R251, R254) -/

section
variable {s : State} {rq : Acc} {v : Word}

/-- A requested-level word `w` with the fields of the classes of `l` taken from `v`. -/
def storeFields (v : Word) (l : List Nat) (w : Word) : Word :=
  l.foldl (fun w c => setFld w (3 * c + 2) (3 * c) (fld v (3 * c + 2) (3 * c))) w

/-- A legal level is stored as it is; DECODE would store AUDIT with a demotion. -/
theorem levelField_legal (hdec : isDecode s = false) (c : Nat) {x : Nat} (hx : x < 6) :
    levelField rq s c x = { s with mode := { s.mode with levelReq := setFld s.mode.levelReq (3 * c + 2) (3 * c) x } } := by
  simp [levelField, hdec, Nat.not_le.2 hx]

/-- Legal levels of the classes of a list are stored one after the other. -/
theorem forEach_levelField_legal (hdec : isDecode s = false) (l : List Nat)
    (hl : ∀ c ∈ l, fld v (3 * c + 2) (3 * c) < 6) :
    forEach l s (fun s c => levelField rq s c (fld v (3 * c + 2) (3 * c))) =
      { s with mode := { s.mode with levelReq := storeFields v l s.mode.levelReq } } := by
  unfold forEach
  induction l generalizing s with
  | nil => rfl
  | cons c l ih =>
    obtain ⟨hc, hl⟩ := List.forall_mem_cons.1 hl
    rw [List.foldl_cons, levelField_legal hdec c hc]
    exact ih hdec hl

theorem levelReqWrite_legal (hsec : rq.sec = true) (hsafe : s.fault.safe = false) (hdec : isDecode s = false)
    (hv : ∀ c < 16, fld v (3 * c + 2) (3 * c) < 6) :
    levelReqWrite rq v s = { s with mode := { s.mode with levelReq := storeFields v (upto 16) s.mode.levelReq } } := by
  have hall : ∀ c ∈ upto 16, fld v (3 * c + 2) (3 * c) < 6 := fun c hc => hv c (by simpa [upto] using hc)
  simp only [levelReqWrite, secure, hsec, hsafe, Bool.false_eq_true, if_false, if_true]
  exact forEach_levelField_legal hdec (upto 16) hall

section
variable (hsafe : s.fault.safe = false) (hrec : recovery s < 3)
include hsafe hrec

theorem modeCmd_quiesce (hpower : s.mode.power = .run ∨ s.mode.power = .throttle) :
    modeCmd rq 1 s =
      { setPower s .quiesce with mode := { (setPower s .quiesce).mode with quiesceByStop := false } } := by
  rcases hpower with h | h <;> simp [modeCmd, hsafe, Nat.not_le.2 hrec, h]

theorem modeCmd_resume (hpower : s.mode.power = .quiesce) (hstop : s.stop.state = 0) : modeCmd rq 2 s = powerByLaw s := by
  simp [modeCmd, hsafe, Nat.not_le.2 hrec, hpower, hstop]

end

/-- The held SEQ consumes MODE_REFUSED. -/
theorem refusedAck_seq (hvalid : s.mode.refused.valid = true) (hv : fld v 15 0 = s.mode.refused.seq) :
    writeGlobal rq 0x1130 v s =
      { s with mode := { s.mode with refused := { s.mode.refused with valid := false } } } := by
  simp only [writeGlobal, ResidueChecksums.heldAck_seq hvalid hv]

end

/-- Settles O7: each command is a register write that is open to its requester, in a state in which it acts. -/
theorem modeCommands : Obligations.ModeCommands := by
  intro s rq hr hid
  refine ⟨fun v hsec hsafe hdec hv => ?_, fun hsafe hrec hpower => ?_, fun hsafe hrec hpower hstop => ?_,
    fun v hvalid hv => ?_⟩
  · exact writes_of rfl rfl hr hid (access_001108 _ _ hsec) (levelReqWrite_legal hsec (by simpa) (by simpa) hv)
  · exact writes_of rfl rfl hr hid (access_001120 ..) (modeCmd_quiesce (by simpa) (by simpa) (by simpa))
  · exact writes_of rfl rfl hr hid (access_001120 ..) (modeCmd_resume (by simpa) (by simpa) (by simpa) (by simpa))
  · exact writes_of rfl rfl hr hid (access_001130 ..) (refusedAck_seq (by simpa) (by simpa))

end Sys2Proof.ModeLattice
end

section
/-! The fault collector (09_fault_collection): its commands and timers, and who may write the FAULT block. -/
namespace Sys2Proof.FaultCollection

open Machine

/-! ### The FAULT block (R270) -/

section
variable {s : State} {rq : Acc} {off : Nat} (hlo : 0x010000 ≤ off) (hhi : off < 0x020000)
include hlo hhi

theorem mailChannel_faultBlock : mailChannel off = none := if_neg (by simp; omega)

theorem secureOnly_faultBlock : secureOnly off = (off != 0x010038) := by
  have hblock : off / 0x10000 = 1 := by omega
  have h1108 : (off == 0x1108) = false := beq_false_of_ne (by omega)
  have hladder : ¬ off < 0x1400 := by omega
  have h20030 : (off == 0x020030) = false := beq_false_of_ne (by omega)
  have h20040 : (off == 0x020040) = false := beq_false_of_ne (by omega)
  have hmemtest : ¬ 0x090100 ≤ off := by omega
  simp [secureOnly, hblock, h1108, hladder, h20030, h20040, hmemtest]

/-- Arming locks no register of the block. -/
theorem lockedNow_faultBlock : lockedNow s off = false := by
  have hpeer : (off == 0x060008) = false := beq_false_of_ne (by omega)
  have hchip : (off == 0x0C0008) = false := beq_false_of_ne (by omega)
  simp [lockedNow, hpeer, hchip]
  omega

/-- No riser carries the block. -/
theorem riserStops_faultBlock : riserStops s off = false := by
  have htiles : inTiles off = false := by simp [inTiles]; omega
  simp [riserStops, htiles]

/-- So only the secure attribute closes one of its registers, and only to a write. -/
theorem deniedAt_faultBlock (w : Bool) : deniedAt s rq off w = (w && (off != 0x010038 && !rq.sec)) := by
  simp only [deniedAt, mailChannel_faultBlock hlo hhi, secureOnly_faultBlock hlo hhi, lockedNow_faultBlock hlo hhi,
    Bool.or_false]

/-- What an access to a register of the block meets is that rule alone. -/
theorem accessCode_faultBlock (hreg : isReg s off = true) (w : Bool) :
    accessCode s rq off w = if w && (off != 0x010038 && !rq.sec) then 1 else 0 := by
  simp only [accessCode, hreg, riserStops_faultBlock hlo hhi, deniedAt_faultBlock hlo hhi, Bool.not_true,
    Bool.false_eq_true, if_false]

end

/-- Settles O53: what an access meets in the block, and what a KRP request then answers. -/
theorem faultBlockSecure : Obligations.FaultBlockSecure := by
  intro s rq off v hr hid hlo hhi hreg
  have hoff : off < 2 ^ 24 := by omega
  have hcode := accessCode_faultBlock (rq := rq) hlo hhi hreg
  refine ⟨fun hsec hne => ?_, fun hns => ?_, ?_⟩
  · exact Scope.krpRequest_refused hr hid hoff (.inl rfl) (by simp [hcode, hsec, hne])
  · exact Scope.krpRequest_write hr hid hoff (by rw [hcode]; simp [hns])
  · exact Scope.krpRequest_read hr hid hoff (by simp [hcode])

/-! ### Commands (R260, R263, R266, R271, R272) -/

section
variable {s : State} {rq : Acc} {v : Word}

section
variable (hsec : rq.sec = true)
include hsec

theorem pendingWrite_secure :
    pendingWrite rq v s =
      let hit := BitVec.ofNat 64 (fld v 47 16 * 2 ^ 16) &&& s.fault.pending
      (upto 16).foldl (fun b c => if bitOf hit (32 + c) then reactStop b c else b)
        { s with fault := { s.fault with pending := s.fault.pending ^^^ hit } } := if_pos hsec

theorem faultCmd_escalates (hcmd : fld v 63 60 = 1) (hok : escalateOk s (fld v 59 56) (fld v 15 0) = true) :
    faultCmd rq v s = post s (.rung ⟨fld v 59 56, cmdTarget s (fld v 59 56) (fld v 15 0)⟩) := by
  simp only [faultCmd, secure, hsec, hcmd, hok, beq_self_eq_true, Bool.and_true, if_true]

theorem injectCmd_known (hcode : codeKnown (fld v 15 0) = true) :
    injectCmd rq v s = raise s { code := fld v 15 0, access := 11, master := rq.id, addr := fld v 63 16 } := by
  simp only [injectCmd, secure, hsec, hcode, if_true]

end

/-! ### Timers and the copies (R258, R263, R268) -/

@[simp] theorem updReact_safe (c : Nat) (f : React → React) : (updReact s c f).fault.safe = s.fault.safe := rfl

/-- Outside the safe state the action of an expired timer is asked for. -/
theorem reactExpires_running {c : Nat} (hrun : (react s c).running = true) (hsafe : s.fault.safe = false) :
    reactExpires s c =
      let r := react s c
      post (latch (updReact s c fun r => { r with running := false, expired := true, remain := 0 }) 2 2)
        (.rung ⟨resolveRung r.action r.target, r.target⟩) := by
  simp only [reactExpires, askRung, hrun, latch_fault, updReact_safe, hsafe, Bool.not_true, Bool.false_eq_true, if_false]

/-- Three draws choose the copy, the word and its bits; none of them changes the collector. -/
theorem collectorParity_eq :
    collectorParity s =
      let m := Config.draw (s.sec.drawn + 2) % (2 ^ 72 - 1) + 1
      let word := Config.draw (s.sec.drawn + 1) % (collectorWords s.fault).length
      let flaw := Flaw.mk (Config.draw s.sec.drawn % 2 == 1) word (BitVec.ofNat 64 m) (m / 2 ^ 64)
      collectorCheck { s with
        sec := { s.sec with drawn := s.sec.drawn + 3 }
        fault := { s.fault with flaws := s.fault.flaws ++ [flaw] } } := by
  simp only [collectorParity, drawNext, modSec, modFault]

/-- The count of lost captures has 16 bits. -/
theorem captureLost_eq (c : Cap) :
    captureLost snapReg c s =
      let b := countCap s c
      let b := if fsev c.code = 0 then b
        else setPending { b with fault := { b.fault with histLost := min (b.fault.histLost + 1) 65535 } } c
      raiseI (faultRecord snapReg b c b.fault.seq) (fcode 15 3 1) 0 := rfl

end

/-- Settles O8: each command is a secure register write in a state in which it acts; the timers and the comparison of the
copies act on any running block. -/
theorem faultCommands : Obligations.FaultCommands := by
  refine ⟨fun s rq v hr ⟨hid, hsec⟩ => ?_, fun s rq v hr ⟨hid, hsec⟩ hvalid hv => ?_, fun s rq v hr ⟨hid, hsec⟩ hcmd hok => ?_,
    fun s rq v hr ⟨hid, hsec⟩ hcode => ?_, fun s c hr hc hrun hsafe => ?_, fun s hr => ?_, fun s c hr => ?_⟩
  · exact writes_of rfl rfl hr hid (access_010008 _ _ hsec) (pendingWrite_secure hsec)
  · exact writes_of rfl rfl hr hid (access_010028 _ _ hsec)
      (ResidueChecksums.firstAck_seq hsec (by simpa using hvalid) (by simpa using hv))
  · exact writes_of rfl rfl hr hid (access_010040 _ _ hsec) (faultCmd_escalates hsec hcmd (by simpa using hok))
  · exact writes_of rfl rfl hr hid (access_010048 _ _ hsec) (injectCmd_known hsec hcode)
  · exact does_of (g := fun a => reactExpires a c) rfl (decide_eq_true hc) hr (reactExpires_running hrun hsafe)
  · exact does_of rfl rfl hr collectorParity_eq
  · exact does_of rfl rfl hr (captureLost_eq c)

end Sys2Proof.FaultCollection
end

section
/-! Hangs and escalation (10_hangs_and_escalation): the rungs of the ladder, the global stop with its dump, and the suspect
search. -/
namespace Sys2Proof.HangsAndEscalation

open Machine

section
variable {s : State}

/-! ### Acknowledged rungs (R280, R282) -/

theorem engRstAckEff_requested {scope id : Nat} (hreq : s.ladder.engReq = some (scope, id)) :
    engRstAckEff scope id s = rungComplete s [] := by
  simp only [engRstAckEff, hreq, beq_self_eq_true, if_true]

theorem partRstAckEff_requested {p : Nat} (hreq : s.ladder.partReq = some p) (trained : List Nat) :
    partRstAckEff p trained s = rungComplete s trained := by
  simp only [partRstAckEff, hreq, beq_self_eq_true, if_true]

section
variable (trained : List Nat)

theorem rungComplete_context (hrung : s.ladder.rung = 1) :
    rungComplete s trained =
      rungOver (ladderRec (contextReset s (rungKey ⟨1, s.ladder.target⟩)) 3 (rungWords ⟨1, s.ladder.target⟩)) := by
  simp only [rungComplete, hrung]

theorem rungComplete_engine (hrung : s.ladder.rung = 2) :
    rungComplete s trained =
      rungOver (ladderRec (engineReset s (rungKey ⟨2, s.ladder.target⟩)) 3 (rungWords ⟨2, s.ladder.target⟩)) := by
  simp only [rungComplete, hrung]

theorem rungComplete_partition (hrung : s.ladder.rung = 3) :
    rungComplete s trained =
      rungOver (ladderRec (partitionReset s (rungKey ⟨3, s.ladder.target⟩) trained) 3 (rungWords ⟨3, s.ladder.target⟩)) := by
  simp only [rungComplete, hrung]

end

/-! ### Timeouts (R280, R282, R284, R401) -/

/-- Outside the safe state, and from CHIP on in it too, a timeout with its fault starts the next rung that holds the target. -/
theorem rungPromote_raise (h : s.fault.safe = false ∨ 4 ≤ s.ladder.rung) (c : Cap) :
    rungPromote (raise s c) =
      let t := fullTarget s s.ladder.target
      rungStart (raise s c) ⟨resolveRung (s.ladder.rung + 1) t, t⟩ := by
  have hstay : (s.fault.safe && decide (s.ladder.rung < 4)) = false := by
    rcases h with h | h
    · rw [h, Bool.false_and]
    · rw [decide_eq_false (Nat.not_lt.2 h), Bool.and_false]
  exact if_neg (Bool.eq_false_iff.1 hstay)

/-- CHIP and POWER hold every target. -/
theorem resolveRung_chip {r : Nat} (hr : 4 ≤ r) (t : Target) : resolveRung r t = r := by
  have h1 : (r == 1) = false := beq_false_of_ne (by omega)
  have h2 : (r == 2) = false := beq_false_of_ne (by omega)
  have h3 : (r == 3) = false := beq_false_of_ne (by omega)
  simp only [resolveRung, h1, h2, h3, Bool.false_and, Bool.false_eq_true, if_false]

theorem resetEngLate_requested {scope id : Nat} (hreq : s.ladder.engReq = some (scope, id)) (hsafe : s.fault.safe = false) :
    resetEngLate s =
      let t := fullTarget s s.ladder.target
      rungStart (raise s ⟨fcode 7 2 3, 8, 0xF000, scopePayload scope id, t.part, t.ctx, t.tile, []⟩)
        ⟨resolveRung (s.ladder.rung + 1) t, t⟩ := by
  simp only [resetEngLate, hreq]
  exact rungPromote_raise (.inl hsafe) _

theorem resetPartLate_requested {p : Nat} (hreq : s.ladder.partReq = some p) (hrung : s.ladder.rung = 3)
    (hsafe : s.fault.safe = false) :
    resetPartLate s =
      let t := s.ladder.target
      rungStart (raise s ⟨fcode 7 2 4, 8, 0xF001, p, t.part, t.ctx, t.tile, []⟩) ⟨4, fullTarget s t⟩ := by
  simp only [resetPartLate, hreq, rungPromote_raise (.inl hsafe), hrung, resolveRung_chip (Nat.le_refl 4)]

theorem resetChipLate_waiting (hrung : s.ladder.rung = 4) (hstage : s.ladder.stage = 2) (hblk : s.shell.blkRstLow = false) :
    resetChipLate s = rungStart (raiseI s (fcode 7 3 5) 5) ⟨5, fullTarget s s.ladder.target⟩ := by
  simp only [resetChipLate, raiseI, rungPromote_raise (.inr (Nat.le_of_eq hrung.symm)), hrung, hstage, hblk, beq_self_eq_true,
    Bool.not_false, Bool.and_true, if_true, resolveRung_chip (Nat.le_succ 4)]

theorem rstNotTaken_engine {scope id : Nat} (hreq : s.ladder.engReq = some (scope, id)) :
    rstNotTaken 0 s = raisePort s fcPortTimeout 15 0 (scopePayload scope id) := by
  simp only [rstNotTaken, hreq, if_true]

theorem rstNotTaken_partition {p : Nat} (heng : s.ladder.engReq = none) (hreq : s.ladder.partReq = some p) :
    rstNotTaken 1 s = raisePort s fcPortTimeout 15 1 p := by
  simp only [rstNotTaken, heng, hreq, if_true]

/-! ### The crash dump and the power cycle (R285, R294) -/

/-- With no image left to write, the end of a rung's dump leaves none out of the index. -/
theorem crashDumpEnd_written (hstate : s.stop.state = 2) (hcrash : s.stop.crash = true) (hcur : s.stop.cur = none)
    (hdue : s.stop.due = []) (cut : Bool) : crashDumpEnd cut s = rungRequests (stopEnds s) := by
  simp [crashDumpEnd, hstate, hcrash, hcur, hdue, forEach]

theorem powerCycleAckEff_waited (hwait : s.ladder.trayWait = true) : powerCycleAckEff s = pwrCycle s := if_pos hwait

theorem trayLate_waited (hwait : s.ladder.trayWait = true) : trayLate s = pwrCycle s := if_pos hwait

end

/-- Settles O9: each acknowledgement and timeout meets the request it is about, so it completes or promotes the rung. -/
theorem ladderSteps : Obligations.LadderSteps := by
  refine ⟨fun s ctx hr hreq hrung => ?_, fun s n hr hreq hrung => ?_, fun s p cs hr hp hcs hreq hrung => ?_,
    fun s scope id hr hreq hsafe => ?_, fun s p hr hreq hrung hsafe => ?_, fun s hr hrung hstage => ?_,
    fun s scope id hr hreq => ?_, fun s p hr heng hreq => ?_, fun s cut hr hstate hcrash hcur hdue => ?_,
    fun s hr hwait => ?_, fun s hr hwait => ?_⟩
  · exact does_of rfl rfl hr
      ((engRstAckEff_requested (s := clearSent s) hreq).trans (rungComplete_context (s := clearSent s) [] hrung))
  · exact does_of rfl rfl hr
      ((engRstAckEff_requested (s := clearSent s) hreq).trans (rungComplete_engine (s := clearSent s) [] hrung))
  · have hw : wellFormed s.build (.partRstAck p cs) = true := by simpa [wellFormed, hp] using hcs
    exact does_of rfl hw hr
      ((partRstAckEff_requested (s := clearSent s) hreq cs).trans (rungComplete_partition (s := clearSent s) cs hrung))
  · exact does_of rfl rfl hr (resetEngLate_requested (s := clearSent s) hreq hsafe)
  · exact does_of rfl rfl hr (resetPartLate_requested (s := clearSent s) hreq hrung hsafe)
  · exact does_of rfl rfl hr (resetChipLate_waiting (s := clearSent s) hrung hstage hr.2.1)
  · exact does_of rfl rfl hr (rstNotTaken_engine (s := clearSent s) hreq)
  · exact does_of rfl rfl hr (rstNotTaken_partition (s := clearSent s) heng hreq)
  · exact does_of rfl rfl hr (crashDumpEnd_written (s := clearSent s) hstate hcrash hcur hdue cut)
  · exact does_of rfl rfl hr (powerCycleAckEff_waited (s := clearSent s) hwait)
  · exact does_of rfl rfl hr (trayLate_waited (s := clearSent s) hwait)

section
variable {s : State} {rq : Acc} {v : Word}

/-! ### The global stop and its dump (R291–R293) -/

theorem stopTimeout_quiescing (hstate : s.stop.state = 1) : stopTimeout s = dumpBegins false s := by
  simp only [stopTimeout, hstate, beq_self_eq_true, if_true]

theorem dumpWritten_all (hstate : s.stop.state = 2) (hcur : s.stop.cur = none) (hcrash : s.stop.crash = false)
    (hinhibit : s.supply.inhibit = false) : dumpWritten s = stopEnds s := by
  simp [dumpWritten, hstate, hcur, hcrash, hinhibit]

section
variable (hsec : rq.sec = true)
include hsec

theorem ladderStop_starts (hstate : s.stop.state = 0) (hsafe : s.fault.safe = false) :
    ladderStop rq s =
      let b := enterQuiesce { s with stop := { state := 1, base := s.stop.base, size := s.stop.size } } true
      if isMaster b then casSend b 8 0xFF [] else b := by
  have hfree : (s.stop.state != 0 || s.fault.safe) = false := by simp [hstate, hsafe]
  simp only [ladderStop, stopStart, secure, hsec, hfree, Bool.false_eq_true, if_true, if_false]
  rfl

/-! ### The held records (R297) -/

theorem stopAck_seq (hvalid : s.stopReg.valid = true) (hv : fld v 15 0 = s.stopReg.seq) :
    stopAck rq v s = { s with stopReg := { s.stopReg with valid := false } } := by
  simp only [stopAck, secure, hsec, if_true, ResidueChecksums.heldAck_seq hvalid hv]

theorem hangAck_seq (hvalid : s.hangReg.valid = true) (hv : fld v 15 0 = s.hangReg.seq) :
    hangAck rq v s = { s with hangReg := { s.hangReg with valid := false } } := by
  simp only [hangAck, secure, hsec, if_true, ResidueChecksums.heldAck_seq hvalid hv]

/-! ### The suspect search (R286–R288, R296) -/

/-- A suspect is replayed where it has not been, or was ABANDONED; its result is open again. -/
theorem searchReplay_open {x : Suspect} (hstate : s.search.state = 1)
    (hx : s.search.hung.suspects[fld v 3 0]? = some x) (hopen : x.result = 0 ∨ x.result = 4) :
    searchReplay rq v s =
      { s with search := { s.search with
        state := 2, current := fld v 3 0, mismatch := false
        hung := { s.search.hung with suspects := s.search.hung.suspects.set (fld v 3 0) { x with result := 0 } } } } := by
  simp [searchReplay, suspectResult, modSearch, secure, hsec, hstate, hx, hopen]

section
variable (hstate : s.search.state = 2)
include hstate

theorem searchDone_matched (hmatch : s.search.mismatch = false) : searchDone rq s = suspectClean s := by
  simp [searchDone, secure, hsec, hstate, hmatch]

/-- The result waits for an arbitration that is open on the hung tile. -/
theorem searchDone_arbitrated (hmis : s.search.mismatch = true) (harb : (tile s s.search.hung.tile).arb.state ≠ .idle) :
    searchDone rq s = { s with search := { s.search with state := 3 } } := by
  simp [searchDone, modSearch, secure, hsec, hstate, hmis, harb]

end

theorem searchEnd_abandons (hstate : s.search.state ≠ 0) :
    searchEnd rq s = post { s with search := { s.search with state := 0, result := 3, mismatch := false } } .search := by
  simp only [searchEnd, secure, hsec, hstate, if_true, if_false]
  rfl

end

end

/-- Settles O10: STOP_TIMEOUT and DUMP_WRITTEN act on any running block; the others are secure register writes, each in a
state in which it acts. -/
theorem stopAndSearch : Obligations.StopAndSearch := by
  refine ⟨fun s rq hr ⟨hid, hsec⟩ hstate hsafe => ?_, fun s hr hstate => ?_, fun s hr hstate hcur hcrash hinhibit => ?_,
    fun s rq v hr ⟨hid, hsec⟩ hvalid hv => ?_, fun s rq v hr ⟨hid, hsec⟩ hvalid hv => ?_,
    fun s rq v x hr ⟨hid, hsec⟩ hstate hx hopen => ?_, fun s rq hr ⟨hid, hsec⟩ hstate hmatch => ?_,
    fun s rq hr ⟨hid, hsec⟩ hstate hmis harb => ?_, fun s rq hr ⟨hid, hsec⟩ hstate => ?_⟩
  · exact writes_of rfl rfl hr hid (access_001208 _ _ hsec) (ladderStop_starts hsec (by simpa) (by simpa))
  · exact does_of rfl rfl hr (stopTimeout_quiescing (s := clearSent s) hstate)
  · exact does_of rfl rfl hr (dumpWritten_all (s := clearSent s) hstate hcur hcrash hinhibit)
  · exact writes_of rfl rfl hr hid (access_001240 _ _ hsec) (stopAck_seq hsec (by simpa) (by simpa))
  · exact writes_of rfl rfl hr hid (access_001228 _ _ hsec) (hangAck_seq hsec (by simpa) (by simpa))
  · exact writes_of rfl rfl hr hid (access_001208 _ _ hsec) (searchReplay_open hsec (by simpa) (by simpa) hopen)
  · exact writes_of rfl rfl hr hid (access_001208 _ _ hsec) (searchDone_matched hsec (by simpa) (by simpa))
  · exact writes_of rfl rfl hr hid (access_001208 _ _ hsec)
      (searchDone_arbitrated hsec (by simpa) (by simpa) (by simpa [tile] using harb))
  · exact writes_of rfl rfl hr hid (access_001208 _ _ hsec) (searchEnd_abandons hsec (by simpa))

end Sys2Proof.HangsAndEscalation
end

section
/-! The event recorder, the granary and the DMA channels (11_event_recorder_and_granary): the recorder's writer, its restart
scan and its commands; the descriptors, requests and commands of a channel. -/
namespace Sys2Proof.EventRecorderAndGranary

open Machine

/-! ### The code of a command word (R310)

A recorder command's word carries its code in [63:60]; putting it there leaves every field below alone. -/

section
variable {w : Word} {c hi lo : Nat}

/-- A field depends on the bits up to its highest one only. -/
theorem fld_eq_mod_div (h : lo ≤ hi) : fld w hi lo = w.toNat % 2 ^ (hi + 1) / 2 ^ lo := by
  have hsplit : 2 ^ (hi + 1) = 2 ^ lo * 2 ^ (hi - lo + 1) := by rw [← Nat.pow_add]; congr 1; omega
  rw [fld, hsplit, Nat.mod_mul_right_div_self]

theorem toNat_setFld_code : (setFld w 63 60 c).toNat = w.toNat % 2 ^ 60 + 2 ^ 60 * (c % 16) := by
  simp only [setFld, fld, BitVec.toNat_ofNat]
  omega

theorem fld_setFld_code : fld (setFld w 63 60 c) 63 60 = c % 16 := by
  simp only [fld, toNat_setFld_code]
  omega

theorem fld_setFld_below (h : lo ≤ hi) (h60 : hi < 60) : fld (setFld w 63 60 c) hi lo = fld w hi lo := by
  obtain ⟨k, hk⟩ := Nat.pow_dvd_pow 2 (show hi + 1 ≤ 60 from h60)
  rw [fld_eq_mod_div h, fld_eq_mod_div h, toNat_setFld_code, hk, Nat.mul_assoc, Nat.add_mul_mod_self_left,
    Nat.mod_mul_right_mod]

end

/-! ### The writer and the restart scan (R306, R308) -/

section
variable {s : State} {r : Rec} {last first lo fo : Bool}

section
variable (hw : writable s = some r) (hlo : (s.rcd.lastOk || last) = lo)
  (hfo : (s.rcd.firstOk || first || !(inFirst s r.seq)) = fo)
include hw hlo hfo

theorem emramDone_again (hdiffers : (lo && fo) = false) (hretry : s.rcd.retry = false) :
    emramDone last first s = modRcd s fun d => { d with retry := true, lastOk := lo, firstOk := fo } := by
  simp only [emramDone, hw, hlo, hfo, hdiffers, hretry, Bool.not_false, Bool.and_self, if_true]

/-- Where both slots read back as written, or a slot differs again, the record leaves the queue. -/
theorem emramDone_leaves (hend : (lo && fo) = true ∨ s.rcd.retry = true) :
    emramDone last first s =
      let ws := recWords s r (inFirst s r.seq)
      let b := putLast s r.seq (if lo then ws else tornSlot (lastAt r.seq))
      let b := popRec (putFirst b r.seq (if fo then ws else tornSlot (firstAt b r.seq))) (nthW ws 14)
      let b := if lo then b else granaryFails (lastAt r.seq) b
      if fo then b else granaryFails (firstAt b r.seq) b := by
  have hnot : (!(lo && fo) && !s.rcd.retry) = false := by rcases hend with h | h <;> simp [h]
  simp only [emramDone, hw, hlo, hfo, hnot, Bool.false_eq_true, if_false]

end

@[simp] theorem mailBoot_rcd (n : Nat) : (mailBoot s n).rcd = s.rcd := rfl

theorem scanDone_ready (hready : s.rcd.ready = false) (hkey : s.sec.grn.isSome = true) : (scanDone s).rcd.ready = true := by
  have hruns : (s.rcd.ready || s.sec.grn.isNone) = false := by simp [hready, ← Option.not_isSome, hkey]
  simp only [scanDone, hruns, Bool.false_eq_true, if_false, mailBoot_rcd, cnt_rcd, apply_ite State.rcd, latch_rcd, modRcd_rcd,
    ite_self]

end

/-! ### The commands of the recorder (R310) -/

section
variable {s : State} {rq : Acc} {v : Word} {cmd area : Nat}

/-- A recorder command runs over an area: what `recCmd` writes when it takes one. -/
def cmdStarts (s : State) (cmd area : Nat) : State :=
  modRcd s fun d =>
    { d with
      cmdBusy := true, cmdResult := 0, cmd := cmd, cmdArea := area, cmdBad := 0, cmdBreaks := 0, cmdMoved := cmd == 3,
      verWords := [], cmdToken := if cmd == 1 then areaGen s area % 2 ^ 16 else 0 }

section
variable (hsec : rq.sec = true) (hidle : s.rcd.cmdBusy = false) (harea : fld v 59 56 = area) (hle : area ≤ 3)
include hsec hidle harea hle

/-- ARCHIVE and VERIFY start, and give channel 7 a descriptor. -/
theorem recCmd_moves (hcmd : cmd = 1 ∨ cmd = 2) :
    recCmd rq (setFld v 63 60 cmd) s = archivePost (cmdStarts s cmd area) area (cmd == 2) := by
  have hfld : fld (setFld v 63 60 cmd) 59 56 = area := (fld_setFld_below (by decide) (by decide)).trans harea
  have hcode : fld (setFld v 63 60 cmd) 63 60 = cmd := fld_setFld_code.trans (by omega)
  have hin : decide (area > 3) = false := decide_eq_false (Nat.not_lt.2 hle)
  simp only [recCmd, secure, hsec, hfld, hcode, hidle, hin, if_true, Bool.false_eq_true, if_false]
  rcases hcmd with rfl | rfl <;> rfl

/-- CLEAR starts where its token is the one archived last and the area has not been written since. -/
theorem recCmd_clears (hlast : area ≠ 2) (hgen : fld v 15 0 = areaGen s area % 2 ^ 16)
    (htoken : sget 0x10000 s.rcd.tokens area = fld v 15 0) : recCmd rq (setFld v 63 60 3) s = cmdStarts s 3 area := by
  have hfld : fld (setFld v 63 60 3) 59 56 = area := (fld_setFld_below (by decide) (by decide)).trans harea
  have harg : fld (setFld v 63 60 3) 15 0 = fld v 15 0 := fld_setFld_below (by decide) (by decide)
  have hcode : fld (setFld v 63 60 3) 63 60 = 3 := fld_setFld_code
  have hin : decide (area > 3) = false := decide_eq_false (Nat.not_lt.2 hle)
  have hok : (area != 2 && sget 0x10000 s.rcd.tokens area == fld v 15 0 && fld v 15 0 == areaGen s area % 2 ^ 16) = true := by
    simp [hlast, htoken, hgen]
  simp only [recCmd, secure, hsec, hfld, harg, hcode, hidle, hin, hok, if_true, Bool.false_eq_true, if_false]
  rfl

end

theorem recCmdDone_archived (hbusy : s.rcd.cmdBusy = true) (hmoved : s.rcd.cmdMoved = true) (hcmd : s.rcd.cmd = 1) :
    recCmdDone s = modRcd s fun d =>
      { d with cmdBusy := false, cmdResult := 1, verWords := [], tokens := sset 0x10000 d.tokens d.cmdArea d.cmdToken } := by
  simp only [recCmdDone, hbusy, hmoved, hcmd]
  rfl

end

/-- Settles O32: the late detail, the writer and the scan act on any running block; RD_SEL and the commands are register
writes, each in a state in which it acts. -/
theorem recorder : Obligations.Recorder := by
  intro s hr
  refine ⟨fun n => ?_, fun r hw k => ⟨fun hdiffers hretry => ?_, fun hend => ?_⟩, fun hready hkey => ⟨?_, ?_⟩,
    fun v rq hid => ?_, fun v rq area ⟨hid, hsec⟩ hidle harea hle => ⟨?_, ?_, fun hlast hgen htoken => ?_⟩,
    fun hbusy hmoved hcmd => ?_⟩
  · exact does_of (g := fun a => setDetail a n [] true) rfl rfl hr rfl
  · exact does_of rfl rfl hr (emramDone_again (s := clearSent s) hw rfl rfl hdiffers hretry)
  · exact does_of rfl rfl hr (emramDone_leaves (s := clearSent s) hw rfl rfl hend)
  · exact does_of rfl rfl hr rfl
  · exact scanDone_ready hready hkey
  · exact writes_of rfl rfl hr hid (access_020048 ..) rfl
  · refine writes_of rfl rfl hr hid (access_020030 _ _ hsec) ((recCmd_moves hsec (by simpa) harea hle (.inl rfl)).trans ?_)
    simp [cmdStarts]
  · refine writes_of rfl rfl hr hid (access_020030 _ _ hsec) ((recCmd_moves hsec (by simpa) harea hle (.inr rfl)).trans ?_)
    simp [cmdStarts]
  · refine writes_of rfl rfl hr hid (access_020030 _ _ hsec)
      ((recCmd_clears hsec (by simpa) harea hle hlast (by simpa) (by simpa)).trans ?_)
    simp [cmdStarts]
  · exact does_of rfl rfl hr (recCmdDone_archived (s := clearSent s) hbusy hmoved hcmd)

/-! ### Descriptors (R313, R314) -/

section
variable {s : State} {c : Nat} {src dst ctl : Word} {work : DmaWork} {buf : List Byte}

theorem dmaPost_queued (hlegal : descLegal s c src dst ctl = true) (hroom : dmaRoom s c = true) :
    dmaPost c src dst ctl work buf s =
      dmaGo c (updChan s c fun ch => { ch with queue := ch.queue ++ [{ src, dst, ctl, work, buf }] }) := by
  simp only [dmaPost, hlegal, hroom, Bool.not_true, Bool.false_eq_true, if_false, if_true]

theorem dmaPost_waits (hlegal : descLegal s c src dst ctl = true) (hroom : dmaRoom s c = false) :
    dmaPost c src dst ctl work buf s =
      updChan s c fun ch => { ch with waiting := ch.waiting ++ [{ src, dst, ctl, work, buf }] } := by
  simp only [dmaPost, hlegal, hroom, Bool.not_true, Bool.false_eq_true, if_false]

/-- A refused descriptor of an owner that is no sequencer sets no latch. -/
theorem dmaPost_refused (hillegal : descLegal s c src dst ctl = false) (howner : dOwner ctl < 7) :
    dmaPost c src dst ctl work buf s =
      post (raiseI s fcDesc (dOwner ctl)) (.dmaDone c { src, dst, ctl, work, buf, state := 4 }) := by
  have hseq : decide (7 ≤ dOwner ctl) = false := decide_eq_false (Nat.not_le.2 howner)
  simp only [dmaPost, hillegal, hseq, Bool.not_false, Bool.false_and, Bool.false_eq_true, if_false, if_true]

end

/-! ### Responses and timeouts (R315, R390) -/

section
variable {s : State} {c : Nat} {r : MemReq} {bs : List Byte}

theorem memAnswer_unawaited {n id e : Nat} (htaker : memTaker s n id = none) :
    memAnswer n id e bs s = raisePort s fcPortRange 7 n (memPayload id e bs) := by
  simp only [memAnswer, htaker]

section
variable (hreq : (chan s c).req = some r) (hown : mtOwns s c = false)
include hreq hown

/-- The response to a channel's request that is not the memory test's goes to the channel's descriptor. -/
theorem memAnswer_awaited (htaker : memTaker s r.port r.id = some c) (e : Nat) :
    memAnswer r.port r.id e bs s = memTaken c e bs r s := by
  simp only [memAnswer, htaker, hreq, hown, beq_self_eq_true, Bool.and_true, Bool.not_true, Bool.false_eq_true, if_false]

theorem memNoAnswer_fails (hcut : (chan s c).cut = []) :
    memNoAnswer c s = dmaGo c (memFails (raiseMem s (fcode 8 2 2) c r.addr r.write) c r) := by
  simp only [memNoAnswer, memTimeout, hown, hcut, hreq, Bool.false_and, Bool.false_eq_true, if_false]

theorem memNotTaken_fails : memNotTaken c s = dmaGo c (memFails (raisePort s fcPortTimeout 7 r.port r.addr) c r) := by
  simp only [memNotTaken, memReqTimeout, hown, hreq]

end

/-- The oldest request without a response is one that an ended descriptor has left: it goes alone. -/
theorem memNoAnswer_left {q : MemReq} {rest : List MemReq} (hcut : (chan s c).cut = q :: rest) (hc : c ≠ 5) :
    memNoAnswer c s = raiseMem (updChan s c fun ch => { ch with cut := rest }) (fcode 8 2 2) c q.addr q.write := by
  have h5 : (c == 5) = false := beq_false_of_ne hc
  simp only [memNoAnswer, memTimeout, hcut, h5, List.isEmpty_cons, Bool.and_false, Bool.false_eq_true, if_false]

theorem memTaken_error {e : Nat} (he : e ≠ 0) :
    memTaken c e bs r s = dmaGo c (memFails (raiseMem s (fcode 8 2 3) c r.addr r.write) c r) := by
  simp only [memTaken, bne_iff_ne.2 he, if_true]

theorem memTaken_read (hwait : r.wait = .read) :
    memTaken c 0 bs r s =
      dmaGo c (updChan (updChan s c fun ch => { ch with req := none }) c fun ch =>
        { ch with granule := (bs ++ List.replicate 64 0).take 64 }) := by
  simp only [memTaken, hwait, bne_self_eq_false, Bool.false_eq_true, if_false]

theorem memTaken_write (hwait : r.wait = .write) :
    memTaken c 0 bs r s = dmaGo c (granuleDone (updChan s c fun ch => { ch with req := none }) c) := by
  simp only [memTaken, hwait, bne_self_eq_false, Bool.false_eq_true, if_false]

theorem memTaken_walk {level : Nat} {write : Bool} (hwait : r.wait = .walk level write) :
    memTaken c 0 bs r s =
      let b := updChan s c fun ch => { ch with req := none }
      dmaGo c (walkEntry b c level write
        (nthW (bytesWords bs) (((chan b c).table_ + 8 * levelIndex (walkFor (chan b c)) level) % 64 / 8))) := by
  simp only [memTaken, hwait, bne_self_eq_false, Bool.false_eq_true, if_false]

end

/-! ### DMA_CMD and DMA_XLATE_INV (R320, R323, R327) -/

section
variable {s : State} {rq : Acc} {c : Nat} (hsec : rq.sec = true)
include hsec

section
variable (hbusy : (chan s c).busy = true) (hpaused : (chan s c).cur.state = 2)
include hbusy hpaused

theorem dmaResume_paused :
    dmaResume rq c s = dmaGo c (updChan s c fun ch => { ch with cur := { ch.cur with state := 1, cause := 0 } }) := by
  simp only [dmaResume, secure, hsec, hbusy, hpaused, beq_self_eq_true, Bool.and_true, if_true]

theorem dmaAbandon_paused : dmaAbandon rq c s = dmaGo c (dmaEnds s c 4) := by
  simp only [dmaAbandon, dmaAbandonCh, secure, hsec, hbusy, hpaused, beq_self_eq_true, Bool.and_true, if_true]

end

section
variable (hidle : s.dma.invBusy = false)
include hidle

theorem invAll_idle : invAll rq s = xlateInv s (fun _ => false) (fun _ => false) := by
  simp only [invAll, secure, hsec, hidle, Bool.false_eq_true, if_false, if_true]

theorem invRange_idle {v : Word} (hsize : fld v 59 58 ≠ 3) :
    invRange rq v s =
      let pb := pageBits (fld v 59 58)
      let page := fld v 56 12 * 4096 / 2 ^ pb
      xlateInv s (fun l => !(pagesMeet l.base (pageBits l.size) page pb))
        (fun d => !(pagesMeet d.base (levelShift d.level + 9) page pb)) := by
  have h3 : (fld v 59 58 == 3) = false := beq_false_of_ne hsize
  simp only [invRange, secure, hsec, hidle, h3, Bool.or_false, Bool.false_eq_true, if_false, if_true]

end

end

/-- Settles O33: posts, responses and timeouts act on any running block; DMA_CMD and DMA_XLATE_INV are secure register writes,
each in a state in which it acts. -/
theorem dmaChannels : Obligations.DmaChannels := by
  intro s c hr hc
  have hch : decide (c < 8) = true := decide_eq_true hc
  refine ⟨fun src dst ctl w buf hlegal hroom => ?_, fun src dst ctl w buf hlegal hroom => ?_,
    fun src dst ctl w buf hillegal howner => ?_,
    fun r hreq hown => ⟨fun hport htaker => ?_, fun hcut => ?_, ?_⟩, fun q rest hcut h5 => ?_,
    fun n id e bs hport htaker => ?_, fun rq ⟨hid, hsec⟩ hbusy hpaused => ⟨?_, ?_⟩,
    fun rq ⟨hid, hsec⟩ hidle => ⟨?_, fun v hsize => ?_⟩⟩
  · exact does_of rfl hch hr (dmaPost_queued (s := clearSent s) hlegal hroom)
  · exact does_of rfl hch hr (dmaPost_waits (s := clearSent s) hlegal hroom)
  · exact does_of rfl hch hr (dmaPost_refused (s := clearSent s) hillegal howner)
  · have hresponse (e bs) : memAnswer r.port r.id e bs (clearSent s) = memTaken c e bs r (clearSent s) :=
      memAnswer_awaited (s := clearSent s) hreq hown htaker e
    have hmem : decide (r.port < s.build.memPorts) = true := decide_eq_true hport
    exact ⟨fun bs hwait => does_of rfl hmem hr ((hresponse 0 bs).trans (memTaken_read hwait)),
      fun bs hwait => does_of rfl hmem hr ((hresponse 0 bs).trans (memTaken_write hwait)),
      fun level write bs hwait => does_of rfl hmem hr ((hresponse 0 bs).trans (memTaken_walk hwait)),
      fun e bs he => does_of rfl hmem hr ((hresponse e bs).trans (memTaken_error he))⟩
  · exact does_of rfl hch hr (memNoAnswer_fails (s := clearSent s) hreq hown hcut)
  · exact does_of rfl hch hr (memNotTaken_fails (s := clearSent s) hreq hown)
  · exact does_of rfl hch hr (memNoAnswer_left (s := clearSent s) hcut h5)
  · exact does_of rfl (decide_eq_true hport) hr (memAnswer_unawaited (s := clearSent s) htaker)
  · exact writes_of rfl hch hr hid (access_070020 _ _ hsec) (dmaResume_paused hsec (by simpa) (by simpa))
  · exact writes_of rfl hch hr hid (access_070020 _ _ hsec) (dmaAbandon_paused hsec (by simpa) (by simpa))
  · exact writes_of rfl rfl hr hid (access_070018 _ _ hsec) (invAll_idle hsec (by simpa))
  · exact writes_of rfl rfl hr hid (access_070018 _ _ hsec) (invRange_idle hsec (by simpa) hsize)

end Sys2Proof.EventRecorderAndGranary
end

section
/-! The structure bit stream (13_structure_bitstream): the commands of the configuration loader, the words of a load, and the
ends of its checks. -/
namespace Sys2Proof.StructureBitstream

open Machine

section
variable {s : State} {rq : Acc}

/-! ### The registers of the loader (R335, R336, R345–R347) -/

theorem configEventAck_seq {v : Word} (hvalid : s.loader.event.valid = true) (hv : fld v 15 0 = s.loader.event.seq) :
    writeConfig rq 0x080038 v s = modLd s fun l => { l with event := { l.event with valid := false } } := by
  simp only [writeConfig, modLd, ResidueChecksums.heldAck_seq hvalid hv]

section
variable (hsec : rq.sec = true) (hsafe : s.fault.safe = false)
include hsec hsafe

section
variable (hidle : s.loader.busy = false)
include hidle

/-- A secure command outside the safe state, at a level that allows it and with no load under way, comes to its own check. -/
theorem cfgCmd_acts {starts : Bool} (hlevel : starts = true → recovery s < 3) (r : Nat) (g : State → State) :
    cfgCmd rq starts r g s = g s := by
  have hstarts : (starts && decide (recovery s ≥ 3)) = false := by simpa using hlevel
  simp only [cfgCmd, secure, hsec, hsafe, hstarts, hidle, Bool.false_eq_true, if_false, if_true]

theorem cfgBegin_closed (hlevel : recovery s < 3) (hclosed : s.loader.session = 0) :
    cfgBegin rq s = modLd s fun l =>
      { l with session := 1, busy := true, hdrWords := [], received := 0, expected := 0, loadRegion := 0 } :=
  (cfgCmd_acts hsec hsafe hidle (fun _ => hlevel) ..).trans (if_pos (beq_iff_eq.2 hclosed))

theorem cfgReload_allowed {r : Nat} {e : TableEntry} (hlevel : recovery s < 3) (hentry : entryOf (loadTable s) r = some e)
    (hbuilt : (regionNumbers s.build).contains r = true) (hsession : s.loader.session = 0 ∨ s.loader.session = 3)
    (hstate : (region s r).state = .fenced ∨ (region s r).state = .active ∧ s.loader.session = 3)
    (hallowed : reloadAllowed s r = true) :
    cfgReload rq r s =
      let b := modLd s fun l =>
        { l with
          busy := true, loadRegion := r, received := 0, expected := e.length / 8, reloaded := l.reloaded || l.session == 3,
          mixed := l.mixed || (s.loader.session == 3 && (region s r).digest != e.digest) }
      let b := updRegion (setRegion b r .draining) r fun g => { g with staged := [] }
      if r = 7 then post b (.regionDown 7) else if r = 1 ∨ 16 ≤ r then b else enterLoading b r := by
  have hshut : (s.loader.session == 1 || s.loader.session == 2) = false := by rcases hsession with h | h <;> simp [h]
  have hopen : ((region s r).state == .fenced || ((region s r).state == .active && s.loader.session == 3)) = true := by
    rcases hstate with h | ⟨h, h3⟩ <;> simp [*]
  refine (cfgCmd_acts hsec hsafe hidle (fun _ => hlevel) ..).trans ?_
  simp only [hentry, hbuilt, Bool.or_assoc, hshut, hopen, hallowed, Bool.not_true, Bool.or_self, Bool.false_eq_true, if_false]
  simp only [beq_iff_eq, Bool.or_eq_true, decide_eq_true_eq, ge_iff_le]

theorem cfgEnd_loaded (hopen : s.loader.session = 3) (hall : toLoad s = 0) :
    cfgEnd rq s = cfgEvent (modLd s fun l =>
      { l with active := l.pend, pend := none, session := 0, mixed := false, reloaded := false }) 7 0 :=
  (cfgCmd_acts (starts := false) hsec hsafe hidle nofun ..).trans (if_pos (by simp only [hopen, hall, beq_self_eq_true, Bool.and_self]))

theorem cfgAbort_unchanged (hopen : s.loader.session = 3) (hnone : s.loader.reloaded = false) :
    cfgAbort rq s = modLd s fun l => { l with pend := none, session := 0 } :=
  (cfgCmd_acts (starts := false) hsec hsafe hidle nofun ..).trans (if_pos (by simp only [hopen, hnone, beq_self_eq_true, Bool.not_false, Bool.and_self]))

end

section
variable {w : Word} (hbusy : s.loader.busy = true)
include hbusy

theorem loadData_header (hsession : s.loader.session = 1) : loadData rq w s = headerWord s w := by
  simp only [loadData, secure, hsec, hsafe, hbusy, hsession, beq_self_eq_true, Bool.and_self, Bool.false_eq_true, if_false, if_true]

theorem loadData_region (hsession : s.loader.session ≠ 1) (hstate : (region s s.loader.loadRegion).state = .loading) :
    loadData rq w s = regionWord s w := by
  simp only [loadData, secure, hsec, hsafe, hbusy, hstate, beq_false_of_ne hsession, beq_self_eq_true, Bool.false_and,
    Bool.and_self, Bool.false_eq_true, if_false, if_true]

end

end

/-! ### The checks and time limits of a load (R333, R336, R492) -/

section
variable (hsafe : s.fault.safe = false)
include hsafe

section
variable {sigOk : Bool} {fuse : Nat} (hsession : s.loader.session = 2)
include hsession

theorem headerDone_rejects {code off : Nat} (hcheck : headerCheck s s.loader.hdrWords sigOk fuse = some (code, off)) :
    headerDone sigOk fuse s = cfgEvent (raiseR (modLd s fun l => { l with session := 0, busy := false }) code 0 off) 6 0 := by
  simp only [headerDone, hsession, hsafe, hcheck, beq_self_eq_true, Bool.not_false, Bool.and_self, if_true]

theorem headerDone_opens (hcheck : headerCheck s s.loader.hdrWords sigOk fuse = none) :
    headerDone sigOk fuse s =
      let ws := s.loader.hdrWords
      let hdr := ws.take (fld (nthW ws 1) 63 32 / 8)
      let t : Table := ⟨headerEntries ws, nthW ws 4, Config.sha3_384 (wordsBytes hdr)⟩
      cfgEvent (modLd s fun l => { l with session := 3, busy := false, pend := some t, reloaded := false }) 5 0 := by
  simp only [headerDone, hsession, hsafe, hcheck, beq_self_eq_true, Bool.not_false, Bool.and_self, if_true]

end

theorem loadTimeout_region (hbusy : s.loader.busy = true) (hsession : s.loader.session ≠ 1)
    (hstate : (region s s.loader.loadRegion).state = .loading) :
    loadTimeout s = loadFails s fcLoadTimeout (loadOffset s + 8 * s.loader.received) 3 := by
  simp only [loadTimeout, hsafe, hbusy, hstate, beq_false_of_ne hsession, beq_self_eq_true, Bool.false_and, Bool.and_self,
    Bool.false_eq_true, if_false, if_true]

theorem drainEnd_draining {r : Nat} (hstate : (region s r).state = .draining) : drainEnd r s = enterLoading s r := by
  simp only [drainEnd, hstate, hsafe, beq_self_eq_true, Bool.not_false, Bool.and_self, if_true]

/-- The region is FENCED where its digest or a field of its content fails, and ACTIVE otherwise. -/
theorem regionVerified_verifying {e : TableEntry} (exists_ : Nat → Bool) (hbusy : s.loader.busy = true)
    (hstate : (region s s.loader.loadRegion).state = .verifying) (hentry : entryOf (loadTable s) s.loader.loadRegion = some e) :
    regionVerified exists_ s =
      let r := s.loader.loadRegion
      let ws := (region s r).staged
      if Config.sha3_384 (wordsBytes ws) != e.digest then loadFails s fcAuth e.offset 1
      else match verifyRegion exists_ s r ws with
        | some off => loadFails s fcVerify (e.offset + off) 2
        | none =>
          let b := updRegion s r fun g => { g with content := ws, staged := [], length := ws.length, digest := e.digest }
          let b := takeContent (modLd b fun l => { l with busy := false }) r ws
          post (cfgEvent (setRegion b r .active) 0 r) (.regionActive r) := by
  simp only [regionVerified, hbusy, hstate, hsafe, hentry, beq_self_eq_true, Bool.not_false, Bool.and_self, Bool.not_true,
    Bool.false_eq_true, if_false] <;> rfl

end

end

/-- Settles O34: the commands and the words of a load are secure register writes, each in a state of the session in which it
acts; the checks and limits act on any running block outside the safe state. -/
theorem loading : Obligations.Loading := by
  intro s hr
  refine ⟨fun v rq ⟨hid, hsec⟩ hvalid hv => ?_, fun hsafe => ⟨fun rq ⟨hid, hsec⟩ hidle => ⟨fun hlevel hclosed => ?_,
      fun v r e hlevel hv hentry hbuilt hsession hstate hallowed => ?_, fun hopen hall => ?_, fun hopen hnone => ?_⟩,
    fun w rq ⟨hid, hsec⟩ hbusy => ⟨fun hsession => ?_, fun hsession hstate => ?_⟩,
    fun ok fuse hsession => ⟨fun code off hcheck => ?_, fun hcheck => ?_⟩, fun hbusy hsession hstate => ?_,
    fun r hlt hstate => ?_, fun e hbusy hstate hentry => ?_⟩⟩
  · exact writes_of rfl rfl hr hid (access_080038 _ _ hsec) (configEventAck_seq (by simpa) (by simpa))
  · exact writes_of rfl rfl hr hid (access_080008 _ _ hsec)
      (cfgBegin_closed hsec (by simpa) (by simpa) (by simpa using hlevel) (by simpa))
  · subst hv
    exact writes_of rfl rfl hr hid (access_080008 _ _ hsec)
      (cfgReload_allowed hsec (by simpa) (by simpa) (by simpa using hlevel) (by simpa) (by simpa using hbuilt) (by simpa)
        (by simpa) (by simpa))
  · exact writes_of rfl rfl hr hid (access_080008 _ _ hsec) (cfgEnd_loaded hsec (by simpa) (by simpa) (by simpa) (by simpa))
  · exact writes_of rfl rfl hr hid (access_080008 _ _ hsec)
      (cfgAbort_unchanged hsec (by simpa) (by simpa) (by simpa) (by simpa))
  · exact writes_of rfl rfl hr hid (access_080010 _ _ hsec) (loadData_header hsec (by simpa) (by simpa) (by simpa))
  · exact writes_of rfl rfl hr hid (access_080010 _ _ hsec)
      (loadData_region hsec (by simpa) (by simpa) (by simpa) (by simpa))
  · exact does_of rfl rfl hr (headerDone_rejects (s := clearSent s) hsafe hsession hcheck)
  · exact does_of rfl rfl hr (headerDone_opens (s := clearSent s) hsafe hsession hcheck)
  · exact does_of rfl rfl hr (loadTimeout_region (s := clearSent s) hsafe hbusy hsession hstate)
  · exact does_of rfl (decide_eq_true hlt) hr (drainEnd_draining (s := clearSent s) hsafe hstate)
  · exact does_of (g := fun a => regionVerified (isReg a) a) rfl rfl hr
      (regionVerified_verifying (s := clearSent s) hsafe _ hbusy hstate hentry)

end Sys2Proof.StructureBitstream
end

section
/-! The sequencer cores (14_sequencer_cores): their registers and latches, what each instruction does, and the events and
commands of a core. -/
namespace Sys2Proof.SequencerCores

open Machine

/-! ### The registers of a core (R349) -/

section
variable {c : Machine.Core}

theorem sreg_zero : sreg c 0 = 0 := rfl

theorem setSreg_zero (v : Word) : setSreg c 0 v = c := rfl

theorem swf_setSreg (hw : swf 0 c.regs = true) (r : Nat) (v : Word) : swf 0 (setSreg c r v).regs = true := by
  unfold setSreg
  split
  · exact hw
  · exact swf_sset hw

theorem sreg_setSreg (hw : swf 0 c.regs = true) (r q : Nat) (v : Word) :
    sreg (setSreg c r v) q = if q = r ∧ r ≠ 0 then v else sreg c q := by
  by_cases hr : r = 0
  · rw [hr, setSreg_zero, if_neg (by simp)]
  by_cases hq : q = r
  · rw [hq, if_pos ⟨rfl, hr⟩, sreg, setSreg, if_neg hr, if_neg hr]
    exact sget_sset_self' hw
  · rw [if_neg (by simp [hq]), sreg, sreg, setSreg, if_neg hr]
    exact congrArg _ (sget_sset_of_ne hq)

end

/-! ### The latches that WAIT looks at (R353) -/

theorem nbit_eq_testBit (n b : Nat) : nbit n b = n.testBit b := by
  rw [nbit, Nat.testBit_eq_decide_div_mod_eq]
  rfl

theorem nbit_and (m n b : Nat) : nbit (m &&& n) b = (nbit m b && nbit n b) := by
  simp only [nbit_eq_testBit, Nat.testBit_and]

theorem lowLatch_eq_some {latches mask e : Nat} :
    lowLatch latches mask = some e ↔
      e < 19 ∧ nbit latches e = true ∧ nbit mask e = true ∧ ∀ j, j < e → ¬ (nbit latches j = true ∧ nbit mask j = true) := by
  simp only [lowLatch, upto, List.find?_range_eq_some, List.mem_range, nbit_and, Bool.and_eq_true, Bool.not_eq_true',
    Bool.and_eq_false_iff, not_and, Bool.not_eq_true]
  constructor
  · rintro ⟨⟨hl, hm⟩, hlt, hlow⟩
    exact ⟨hlt, hl, hm, fun j hj hlj => (hlow j hj).resolve_left (by simp [hlj])⟩
  · rintro ⟨hlt, hl, hm, hlow⟩
    refine ⟨⟨hl, hm⟩, hlt, fun j hj => ?_⟩
    cases hlj : nbit latches j with
    | false => exact .inl rfl
    | true => exact .inr (hlow j hj hlj)

/-- The bit that is set stands for an odd multiple of its power; without it the multiple is even. -/
theorem nbit_sub_latch {n e : Nat} (h : nbit n e = true) (j : Nat) :
    nbit (n - (n &&& 2 ^ e)) j = (nbit n j && j != e) := by
  have hodd : n / 2 ^ e % 2 = 1 := by simpa [nbit] using h
  obtain ⟨k, hk⟩ : ∃ k, n / 2 ^ e = 2 * k + 1 := ⟨n / 2 ^ e / 2, by omega⟩
  have hlt : n % 2 ^ e < 2 ^ e := Nat.mod_lt _ (Nat.two_pow_pos e)
  have hn : n = 2 ^ e * (2 * k + 1) + n % 2 ^ e := by rw [← hk, Nat.div_add_mod]
  have hbit : n &&& 2 ^ e = 2 ^ e := by
    refine Nat.eq_of_testBit_eq fun i => ?_
    rw [Nat.testBit_and, Nat.testBit_two_pow]
    by_cases hi : e = i
    · rw [← hi, ← nbit_eq_testBit, h, Bool.true_and]
    · rw [decide_eq_false hi, Bool.and_false]
  have hsub : n - 2 ^ e = 2 ^ e * (2 * k) + n % 2 ^ e := by
    rw [Nat.mul_add_one] at hn
    omega
  rw [hbit, hsub, nbit_eq_testBit, nbit_eq_testBit, Nat.testBit_two_pow_mul_add _ hlt]
  conv => rhs; rw [hn, Nat.testBit_two_pow_mul_add _ hlt]
  rcases Nat.lt_trichotomy j e with hj | rfl | hj
  · simp [hj, Nat.ne_of_lt hj]
  · simp
  · obtain ⟨m, rfl⟩ := Nat.exists_eq_add_of_lt hj
    have hm : e + m + 1 - e = m + 1 := by omega
    have hhalf : (2 * k + 1) / 2 = k := by omega
    have hge : ¬ e + m + 1 < e := by omega
    have hne : e + m + 1 ≠ e := by omega
    simp [hm, Nat.testBit_succ, hhalf, hge, hne]

/-- Settles O59. -/
theorem coreRegistersAndWait : Obligations.CoreRegistersAndWait :=
  ⟨fun _ r q v hw => ⟨sreg_zero, setSreg_zero v, swf_setSreg hw r v, sreg_setSreg hw r q v⟩,
    fun _ _ => ⟨fun _ => lowLatch_eq_some, fun _ he j => nbit_sub_latch he j⟩⟩

/-! ### Instructions that write a register (R350, R351) -/

section
variable {s : State} {n op w : Nat}

/-- The instruction at the PC of a running core acts on the core and its word. -/
theorem seqDo_issues (h : Issues s n op w) (f : Machine.Core → Nat → State → State) :
    seqDo op n f s = f (Machine.core s n) w s := by
  obtain ⟨hrun, hfree, hcode, hword, hlegal, hop⟩ := h
  simp only [seqDo, hrun, hfree, hcode, hword, hlegal, hop, bne_self_eq_false, Bool.or_self, Bool.not_true, Bool.false_eq_true,
    if_false]

/-- A word that the store of a running core cannot correct stops the core, whatever instruction was expected (R349, R355). -/
theorem seqDo_codeErr (hrun : (Machine.core s n).state = .run) (hfree : seqFrozen s n = false)
    (hcode : (Machine.core s n).codeErr.contains (Machine.core s n).pc = true) (f : Machine.Core → Nat → State → State) :
    seqDo op n f s = coreFault s n 3 := by
  simp only [seqDo, hrun, hfree, hcode, bne_self_eq_false, Bool.or_self, Bool.false_eq_true, if_false, if_true]

/-- An instruction of `seqAlu` writes its value to rd and retires with the next PC. -/
theorem aluInstr_does {c : Instr} {v : Machine.Core → Nat → State → Word} {x : State → Word}
    (h : exec c s = run c (seqAlu op n v) s) (hw : wellFormed s.build c = true) (hr : Running s) (hi : Issues s n op w)
    (hx : v (Machine.core s n) w (clearSent s) = x (clearSent s)) :
    Does c s fun a =>
      retire (updCore a n fun k => setSreg k (iRd w) (x a)) n w ((Machine.core s n).pc + 1) 0 :=
  does_of h hw hr ((seqDo_issues (s := clearSent s) hi _).trans (by rw [← hx]; rfl))

/-- A condition as a register holds it. -/
theorem ofNat_b2n (b : Bool) : BitVec.ofNat 64 (b2n b) = if b then 1 else 0 := by cases b <;> rfl

end

/-- Settles O35: each is an instruction of `seqAlu`, so only its value is its own. -/
theorem registerInstructions : Obligations.RegisterInstructions := by
  intro s n w hr hn
  have hn' : decide (n < 4) = true := decide_eq_true hn
  exact ⟨fun hi => aluInstr_does rfl hn' hr hi rfl, fun hi => aluInstr_does rfl hn' hr hi rfl,
    fun hi => aluInstr_does rfl hn' hr hi rfl, fun hi => aluInstr_does rfl hn' hr hi rfl,
    fun hi => aluInstr_does rfl hn' hr hi rfl, fun hi => aluInstr_does rfl hn' hr hi rfl,
    fun hi => aluInstr_does rfl hn' hr hi rfl, fun hi => aluInstr_does rfl hn' hr hi rfl,
    fun hi => aluInstr_does rfl hn' hr hi rfl, fun hi => aluInstr_does rfl hn' hr hi (ofNat_b2n _),
    fun hi => aluInstr_does rfl hn' hr hi rfl⟩

/-! ### Memory, control and message instructions (R351, R353–R355, R357) -/

theorem dataOk_iff {a : Nat} : dataOk a = true ↔ a % 8 = 0 ∧ a < 16384 := by
  simp only [dataOk, Bool.and_eq_true, beq_iff_eq, decide_eq_true_eq]

section
variable {s : State} {n w : Nat}

/-- The last of several words lies in the data store only where the first does. -/
theorem dataOk_first_last {a k : Nat} (halign : a % 8 = 0) (hin : a + 8 * k < 16384) :
    (dataOk a && dataOk (a + 8 * k)) = true := by
  rw [Bool.and_eq_true, dataOk_iff, dataOk_iff]
  omega

section
variable {a : Nat} (hi : Issues s n 0x0A w) (ha : (seqAddr (Machine.core s n) w).toNat = a)
include hi ha

theorem seqLd_word (halign : a % 8 = 0) (hin : a < 16384) (hgood : dataBad (Machine.core s n) a 1 = false) :
    seqLd n s = retire (updCore s n fun k => setSreg k (iRd w) (sget 0 (Machine.core s n).data (a / 8))) n w
      ((Machine.core s n).pc + 1) 0 := by
  rw [seqLd, seqDo_issues hi]
  simp only [ha, dataOk_iff.2 ⟨halign, hin⟩, hgood, Bool.not_true, Bool.false_eq_true, if_false]

theorem seqLd_outside (hout : a % 8 ≠ 0 ∨ 16384 ≤ a) : seqLd n s = coreFault s n 2 := by
  have hbad : dataOk a = false := by rw [← Bool.not_eq_true, dataOk_iff]; omega
  rw [seqLd, seqDo_issues hi]
  simp only [ha, hbad, Bool.not_false, if_true]

theorem seqLd_uncorrectable (halign : a % 8 = 0) (hin : a < 16384) (hbad : dataBad (Machine.core s n) a 1 = true) :
    seqLd n s = coreFault s n 3 := by
  rw [seqLd, seqDo_issues hi]
  simp only [ha, dataOk_iff.2 ⟨halign, hin⟩, hbad, Bool.not_true, Bool.false_eq_true, if_false, if_true]

end

theorem seqSt_word {a : Nat} (hi : Issues s n 0x0B w) (ha : (seqAddr (Machine.core s n) w).toNat = a) (halign : a % 8 = 0)
    (hin : a < 16384) :
    seqSt n s = retire (updCore s n fun k => dataSet k (a / 8) (sreg (Machine.core s n) (iRd w))) n w
      ((Machine.core s n).pc + 1) 0 := by
  rw [seqSt, seqDo_issues hi]
  simp only [ha, dataOk_iff.2 ⟨halign, hin⟩, if_true]

/-- A register access that nothing refuses has its effect and retires (R357). -/
theorem seqAccess_ok {write : Bool} {off : Nat} {f : Machine.Core → Nat → Word → State → State} {c : Machine.Core}
    (hoff : (seqAddr c w).toNat = off) (hallowed : seqRefused off write = false)
    (hcode : accessCode s (seqAcc n) off write = 0) :
    seqAccess n write f c w s = retire (f c off ((readReg s off).getD 0) s) n w (c.pc + 1) 0 := by
  simp only [seqAccess, hoff, hallowed, hcode, Bool.false_eq_true, if_false]

/-- BR takes the branch where its register is non-zero as its bit 18 asks. -/
theorem seqBr_issues (hi : Issues s n 0x0F w) :
    seqBr n s = retire s n w
      (if nbit (iImm w) 18 = (sreg (Machine.core s n) (iRd w) != 0) then jumpTo (Machine.core s n).pc (toSigned 18 (iImm w))
        else (Machine.core s n).pc + 1) 0 := by
  have htaken (b : Bool) (x : Word) : ((if b then x != 0 else x == 0) = true) = (b = (x != 0)) := by
    cases b <;> simp [bne]
  rw [seqBr, seqDo_issues hi]
  simp only [htaken]

section
variable (hi : Issues s n 0x12 w) (hmask : iImm w ≠ 0)
include hi hmask

theorem seqWait_set {e : Nat} (hset : lowLatch (Machine.core s n).latches (iImm w) = some e) :
    seqWait n s = waitReturns (updCore s n fun k => { k with mask := iImm w }) n e := by
  rw [seqWait, seqDo_issues hi]
  simp only [hmask, hset, if_false]

theorem seqWait_none (hnone : lowLatch (Machine.core s n).latches (iImm w) = none) :
    seqWait n s = updCore (updCore s n fun k => { k with mask := iImm w }) n fun k => { k with state := .wait } := by
  rw [seqWait, seqDo_issues hi]
  simp only [hmask, hnone, if_false]

end

theorem seqWaitReturn_set {e : Nat} (hwait : (Machine.core s n).state = .wait) (hfree : seqFrozen s n = false)
    (hset : lowLatch (Machine.core s n).latches (Machine.core s n).mask = some e) : seqWaitReturn n s = waitReturns s n e := by
  simp only [seqWaitReturn, hwait, hfree, hset, beq_self_eq_true, Bool.not_false, Bool.and_self, if_true]

theorem seqTimerArm_timer (hi : Issues s n 0x13 w) (hle : iRd w ≤ 2) :
    seqTimerArm n s =
      let d := (sreg (Machine.core s n) (iRa w) + immZ w).toNat
      retire (updCore s n fun k => { k with timers := sset 0 k.timers (iRd w) (min d (2 ^ 40 - 1)) }) n w
        ((Machine.core s n).pc + 1) 0 := by
  rw [seqTimerArm, seqDo_issues hi]
  simp only [Nat.not_lt.2 hle, if_false]

/-- POST of an event record of its own (type 0x0B) offers the ten words at its address. -/
theorem seqPost_event {a : Nat} (hi : Issues s n 0x15 w) (ha : (seqAddr (Machine.core s n) w).toNat = a)
    (htype : iImm w % 256 = 0x0B) (halign : a % 8 = 0) (hin : a + 72 < 16384)
    (hgood : dataBad (Machine.core s n) a 10 = false) :
    seqPost n s =
      let p := postRec s 0x0B 0 (7 + n) (dataWords (Machine.core s n) a 10)
      retire (updCore p.2 n fun k => setSreg k (iRd w) (if p.1 then 1 else 0)) n w ((Machine.core s n).pc + 1) 0 := by
  have hok : (dataOk a && dataOk (a + 72)) = true := dataOk_first_last (k := 9) halign hin
  rw [seqPost, seqDo_issues hi]
  simp [ha, htype, hok, hgood]

theorem seqMbox_sq3 (hi : Issues s 3 0x16 w) :
    seqMbox 3 s = retire
      (mbOutPost (iImm w % 8) (sreg (Machine.core s 3) (iRd w)) (fld (sreg (Machine.core s 3) (iRa w)) 31 0) s) 3 w
      ((Machine.core s 3).pc + 1) 0 := by
  rw [seqMbox, seqDo_issues hi]
  rfl

theorem seqEsc_allowed (hi : Issues s n 0x17 w)
    (hok : escalateOk s (iImm w % 16) (fld (sreg (Machine.core s n) (iRa w)) 15 0) = true) :
    seqEsc n s = retire
      (post s (.rung ⟨iImm w % 16, cmdTarget s (iImm w % 16) (fld (sreg (Machine.core s n) (iRa w)) 15 0)⟩)) n w
      ((Machine.core s n).pc + 1) 0 := by
  rw [seqEsc, seqDo_issues hi]
  simp only [hok, if_true]

/-- With room in channel 7 a descriptor that does not read the data store is posted there. -/
theorem seqDmaPost_room {a : Nat} (hi : Issues s n 0x18 w) (ha : (seqAddr (Machine.core s n) w).toNat = a)
    (halign : a % 8 = 0) (hin : a + 24 < 16384) (hgood : dataBad (Machine.core s n) a 4 = false)
    (hroom : dmaRoom s 7 = true) (hkind : dKind (sget 0 (Machine.core s n).data (a / 8)) ≠ 2) :
    seqDmaPost n s =
      let x := dataWords (Machine.core s n) a 4
      retire (updCore
        (dmaPost 7 (nthW x 0) (nthW x 1) (setFld (nthW x 2) 55 48 (7 + n)) .sequencer [] s) n
          fun k => setSreg k (iRd w) 1) n w ((Machine.core s n).pc + 1) 0 := by
  have hok : (dataOk a && dataOk (a + 24)) = true := dataOk_first_last (k := 3) halign hin
  have hsrc : (dKind (nthW (dataWords (Machine.core s n) a 4) 0) == 2) = false := beq_false_of_ne hkind
  rw [seqDmaPost, seqDo_issues hi]
  simp only [ha, hok, hgood, hroom, hsrc, Bool.not_true, Bool.false_and, Bool.or_self, Bool.false_eq_true, if_false, if_true,
    List.drop_nil]

theorem seqRaise_allowed (hi : Issues s n 0x19 w) (hclass : fcls (iImm w % 2 ^ 16) ≠ 15) (hsev : fsev (iImm w % 2 ^ 16) ≠ 3) :
    seqRaise n s = retire (raiseI s (iImm w % 2 ^ 16) (7 + n)) n w ((Machine.core s n).pc + 1) 0 := by
  rw [seqRaise, seqDo_issues hi]
  simp only [beq_false_of_ne hclass, beq_false_of_ne hsev, Bool.or_self, Bool.false_eq_true, if_false]

end

/-- Settles O36, instruction by instruction, each in the case that its clause names. -/
theorem otherInstructions : Obligations.OtherInstructions := by
  intro s n w hr hn
  have hn' : decide (n < 4) = true := decide_eq_true hn
  refine ⟨fun hi halign hin hgood => ?_, fun hi hout => ?_, fun hi halign hin hbad => ?_, fun hrun hfree hcode => ?_,
    fun hi halign hin => ?_, fun hi hallowed hcode => ?_, fun hi hallowed hcode => ?_, fun hi => ?_, fun hi => ?_,
    fun hi => ?_, fun hi hmask e hset => ?_, fun hi hmask hnone => ?_, fun hwait hfree e hset => ?_, fun hi hle => ?_,
    fun hi htype halign hin hgood => ?_, fun hi h3 => ?_, fun hi hok => ?_, fun hi halign hin hgood hroom hkind => ?_,
    fun hi hclass hsev => ?_⟩
  · exact does_of rfl hn' hr (seqLd_word (s := clearSent s) hi rfl halign hin hgood)
  · exact does_of rfl hn' hr (seqLd_outside (s := clearSent s) hi rfl hout)
  · exact does_of rfl hn' hr (seqLd_uncorrectable (s := clearSent s) hi rfl halign hin hbad)
  · exact does_of rfl hn' hr (seqDo_codeErr (s := clearSent s) hrun hfree hcode _)
  · exact does_of rfl hn' hr (seqSt_word (s := clearSent s) hi rfl halign hin)
  · exact does_of rfl hn' hr
      ((seqDo_issues (s := clearSent s) hi _).trans (seqAccess_ok rfl hallowed ((accessCode_clearSent ..).trans hcode)))
  · exact does_of rfl hn' hr
      ((seqDo_issues (s := clearSent s) hi _).trans (seqAccess_ok rfl hallowed ((accessCode_clearSent ..).trans hcode)))
  · exact does_of rfl hn' hr (seqBr_issues (s := clearSent s) hi)
  · exact does_of rfl hn' hr (seqDo_issues (s := clearSent s) hi _)
  · exact does_of rfl hn' hr (seqDo_issues (s := clearSent s) hi _)
  · exact does_of rfl hn' hr (seqWait_set (s := clearSent s) hi hmask hset)
  · exact does_of rfl hn' hr (seqWait_none (s := clearSent s) hi hmask hnone)
  · exact does_of rfl hn' hr (seqWaitReturn_set (s := clearSent s) hwait hfree hset)
  · exact does_of rfl hn' hr (seqTimerArm_timer (s := clearSent s) hi hle)
  · exact does_of rfl hn' hr (seqPost_event (s := clearSent s) hi rfl htype halign hin hgood)
  · subst h3
    exact does_of rfl rfl hr (seqMbox_sq3 (s := clearSent s) hi)
  · exact does_of rfl hn' hr (seqEsc_allowed (s := clearSent s) hi hok)
  · exact does_of rfl hn' hr (seqDmaPost_room (s := clearSent s) hi rfl halign hin hgood hroom hkind)
  · exact does_of rfl hn' hr (seqRaise_allowed (s := clearSent s) hi hclass hsev)

/-! ### Events and commands of a core (R354, R356, R360–R363) -/

section
variable {s : State} {n : Nat}

theorem seqExpire_armed {i : Nat} (harmed : sget 0 (Machine.core s n).timers i ≠ 0) :
    seqExpire n i s = latch (updCore s n fun k => { k with timers := sset 0 k.timers i 0 }) n (16 + i) := if_neg harmed

theorem seqStallEff_running {dog : Bool} (hrun : (Machine.core s n).state = .run) (hfree : seqFrozen s n = false) :
    seqStallEff n dog s =
      raiseI (updCore s n fun c => { c with state := .stall, cause := if dog then 11 else 10, traceFrozen := true })
        (fcode 13 2 1) (7 + n) := by
  simp only [seqStallEff, hrun, hfree, beq_self_eq_true, Bool.not_false, Bool.and_self, if_true]

theorem seqOverload_first {l : Nat} (hrun : (Machine.core s n).state = .run)
    (hset : nbit ((Machine.core s n).latches &&& (Machine.core s n).mask) l = true)
    (hfirst : (Machine.core s n).overloadRaised = false) :
    seqOverload n l s = raiseI (updCore s n fun c => { c with overloadRaised := true }) (fcode 13 1 2) (7 + n) := by
  simp only [seqOverload, hrun, hset, hfirst, beq_self_eq_true, Bool.true_or, Bool.not_false, Bool.and_self, if_true]

section
variable {rq : Acc} (hsec : rq.sec = true)
include hsec

theorem seqRestartCmd_stopped (hstate : (Machine.core s n).state = .fault ∨ (Machine.core s n).state = .stall) :
    seqRestartCmd rq n s = startCore s n := by
  have hstopped : ((Machine.core s n).state == .fault || (Machine.core s n).state == .stall) = true := by
    rcases hstate with h | h <;> rw [h] <;> rfl
  simp only [seqRestartCmd, secure, hsec, hstopped, if_true]

theorem seqFreezeCmd_secure : seqFreezeCmd rq n s = updCore s n fun c => { c with traceFrozen := true } := if_pos hsec

theorem seqThawCmd_frozen (hfrozen : (Machine.core s n).traceFrozen = true) :
    seqThawCmd rq n s = updCore s n fun c => { c with traceFrozen := false } := by
  simp only [seqThawCmd, secure, hsec, hfrozen, if_true]

end

end

/-- Settles O37: the events act on the core that each names; the commands are secure register writes. -/
theorem coreEvents : Obligations.CoreEvents := by
  intro s n hr hn
  have hn' : decide (n < 4) = true := decide_eq_true hn
  have hand {p : Prop} [Decidable p] (hp : p) : (decide (n < 4) && decide p) = true := by rw [hn', decide_eq_true hp]; rfl
  refine ⟨fun i hi harmed => ?_, fun dog hrun hfree => ?_, fun l hl hrun hset hfirst => ?_,
    fun rq ⟨hid, hsec⟩ => ⟨fun hstate => ?_, ?_, fun hfrozen => ?_, fun v => ?_⟩⟩
  · exact does_of rfl (hand hi) hr (seqExpire_armed (s := clearSent s) harmed)
  · exact does_of rfl hn' hr (seqStallEff_running (s := clearSent s) hrun hfree)
  · exact does_of rfl (hand hl) hr (seqOverload_first (s := clearSent s) hrun hset hfirst)
  · exact writes_of rfl hn' hr hid (access_0D0020 _ _ hsec) (seqRestartCmd_stopped hsec (by simpa))
  · exact writes_of rfl hn' hr hid (access_0D0020 _ _ hsec) (seqFreezeCmd_secure hsec)
  · exact writes_of rfl hn' hr hid (access_0D0020 _ _ hsec) (seqThawCmd_frozen hsec (by simpa))
  · exact writes_of rfl rfl hr hid (access_0D0080 _ _ hsec) rfl

end Sys2Proof.SequencerCores
end

section
/-! The mailboxes and doorbells (15_mailboxes_and_doorbells): the writes of the host and of the sequencers, and posts to a
FULL slot. -/
namespace Sys2Proof.MailboxesAndDoorbells

open Machine

/-! ### What the writes of a channel do (R365–R371) -/

section
variable {s : State} {rq : Acc} {c : Nat} {v : Word}

section
variable (hok : mbAllowed rq c = true)
include hok

theorem mbInPost_allowed :
    mbInPost rq c v s =
      let full := inFull (mbox s c)
      let b := latch (updMbox s c fun m =>
        { m with
          inPtr := v, inEpoch := m.inStaged, inSeq := wrapAdd 16 m.inSeq 1, inColl := m.inColl || full,
          prevEpoch := m.inStaged, outWait := m.outWait && m.inStaged == m.prevEpoch,
          outDue := m.outDue && m.inStaged == m.prevEpoch }) 3 0
      if full then latch (raiseK b fcCollision rq (0x030000 + c * 0x100)) 3 3 else b :=
  if_neg (by rw [hok]; decide)

theorem mbInDbSet_allowed :
    mbInDbSet rq c v s =
      let b := updMbox s c fun m => { m with inDb := m.inDb ||| fld v 31 0 }
      if fld v 31 0 &&& (mbox s c).inMask ≠ 0 then latch b 3 1 else b := by
  simp only [mbInDbSet, hok, Bool.not_true, Bool.false_eq_true, if_false, bne_iff_ne]

theorem mbOutRx_allowed :
    mbOutRx rq c v s =
      let b := updMbox s c fun m =>
        { m with
          outRx := fld v 15 0, outWait := m.outWait && fld v 15 0 != (mbox s c).outSeq,
          outDue := m.outDue && fld v 15 0 != (mbox s c).outSeq }
      if isSq rq = true then b else latch b 3 2 :=
  if_neg (by rw [hok]; decide)

theorem mbOutDbClear_allowed :
    mbOutDbClear rq c v s = updMbox s c fun m => { m with outDb := m.outDb - (m.outDb &&& fld v 31 0) } :=
  if_neg (by rw [hok]; decide)

theorem mbCollClear_allowed (hv : bitOf v 62 = true) (out : Bool) :
    mbCollClear rq c out v s = updMbox s c fun m => if out then { m with outColl := false } else { m with inColl := false } :=
  if_neg (by rw [hok, hv]; decide)

end

section
variable {k : Nat} (hk : k < 4)
include hk

theorem isSq_seqAcc : isSq (seqAcc k) = true := by
  have hle : 0xFFF0 ≤ (seqAcc k).id ∧ (seqAcc k).id ≤ 0xFFF3 := by
    simp only [seqAcc]
    omega
  rw [isSq, decide_eq_true hle.1, decide_eq_true hle.2, Bool.and_self]

/-- With the inbound message acknowledged, an outbound wait that stood behind it begins. -/
theorem mbInRx_sequencer :
    mbInRx (seqAcc k) c v s = updMbox s c fun m =>
      if m.outDue && m.inSeq == fld v 15 0 then { m with inRx := fld v 15 0, outDue := false, outWait := true }
      else { m with inRx := fld v 15 0 } := by
  simp only [mbInRx, isSq_seqAcc hk, inFull, bne, Bool.not_not, if_true]

theorem mbInDbClear_sequencer :
    mbInDbClear (seqAcc k) c v s = updMbox s c fun m => { m with inDb := m.inDb - (m.inDb &&& fld v 31 0) } :=
  if_pos (isSq_seqAcc hk)

end

theorem onChannel_lt (hc : c < 8) (f : State → State) : onChannel c f s = f s := if_pos hc

theorem seqMail_lt {k : Nat} (hc : c < 8) (f : State → State) : seqMail c k f s = f s := if_pos hc

/-- A core that runs stops at a write of a channel that there is not. -/
theorem seqMail_noChannel {k : Nat} (hc : 8 ≤ c) (hrun : (Machine.core s k).state = .run) (f : State → State) :
    seqMail c k f s = coreFault s k 4 := by
  simp only [seqMail, Nat.not_lt.2 hc, hrun, beq_self_eq_true, if_false, if_true]

/-- MB_BLOCK_EPOCH stands where the pointer of a ninth channel would, and is open to a write (R9, R375). -/
theorem access_blockEpoch (s : State) (rq : Acc) : accessCode s rq 0x030800 true = 0 := by
  simp [accessCode, isReg, readReg, inTiles, viewMail, riserStops, deniedAt, mailChannel, secureOnly, lockedNow]

/-- A write of a channel that there is not meets no register. -/
theorem noChannel_does {i : Instr} {off : Nat} {w : Word} {g : State → State}
    (h : exec i s = run i (regCmd rq off w g) s) (hw : wellFormed s.build i = decide (c < 256)) (hr : Running s)
    (hid : Requester rq) (h8 : 8 ≤ c) (h256 : c < 256) (hlo : 0x030000 + 0x100 * c ≤ off) (hhi : off < 0x030100 + 0x100 * c)
    (hne : off ≠ 0x030800) : Does i s fun a => krpDone (cnt a 10) rq.id 2 0 :=
  does_of h (hw.trans (decide_eq_true h256)) hr (regCmd_noReg hid (access_noChannel _ rq c off true h8 h256 hlo hhi hne))

/-- A write of a register that a channel has for its requester has its effect. -/
theorem channel_writes {i : Instr} {off o : Nat} {w : Word} {f g : State → State}
    (h : exec i s = run i (regCmd rq off w g) s) (hw : wellFormed s.build i = decide (c < 256)) (hr : Running s)
    (hid : Requester rq) (hok : mbAllowed rq c = true) (hc : c < 8)
    (ho : o = 0x00 ∨ o = 0x10 ∨ o = 0x20 ∨ o = 0x48 ∨ o = 0x50 ∨ o = 0x58) (hoff : off = 0x030000 + 0x100 * c + o)
    (he : g (cnt (clearSent s) 10) = f (cnt (clearSent s) 10)) (hq : requester i = rq.id := by rfl) : Writes i s f :=
  writes_of h (hw.trans (decide_eq_true (by omega))) hr hid (access_mail _ rq c o off hc hok ho hoff) he hq

end

/-- Settles O38: what a channel that there is not answers, then the writes of each channel by their requester. -/
theorem mailboxes : Obligations.Mailboxes := by
  refine ⟨fun s c rq v hr hid h8 h256 => ⟨fun h => ?_, fun h => ?_, ?_, ?_, ?_, fun out => ?_⟩,
    fun s c k v hr h8 h256 hk hrun => ?_, fun s c hr hc => ⟨fun v rq hid hok => ⟨?_, ?_, ?_, ?_, fun hv => ⟨?_, ?_⟩⟩,
      fun v k hk => ?_, ?_⟩⟩
  · exact noChannel_does rfl rfl hr hid h8 h256 (by omega) (by omega) (by omega)
  · subst h
    exact writes_of rfl rfl hr hid (access_blockEpoch ..) rfl
  · exact noChannel_does rfl rfl hr hid h8 h256 (by omega) (by omega) (by omega)
  · exact noChannel_does rfl rfl hr hid h8 h256 (by omega) (by omega) (by omega)
  · exact noChannel_does rfl rfl hr hid h8 h256 (by omega) (by omega) (by omega)
  · have hle : b2n out ≤ 1 := by cases out <;> decide
    exact noChannel_does rfl rfl hr hid h8 h256 (by omega) (by omega) (by omega)
  · have hw : (decide (c < 256) && decide (k < 4)) = true := by rw [decide_eq_true h256, decide_eq_true hk]; rfl
    exact ⟨does_of rfl hw hr (seqMail_noChannel (s := clearSent s) h8 hrun _),
      does_of rfl hw hr (seqMail_noChannel (s := clearSent s) h8 hrun _)⟩
  · exact channel_writes (o := 0x00) rfl rfl hr hid hok hc (by simp) (by omega)
      ((onChannel_lt hc _).trans (mbInPost_allowed hok))
  · exact channel_writes (o := 0x20) rfl rfl hr hid hok hc (by simp) (by omega) (mbInDbSet_allowed hok)
  · exact channel_writes (o := 0x50) rfl rfl hr hid hok hc (by simp) (by omega) (mbOutRx_allowed hok)
  · exact channel_writes (o := 0x58) rfl rfl hr hid hok hc (by simp) (by omega) (mbOutDbClear_allowed hok)
  · exact channel_writes (o := 0x10) rfl rfl hr hid hok hc (by simp) (by simp [b2n]; omega) (mbCollClear_allowed hok hv false)
  · exact channel_writes (o := 0x48) rfl rfl hr hid hok hc (by simp) (by simp [b2n]; omega) (mbCollClear_allowed hok hv true)
  · have hw : (decide (c < 256) && decide (k < 4)) = true := by
      rw [decide_eq_true (show c < 256 by omega), decide_eq_true hk]; rfl
    exact ⟨does_of rfl hw hr ((seqMail_lt hc _).trans (mbInRx_sequencer hk)),
      does_of rfl hw hr ((seqMail_lt hc _).trans (mbInDbClear_sequencer hk))⟩
  · exact does_of rfl (decide_eq_true hc) hr rfl

/-! ### Posts (R365, R367, R370) -/

section
variable {s : State} {rq : Acc} {c : Nat} {v : Word} {db : Nat}

theorem mbox_updMbox_self (hw : swf {} s.mail.ch = true) (f : Mbox → Mbox) : mbox (updMbox s c f) c = f (mbox s c) :=
  sget_supd_self hw

section
variable (hok : mbAllowed rq c = true)
include hok

theorem mbox_mbInPost (hw : swf {} s.mail.ch = true) :
    mbox (mbInPost rq c v s) c =
      let m := mbox s c
      { m with
        inPtr := v, inEpoch := m.inStaged, inSeq := wrapAdd 16 m.inSeq 1, inColl := m.inColl || inFull m,
        prevEpoch := m.inStaged, outWait := m.outWait && m.inStaged == m.prevEpoch,
        outDue := m.outDue && m.inStaged == m.prevEpoch } := by
  rw [mbInPost_allowed hok]
  dsimp only
  split <;> exact mbox_updMbox_self hw _

theorem mbInPost_work :
    (mbInPost rq c v s).work = s.work ++ if inFull (mbox s c) then
      [.capture { code := fcode 13 1 3, access := 2, master := rq.id, addr := 0x030000 + c * 0x100 }] else [] := by
  rw [mbInPost_allowed hok]
  dsimp only
  split
  · rfl
  · exact (List.append_nil _).symm

end

theorem mbox_mbOutPost (hw : swf {} s.mail.ch = true) :
    mbox (mbOutPost c v db s) c =
      let m := mbox s c
      { m with
        outPtr := outPtrOf m.outArea v, outEpoch := s.mail.blockEpoch, outSeq := wrapAdd 16 m.outSeq 1,
        outColl := m.outColl || outFull m, outDb := m.outDb ||| db % 2 ^ 32, outWait := !(inFull m), outDue := inFull m } := by
  unfold mbOutPost
  dsimp only
  split <;> exact mbox_updMbox_self hw _

theorem mbOutPost_work :
    (mbOutPost c v db s).work =
      s.work ++ if outFull (mbox s c) then [.capture { code := fcode 13 1 3, master := 10, addr := c }] else [] := by
  unfold mbOutPost
  dsimp only
  split
  · rfl
  · exact (List.append_nil _).symm

end

/-- Settles O56: what a post leaves in its slot, and the capture that it raises where the slot was FULL. -/
theorem fullSlotPost : Obligations.FullSlotPost := by
  intro s rq c v db hok hw t u
  have ht : mbox t c = _ := mbox_mbInPost hok hw
  have hu : mbox u c = _ := mbox_mbOutPost hw
  have htw : t.work = _ := mbInPost_work hok
  have huw : u.work = _ := mbOutPost_work
  refine ⟨by rw [ht], by rw [ht]; rfl, fun harea => by rw [hu]; exact if_pos harea, by rw [hu]; rfl,
    fun hfull => ⟨by simp [ht, hfull], by simp [htw, hfull]⟩, fun hfree => ⟨by simp [ht, hfree], by simp [htw, hfree]⟩,
    fun hfull => ⟨by simp [hu, hfull], by simp [huw, hfull]⟩, fun hfree => ⟨by simp [hu, hfree], by simp [huw, hfree]⟩,
    fun w hv => ⟨?_, ?_⟩⟩
  · rw [mbCollClear_allowed hok hv, mbox_updMbox_self hw]
    rfl
  · rw [mbCollClear_allowed hok hv, mbox_updMbox_self hw]
    rfl

end Sys2Proof.MailboxesAndDoorbells
end

section
/-! The ports of the shell (16_ports_and_shell): what a step takes from the queue, requests that carry an ID of the block, NET
messages, and the sideband. -/
namespace Sys2Proof.PortsAndShell

open Machine

/-- Settles O45: the step looks at the front of the queue and at nothing else. -/
theorem stepRunsFront : Obligations.StepRunsFront :=
  ⟨fun _ _ _ => rfl, fun s h => by simp only [step, h]⟩

/-! ### Requests of the block's own IDs (R389) -/

section
variable {s : State} {rq : Acc} {off : Nat} {w : Bool} {v : Word}

theorem krpAccess_blockId {f : State → Word × State} (hid : 0xFFF0 ≤ rq.id) :
    krpAccess rq off w v f s = krpDone (raisePort (cnt s 10) fcPortRange 6 0 (krpPayload rq off w v)) rq.id 1 0 := if_pos hid

end

/-- Settles O54: the ID is looked at before the register. -/
theorem blockIdsRefused : Obligations.BlockIdsRefused := fun _ _ _ _ _ hr hid _ ho =>
  Scope.does_krpRequest hr ho (krpAccess_blockId hid)

/-! ### NET messages (R391) -/

section
variable {s : State} {tag : Nat} {m : NetMsg} (hm : netMsg s tag = some m)
include hm

theorem netAckEff_taken : netAckEff tag false s = modShell s fun h => { h with net := h.net.filter fun x => x.tag != tag } := by
  simp only [netAckEff, hm, Bool.false_eq_true, if_false]

theorem netAckEff_unreachable : netAckEff tag true s = netFails (raiseNet s (fcode 8 2 5) m) m := by
  simp only [netAckEff, hm, if_true]

theorem netLate_sent : netLate tag s = netFails (raiseNet s (fcode 8 2 4) m) m := by simp only [netLate, hm]

theorem netBeatLate_sent : netBeatLate tag s = netFails (raisePort s fcPortTimeout 8 0 tag) m := by
  have hraised : netMsg (raisePort s fcPortTimeout 8 0 tag) tag = some m := hm
  simp only [netBeatLate, hraised]

end

/-- Settles O40: each event finds the message that its tag names. -/
theorem netMessages : Obligations.NetMessages := fun s _ _ hr hm =>
  ⟨does_of rfl rfl hr (netAckEff_taken (s := clearSent s) hm), does_of rfl rfl hr (netAckEff_unreachable (s := clearSent s) hm),
    does_of rfl rfl hr (netLate_sent (s := clearSent s) hm), does_of rfl rfl hr (netBeatLate_sent (s := clearSent s) hm)⟩

/-! ### TRAY and JTAG (R402, R406, R444, R458) -/

section
variable {s : State}

theorem statusRequestEff_own (hrole : s.cas.role ≠ .master) :
    statusRequestEff s = traySend (latch s 3 4) (statusMsg (modeStatus s) (faultStatus s) s.thermal.globalMax) := by
  have hown : isMaster s = false := beq_false_of_ne hrole
  simp only [statusRequestEff, hown, Bool.false_eq_true, if_false, trayGot]

theorem mctpControlEff_setEid {e : Nat} (he : e < 256) :
    mctpControlEff .setEid e s =
      traySend { latch s 3 4 with shell := { s.shell with trayEid := e } } (.control .setEid e) := by
  simp only [mctpControlEff, trayGot, Nat.mod_eq_of_lt (show e < 2 ^ 8 from he), latch_shell]

theorem i3cCccEff_setdasa {x : Nat} (hstatic : x / 128 % 128 = Config.trayStatic % 128) :
    i3cCccEff .setdasa x s = { s with shell := { s.shell with trayAddr := some (x % 128) } } := if_pos (beq_iff_eq.2 hstatic)

theorem i3cCccEff_setdasa_other {x : Nat} (hstatic : x / 128 % 128 ≠ Config.trayStatic % 128) : i3cCccEff .setdasa x s = s :=
  if_neg fun h => hstatic (beq_iff_eq.1 h)

section
variable {i : Instrument} (hnet : s.shell.jtag = .network)
include hnet

theorem instrInclude_enabled (hon : instrEnabled (secState s) i = true) (hplain : i ≠ .zeroise) :
    instrInclude i s =
      let l := s.shell.included
      { s with shell := { s.shell with included := if l.contains i then l else l ++ [i] } } := by
  simp only [instrInclude, hnet, hon, beq_false_of_ne hplain, bne_self_eq_false, Bool.false_eq_true, if_false, if_true]

theorem instrInclude_firstRefusal (hoff : instrEnabled (secState s) i = false) (hfirst : s.shell.denied.contains i = false) :
    instrInclude i s =
      raiseI { s with shell := { s.shell with
        included := s.shell.included.filter fun j => j != i, denied := s.shell.denied ++ [i] } } fcDenied 4 := by
  simp only [instrInclude, hnet, hoff, hfirst, bne_self_eq_false, Bool.false_eq_true, if_false]

end

end

/-- Settles O44: the messages of TRAY, the codes of the instruction register, and the two answers to an instrument. -/
theorem trayAndJtag : Obligations.TrayAndJtag := by
  intro s hr
  refine ⟨fun hrole => ?_, fun e he => ?_, fun x => ?_, fun x hstatic => ?_, fun x hstatic => ?_, fun x => ?_, ?_, ?_, ?_,
    fun i hnet hon hplain => ?_, fun i hnet hoff hfirst => ?_⟩
  · exact does_of rfl rfl hr (statusRequestEff_own (s := clearSent s) hrole)
  · exact does_of rfl rfl hr (mctpControlEff_setEid he)
  · exact does_of rfl rfl hr rfl
  · exact does_of rfl rfl hr (i3cCccEff_setdasa hstatic)
  · exact does_of rfl rfl hr (i3cCccEff_setdasa_other hstatic)
  · exact does_of rfl rfl hr rfl
  · exact does_of rfl rfl hr rfl
  · exact does_of rfl rfl hr rfl
  · exact does_of rfl rfl hr rfl
  · exact does_of rfl rfl hr (instrInclude_enabled (s := clearSent s) hnet hon hplain)
  · exact does_of rfl rfl hr (instrInclude_firstRefusal (s := clearSent s) hnet hoff hfirst)

end Sys2Proof.PortsAndShell
end

section
/-! The supplies and their delivery (17_supplies_and_delivery): rails, clusters, the eMRAM interlock and droop. -/
namespace Sys2Proof.SuppliesAndDelivery

open Machine

section
variable {s : State}

/-! ### The interlock and the records of the rails (R300, R414, R415) -/

/-- A write step that is cut leaves its mark in the granary alone. -/
theorem cutWrite_gran (s : State) : ∃ g, cutWrite s = { s with gran := g } := by
  unfold cutWrite
  split
  · exact ⟨s.gran, rfl⟩
  · exact ⟨_, rfl⟩

theorem interlockEnds_eq (s : State) :
    interlockEnds s =
      if allInRange s && s.supply.inhibit then post (modSup s fun p => { p with inhibit := false }) .writesAllowed else s := by
  cases hall : allInRange s <;> simp [interlockEnds, hall]

/-- A rail that has been marked out shows the rest of its record as it was. -/
theorem rail_updRail_out (r : Nat) : rail (updRail s r fun x => { x with out := true, seen := true }) r =
    { rail s r with out := true, seen := true } :=
  sget_sset_self fun h => Bool.noConfusion (congrArg Rail.out h)

section
variable {r : Nat} (hin : (rail s r).out = false)
include hin

/-- VDDIO or VDDNV out of its range is recorded and raised. -/
theorem railLeaves_inhibits (hr : r = 2 ∨ r = 4) :
    railLeaves r s =
      raise (envRecord 3 r (rail s r).now (updRail (modSup (cutWrite s) fun p => { p with inhibit := true }) r fun x =>
          { x with out := true, seen := true }))
        { code := fcode 9 2 6, access := 9, master := 0x100 + r, addr := (rail s r).now } := by
  have h0 : (r == 0) = false := by rcases hr with rfl | rfl <;> rfl
  have hdark : (r == 1 || r == 3) = false := by rcases hr with rfl | rfl <;> rfl
  have hnow : (rail (modSup (cutWrite s) fun p => { p with inhibit := true }) r).now = (rail s r).now := by
    simp only [rail, modSup, cutWrite_supply]
  simp only [railLeaves, h0, hin, hdark, interlock, rail_updRail_out, hnow, Bool.false_eq_true, if_false]
  rfl

/-- VDDS or VDDA out of its range takes the block to DARK. -/
theorem railLeaves_dark (hr : r = 1 ∨ r = 3) :
    railLeaves r s =
      keysLost (goDark (updRail (modSup (cutWrite s) fun p => { p with inhibit := true }) r fun x =>
        { x with out := true, seen := true })) := by
  have h0 : (r == 0) = false := by rcases hr with rfl | rfl <;> rfl
  have hdark : (r == 1 || r == 3) = true := by rcases hr with rfl | rfl <;> rfl
  simp only [railLeaves, h0, hin, hdark, interlock, Bool.false_eq_true, if_false, if_true]

end

theorem railReturns_rail {r : Nat} (hr : 1 ≤ r) :
    railReturns r s =
      let b := interlockEnds (updRail s r fun x => { x with out := false })
      if (rail s r).out then envRecord 4 r (rail b r).now b else b := by
  have h0 : (r == 0) = false := beq_false_of_ne (by omega)
  simp only [railReturns, h0, Bool.false_eq_true, if_false]

/-! ### Clusters (R416, R417) -/

section
variable {k : Nat}

theorem clusterLeaves_first (hin : k ∉ s.supply.clustersOut) :
    clusterLeaves k s =
      post (post (raise (envRecord 1 k (sget {} s.supply.droops k).last (updRail (modSup (modSup (cutWrite s) fun p =>
            { p with inhibit := true }) fun p =>
            { p with clustersOut := insertNat p.clustersOut k, excursions := min (p.excursions + 1) 65535 }) 0 fun r =>
            { r with seen := true }))
          { code := fcode 9 2 6, access := 9, master := k, addr := (sget {} s.supply.droops k).last,
            part := partOf s (s.build.clusterFirst k) }) (.loseCheckers (clusterPositions s k)))
        (if isDecode s then .badOpen else .require 4 false none 14) := by
  have hnot : s.supply.clustersOut.contains k = false := by simpa using hin
  obtain ⟨g, hcut⟩ := cutWrite_gran s
  simp only [clusterLeaves, hnot, interlock, hcut, Bool.false_eq_true, if_false]
  exact (apply_ite (post _) (isDecode s = true) .badOpen (.require 4 false none 14)).symm

theorem clusterReturns_out (hout : k ∈ s.supply.clustersOut) :
    clusterReturns k s =
      (clusterPositions s k).foldl (fun b n => post b (.regainChecker n))
        (envRecord 2 k (sget {} s.supply.droops k).last
          (interlockEnds (modSup s fun p => { p with clustersOut := p.clustersOut.filter (· != k) }))) := by
  have hmem : s.supply.clustersOut.contains k = true := by simpa using hout
  simp only [clusterReturns, hmem, Bool.not_true, Bool.false_eq_true, if_false]
  rfl

end

/-! ### Droop (R418) -/

/-- A window in which one cluster alone is reported, with its minimum below DROOP_MV. -/
theorem droopWindow_below {k mv : Nat} (hk : k < s.build.clusters) (hlow : mv < droopLimit s) :
    droopWindow [(k, mv)] [] s =
      railReading (modSup (raise (modSup s fun p => { p with droops := supd {} p.droops k fun d =>
          { below := min (d.below + 1) 65535, last := mv, read := true, min := if d.read then min d.min mv else mv } })
          { code := fcode 9 1 5, access := 9, master := k, addr := mv, part := partOf s (s.build.clusterFirst k) })
        fun p => { p with minCluster := k, minMv := mv }) 0 mv := by
  have hmins : [(k, mv)].filter (fun m => decide (m.1 < s.build.clusters)) = [(k, mv)] := by simp [hk]
  simp only [droopWindow, hmins, forEach, List.foldl_cons, List.foldl_nil, List.take_nil, List.zip_nil_right, hlow, decide_true,
    if_true]
  rfl

end

/-- Settles O3: each judgement of the supervisor acts on the rail or the cluster that it names. -/
theorem supplyEvents : Obligations.SupplyEvents := by
  refine ⟨fun s r hr hrail hin => ?_, fun s r hr hrail hin => ?_, fun s r hr hlo hhi => ?_, fun s hr => ?_,
    fun s k hr hk hin => ?_, fun s k hr hk hout => ?_, fun s k mv hr hk hlow => ?_⟩
  · exact does_of rfl (decide_eq_true (show r < 5 by omega)) hr (railLeaves_inhibits (s := clearSent s) hin hrail)
  · exact does_of rfl (decide_eq_true (show r < 5 by omega)) hr (railLeaves_dark (s := clearSent s) hin hrail)
  · refine does_of rfl (decide_eq_true hhi) hr ((railReturns_rail (s := clearSent s) hlo).trans ?_)
    simp only [interlockEnds_eq]
    rfl
  · exact does_of rfl rfl hr rfl
  · exact does_of rfl (decide_eq_true hk) hr (clusterLeaves_first (s := clearSent s) hin)
  · refine does_of rfl (decide_eq_true hk) hr ((clusterReturns_out (s := clearSent s) hout).trans ?_)
    simp only [interlockEnds_eq]
    rfl
  · exact does_of rfl rfl hr (droopWindow_below (s := clearSent s) hk hlow)

end Sys2Proof.SuppliesAndDelivery
end

section
/-! The thermal supervision (18_thermal_supervision): readings, and sensors that break and recover. -/
namespace Sys2Proof.ThermalSupervision

open Machine

section
variable {s : State} {x code : Nat}

section
variable (hlo : 192 ≤ code) (hhi : code ≤ 1712)
include hlo hhi

/-- Every code from 192 to 1,712 is legal (R397). -/
theorem codeInRange_of : codeInRange code = true := by
  rw [codeInRange, decide_eq_true hlo, decide_eq_true hhi, Bool.and_self]

/-- A legal reading is taken, and the neighbour condition is applied to it. -/
theorem takeReading_legal :
    takeReading x code s = post (judgeNear (updSensor s x fun r => { r with raw := code, read := true }) x) .thermal := by
  simp only [takeReading, codeInRange_of hlo hhi, Bool.not_true, Bool.false_eq_true, if_false]

theorem tsens_legal {i : Nat} (hon : sensOn s (256 + i) = true) : tsens i code s = takeReading (256 + i) code s := by
  simp only [tsens, hon, codeInRange_of hlo hhi, Bool.not_true, Bool.false_eq_true, if_false]

end

/-- An on-die sensor is read while its cluster is in range and its riser is live. -/
theorem onDie_read {k : Nat} (hon : sensOn s k = true) (hin : k ∉ s.supply.clustersOut)
    (hup : riserUp s (s.build.clusterFirst k) = true) : onDie k code s = takeReading k code s := by
  have hnot : s.supply.clustersOut.contains k = false := by simpa using hin
  simp only [onDie, hnot, hup, hon, Bool.not_true, Bool.or_self, Bool.false_eq_true, if_false, if_true]

/-- A judged sensor breaks, whatever the cause. -/
theorem breakSensor_judged (hjudged : judged s x = true) (cause reading : Nat) :
    breakSensor s x cause reading =
      post (raise (envRecord 5 x reading (updSensor s x fun r =>
          { r with broken := true, cause := cause, breaks := min (r.breaks + 1) 65535 }))
        { code := fcode 9 1 3, access := 9, master := 0x200 + x, addr := reading, part := sensPartKnown s x }) .thermal := by
  simp only [breakSensor, hjudged, Bool.not_true, Bool.false_eq_true, if_false]
  rfl

/-- A sensor is stuck only once it has been read. -/
theorem sensorFails_of {cause : Nat} (h : cause ≠ 2 ∨ (sensor s x).read = true) :
    sensorFails x cause s = breakSensor s x cause (sensor s x).raw := by
  have hgo : (cause == 2 && !(sensor s x).read) = false := by rcases h with h | h <;> simp [h]
  simp only [sensorFails, hgo, Bool.false_eq_true, if_false]

theorem sensorHeals_broken (hbroken : (sensor s x).broken = true) (hmask : sensMasked s x = false) :
    sensorHeals x s = post (envRecord 6 x (sensor s x).raw (updSensor s x fun r => { r with broken := false })) .thermal := by
  simp only [sensorHeals, hbroken, hmask, Bool.not_false, Bool.and_self, if_true]

end

/-- Settles O2: legal readings of either kind are taken alike, and a sensor breaks alike by either time. -/
theorem sensorReadings : Obligations.SensorReadings := by
  refine ⟨fun s i code hr hi hlo hhi hon => ?_, fun s k code hr hk hlo hhi hon hin hup => ?_, fun s x hr hx hjudged => ?_,
    fun s x hr hx hjudged hread => ?_, fun s x hr hx hbroken hmask => ?_⟩
  · have hw : (decide (i < 256) && decide (code < 4096)) = true := by
      rw [decide_eq_true hi, decide_eq_true (show code < 4096 by omega), Bool.and_self]
    exact does_of rfl hw hr ((tsens_legal (s := clearSent s) hlo hhi hon).trans (takeReading_legal hlo hhi))
  · have hw : (decide (k < s.build.clusters) && decide (code < 4096)) = true := by
      rw [decide_eq_true hk, decide_eq_true (show code < 4096 by omega), Bool.and_self]
    exact does_of rfl hw hr ((onDie_read (s := clearSent s) hon hin hup).trans (takeReading_legal hlo hhi))
  · exact does_of rfl (decide_eq_true hx) hr
      ((sensorFails_of (.inl (by decide))).trans (breakSensor_judged (s := clearSent s) hjudged ..))
  · exact does_of rfl (decide_eq_true hx) hr
      ((sensorFails_of (s := clearSent s) (.inr hread)).trans (breakSensor_judged (s := clearSent s) hjudged ..))
  · exact does_of rfl (decide_eq_true hx) hr (sensorHeals_broken (s := clearSent s) hbroken hmask)

end Sys2Proof.ThermalSupervision
end

section
/-! Security and sealing (19_security_and_sealing): the device secret, the fuse map, TAMPER_N, and the commands of the security
unit. -/
namespace Sys2Proof.SecurityAndSealing

open Machine

/-! ### KEY_SEED, the fuse map and TAMPER_N (R398, R399, R434, R435, R440) -/

section
variable {s : State}

/-- A value other than all zeros and all ones is the device secret. -/
theorem keySeedEff_value {seed : List Nat} {v : Nat} (hready : s.shell.keySeedReady = true)
    (hv : leNat (wordsBytes ((upto 4).map fun i => BitVec.ofNat 64 (nthN seed i))) = v) (hzeros : v ≠ 0)
    (hones : v ≠ 2 ^ 256 - 1) :
    keySeedEff seed s = readState { s with
      shell := { s.shell with keySeedReady := false }
      sec := { s.sec with
        seed := some v, grn := some (derive v 1 []), att := some (derive v 2 []), kem := some (kemSeed v),
        pip := some (derive v 5 [Config.draw s.sec.bootSalt]) } } := by
  have hgood : (decide (v = 0) || decide (v = 2 ^ 256 - 1)) = false := by
    rw [decide_eq_false hzeros, decide_eq_false hones, Bool.or_self]
  simp only [keySeedEff, hready, hv, hgood, Bool.not_true, Bool.false_eq_true, if_false]
  rfl

theorem keySeedLate_waiting (hready : s.shell.keySeedReady = true) :
    keySeedLate s = raisePort { s with shell := { s.shell with keySeedReady := false } } (fcode 12 3 2) 14 0 0 := if_pos hready

section
variable (hreading : s.shell.fuseReading = true)
include hreading

section
variable {w : Word} (hgood : fuseWordBad s s.shell.fuseBuf.length w = false)
include hgood

theorem fuseTransfer_word (hlen : s.shell.fuseBuf.length < 127) :
    fuseTransfer w s = { s with shell := { s.shell with fuseBuf := s.shell.fuseBuf ++ [w] } } := by
  have hmore : (s.shell.fuseBuf ++ [w]).length < 128 := by rw [List.length_append, List.length_singleton]; omega
  simp only [fuseTransfer, hreading, hgood, hmore, Bool.not_true, Bool.false_eq_true, if_false, if_true]

/-- The 128th word completes the map; no bring-up command waits for it. -/
theorem fuseTransfer_last (hlen : s.shell.fuseBuf.length = 127) (hidle : s.bring.busy = false) :
    fuseTransfer w s = { s with
      shell := { s.shell with fuseReading := false, fuseBuf := [], fuseWords := s.shell.fuseBuf ++ [w] }
      bring := { s.bring with fuseOk := true } } := by
  have hall : ¬ (s.shell.fuseBuf ++ [w]).length < 128 := by rw [List.length_append, List.length_singleton]; omega
  simp only [fuseTransfer, hreading, hgood, hall, modBr, hidle, Bool.not_true, Bool.false_and, Bool.false_eq_true, if_false]

end

theorem fuseLate_reading :
    fuseLate s =
      raisePort { s with shell := { s.shell with fuseReading := false, fuseBuf := [] } } fcPortTimeout 14 1 0 := if_pos hreading

end

/-- TAMPER_LOCK asks for the lock, and the state word can be written with it. -/
theorem tamper_locks (hlock : tamperLock s = true) (hread : s.sec.state.isSome = true) (hstate : secState s ≠ .locked)
    (hwrite : s.supply.inhibit = false) :
    tamper s =
      post (raiseI (modSec (putState (modSec s fun u => { u with tamperSeen := true }) (secState s) true s.sec.provisions)
        fun u => { u with lockPending := true }) (fcode 12 3 0) 4) (.zeroise 0) := by
  have hpend : (tamperLock s && s.sec.state.isSome && secState s != .locked && !s.supply.inhibit) = true := by
    simp [hlock, hread, hstate, hwrite]
  exact congrArg (fun a => post (raiseI a (fcode 12 3 0) 4) (.zeroise 0)) (if_pos hpend)

end

/-- Settles O4, event by event, each in the state in which it acts. -/
theorem seedFuseAndTamper : Obligations.SeedFuseAndTamper := by
  refine ⟨fun s seed hr hready => ?_, fun s hr hready => ?_, fun s w hr hreading hlen hgood => ?_,
    fun s w hr hreading hlen hgood hidle => ?_, fun s hr hreading => ?_, fun s hr hlock hread hstate hwrite => ?_⟩
  · intro v hzeros hones
    exact does_of rfl rfl hr (keySeedEff_value (s := clearSent s) hready rfl hzeros hones)
  · exact does_of rfl rfl hr (keySeedLate_waiting (s := clearSent s) hready)
  · exact does_of rfl rfl hr (fuseTransfer_word (s := clearSent s) hreading hgood hlen)
  · exact does_of rfl rfl hr (fuseTransfer_last (s := clearSent s) hreading (by rw [← hlen] at hgood; exact hgood) hlen hidle)
  · exact does_of rfl rfl hr (fuseLate_reading (s := clearSent s) hreading)
  · exact does_of rfl rfl hr (tamper_locks (s := clearSent s) hlock hread hstate hwrite)

/-! ### A change of the security state (R438, R439, R444) -/

section
variable {s : State} {cmd count : Nat} {st : SecState} {f : State → State}

/-- A command that changes the state rewrites the state word, takes the state that it says and is DONE. -/
theorem secMove_moves (hwrite : s.supply.inhibit = false) (hst : secState s ≠ st) :
    secMove s cmd true st count f =
      let b := bumpGen (putState s st s.sec.lockPending count)
      secResult (f (modSec { b with shell := scanPath st s.shell } fun u =>
        { u with state := some st, lockPending := s.sec.lockPending, provisions := count })) cmd 1 := by
  have hput : secState (putState s st s.sec.lockPending count) ≠ st := hst
  simp only [secMove, hwrite, takeState_ne hput, Bool.not_true, Bool.or_self, Bool.false_eq_true, if_false]
  rfl

/-- Of a new state word and a counted change the security unit shows nothing. -/
theorem sec_moved (pend : Bool) (h : Shell) : ({ bumpGen (putState s st pend count) with shell := h } : State).sec = s.sec :=
  bumpGen_sec _

/-- The device identity is made of the attestation key. -/
theorem deviceId_congr {t : State} (h : t.sec.att = s.sec.att) : deviceId t = deviceId s := by simp only [deviceId, h]

theorem modSec_congr {g g' : Security → Security} (h : g s.sec = g' s.sec) : modSec s g = modSec s g' := by
  simp only [modSec, h]

/-- The count of provisions and the pending lock are written as they stand. -/
theorem modSec_moved (g : Security → Security) :
    modSec { bumpGen (putState s st s.sec.lockPending s.sec.provisions) with shell := scanPath st s.shell }
        (fun u => g { u with state := some st, lockPending := s.sec.lockPending, provisions := s.sec.provisions }) =
      modSec { bumpGen (putState s st s.sec.lockPending s.sec.provisions) with shell := scanPath st s.shell }
        fun u => g { u with state := some st } :=
  modSec_congr (by rw [sec_moved])

end

/-! ### The commands of the security unit (R437, R439, R442, R446, R447) -/

/-- Bytes are digits to the base of 256. -/
theorem leNat_lt (l : List Byte) : leNat l < 256 ^ l.length := by
  induction l with
  | nil => exact Nat.one_pos
  | cons b l ih =>
    have hb : b.toNat < 256 := b.isLt
    rw [leNat, List.length_cons, Nat.pow_succ]
    omega

/-- A job that four bytes name is one job, not every one. -/
theorem leNat_take_ne_anyJob (l : List Byte) : leNat (l.take 4) ≠ anyJob := by
  have hlen : (l.take 4).length ≤ 4 := List.length_take_le 4 l
  exact Nat.ne_of_lt (Nat.lt_of_lt_of_le (leNat_lt _) (Nat.pow_le_pow_right (by decide) hlen))

section
variable {s : State} {rq : Acc}

section
variable (hsec : rq.sec = true)
include hsec

section
variable (hsafe : s.fault.safe = false)
include hsafe

/-- Outside the safe state a secure command acts in the states that allow it. -/
theorem secCmd_acts {cmd : Nat} {ok : State → Bool} (hok : ok s = true) (f : State → State) : secCmd rq cmd ok f s = f s := by
  simp only [secCmd, secure, hsec, hsafe, hok, Bool.false_and, Bool.false_eq_true, if_false, if_true]

theorem loadCert_verifies {cert sig : List Byte} (hstate : secState s ≠ .locked) (hatt : s.sec.att.isSome = true)
    (hkem : s.sec.kem.isSome = true) (hcert : cert.length = 6768) (hsig : sig.length = 4632) (hform : leNat (cert.take 8) = 1)
    (hown : s.sec.att.map Config.attPublic = some ((cert.drop 16).take 2592))
    (hown' : s.sec.kem.map Config.kemPublic = some ((cert.drop 2608).take 1568))
    (hid : leNat ((cert.drop 8).take 8) = Config.sha3_384 ((cert.drop 16).take 2592) % 2 ^ 64) (hblank : secBlank s = false)
    (hroot : Config.sha3_384 ((cert.drop 4176).take 2592) = attRoot s) :
    loadCert rq cert true sig s = secResult (modSec s fun u => { u with certOk := true, cert := cert ++ sig }) 1 1 := by
  refine (secCmd_acts hsec hsafe (by simp [hstate, hatt, hkem]) _).trans (if_pos ?_)
  rw [ownKeys, hown, hown', hcert, hsig, hform, hid, hblank, hroot]
  simp only [beq_self_eq_true, Bool.not_false, Bool.and_self]

theorem commitState_moves (hstate : secState s = .provision) (hread : s.sec.state.isSome = true) (hcert : s.sec.certOk = true)
    (htarget : secTarget s = 1 ∨ secTarget s = 2) (hwrite : s.supply.inhibit = false) :
    commitState rq true s =
      let b := bumpGen (putState s (secOf (secTarget s)) s.sec.lockPending s.sec.provisions)
      secResult (modGran (modSec { b with shell := scanPath (secOf (secTarget s)) s.shell } fun u =>
        { u with state := some (secOf (secTarget s)), lockPending := s.sec.lockPending, provisions := s.sec.provisions })
        fun g => { g with deviceId := deviceId s }) 2 1 := by
  have hok : (secState s == .provision && s.sec.state.isSome && s.sec.certOk && (secTarget s == 1 || secTarget s == 2)) = true := by
    rcases htarget with h | h <;> simp [hstate, hread, hcert, h]
  have hmove : secState s ≠ secOf (secTarget s) := by rcases htarget with h | h <;> rw [hstate, h] <;> decide
  refine (secCmd_acts hsec hsafe hok _).trans ((secMove_moves hwrite hmove).trans ?_)
  exact congrArg (fun n => secResult (modGran _ fun g => { g with deviceId := n }) 2 1) (deviceId_congr (by rw [modSec_sec, sec_moved]))

theorem sealCmd_moves (hstate : secState s = .open_) (harmed : isArmed s = false) (hwrite : s.supply.inhibit = false) :
    sealCmd rq true s =
      let b := bumpGen (putState s .sealed_ s.sec.lockPending s.sec.provisions)
      secResult (modSec { b with shell := scanPath .sealed_ s.shell } fun u => { u with state := some .sealed_, permits := [] }) 3 1 := by
  have hmove : secState s ≠ .sealed_ := by rw [hstate]; decide
  refine (secCmd_acts hsec hsafe (by simp [hstate, harmed]) _).trans ((secMove_moves hwrite hmove).trans ?_)
  exact congrArg (secResult · 3 1) (modSec_moved fun u => { u with permits := [] })

theorem lockCmd_moves (hstate : secState s ≠ .locked) (hwrite : s.supply.inhibit = false) :
    lockCmd rq true s =
      let b := bumpGen (putState s .locked s.sec.lockPending s.sec.provisions)
      secResult (post (modSec { b with shell := scanPath .locked s.shell } fun u => { u with state := some .locked })
        (.zeroise 2)) 4 1 := by
  refine (secCmd_acts hsec hsafe (by simp [hstate]) _).trans ((secMove_moves hwrite hstate).trans ?_)
  exact congrArg (fun a => secResult (post a (.zeroise 2)) 4 1) (modSec_moved id)

theorem reprovision_moves (hstate : secState s = .locked) (hread : s.sec.state.isSome = true) (hid : reprovisionId s ≠ 0)
    (hown : reprovisionId s = deviceId s) (hwrite : s.supply.inhibit = false) :
    reprovision rq true s =
      let n := min (s.sec.provisions + 1) 65535
      let b := bumpGen (putState s .provision s.sec.lockPending n)
      secResult (modSec { b with shell := scanPath .provision s.shell } fun u =>
        { u with state := some .provision, provisions := n }) 5 1 := by
  have hok : (secState s == .locked && s.sec.state.isSome && reprovisionId s != 0 && reprovisionId s == deviceId s) = true := by
    simp only [hstate, hread, hown, bne_iff_ne.2 (hown ▸ hid), beq_self_eq_true, Bool.and_self]
  have hmove : secState s ≠ .provision := by rw [hstate]; decide
  refine (secCmd_acts hsec hsafe hok _).trans ((secMove_moves hwrite hmove).trans ?_)
  exact congrArg (secResult · 5 1) (modSec_congr (by rw [sec_moved]))

theorem unwrapCmd_blob {blob key : List Byte} {kem : Nat} (hstate : secState s = .open_ ∨ secState s = .sealed_)
    (harg : s.sec.arg ≠ 0) (hkem : s.sec.kem = some kem) :
    unwrapCmd rq blob true key s =
      let shared := Config.kem kem (leNat ((blob.drop 8).take 1568))
      let k := leNat (Config.openBytes (Config.kmac 256 shared custJobKey [leNat (blob.take 8)]) 0 (key.take 32))
      secResult (modSec s fun u =>
        { u with
          job := some k, jobId := leNat (blob.take 4), jobUsed := false,
          step := if u.spent then none else some (Config.kmac 256 k custKdf [8, leNat (blob.take 4)]) }) 7 1 := by
  have hok : (secState s == .open_ || secState s == .sealed_) = true := by rcases hstate with h | h <;> simp [h]
  have hblob : (secState s == .open_ && s.sec.arg == 0) = false := by rw [beq_eq_false_iff_ne.2 harg, Bool.and_false]
  have hjob : decide (leNat (blob.take 4) = anyJob) = false := decide_eq_false (leNat_take_ne_anyJob blob)
  refine (secCmd_acts hsec hsafe hok _).trans ?_
  simp only [hblob, hkem, holdJobKey, unwrapKey, hjob, stepKey, Option.isSome_some, Option.getD_some, Bool.and_self, Bool.or_false,
    Bool.false_eq_true, if_false, if_true]

theorem loadPermit_holds {ws : List Word} {i : Nat} (hstate : secState s = .sealed_)
    (hfree : (upto 16).find? (fun i => (sget {} s.sec.permits i).uses == 0) = some i) (hblank : secBlank s = false)
    (hform : fld (nthW ws 0) 7 0 = 1) (hinst : fld (nthW ws 0) 15 8 = instNo s) (hchip : fld (nthW ws 0) 31 16 = chipNo s)
    (huses : fld (nthW ws 0) 47 32 ≠ 0) (hnew : permitHeld s (nthW ws 5) = false) :
    loadPermit rq ws true s = secResult (modSec s fun u => { u with permits := sset {} u.permits i (Permit.mk (nthW ws 1)
      (nthW ws 2) (nthW ws 3) (nthW ws 4) (nthW ws 5) (fld (nthW ws 0) 47 32)) }) 8 1 := by
  refine (secCmd_acts hsec hsafe (by simp [hstate]) _).trans ?_
  simp only [hfree, hblank, hform, hinst, hchip, bne_iff_ne.2 huses, hnew, beq_self_eq_true, Bool.not_false, Bool.and_self, if_true]

theorem clearPermits_sealed (hstate : secState s = .sealed_) :
    clearPermits rq s = secResult (modSec s fun u => { u with permits := [] }) 9 1 :=
  secCmd_acts hsec hsafe (ok := (secState · == .sealed_)) (by simp [hstate]) _

theorem zeroiseCmd_acts : zeroiseCmd rq s = secResult (post (raiseI s (fcode 12 0 3) 4) (.zeroise 1)) 6 1 :=
  secCmd_acts hsec hsafe rfl _

end

end

end

/-- Settles O5: each command is a secure register write that acts in a state that allows it. -/
theorem securityCommands : Obligations.SecurityCommands := by
  intro s rq hr ⟨hid, hsec⟩ hsafe
  have hsafe' : (cnt (clearSent s) 10).fault.safe = false := by simpa
  refine ⟨fun cert sigOk sig hstate hatt hkem hcert hsig hform hown hown' hdev hblank hroot hok => ?_,
    fun hstate hread hcert htarget hwrite => ?_, fun hstate harmed hwrite => ?_, fun hstate hwrite => ?_,
    fun hstate hread hid' hown hwrite => ?_, ?_, fun blob key kem hstate harg hkem => ?_,
    fun ws i hstate hfree hblank hform hinst hchip huses hnew => ?_, fun hstate => ?_⟩
  · subst hok
    exact writes_of rfl rfl hr hid (access_0A0008 _ _ hsec)
      (loadCert_verifies hsec hsafe' (by simpa) (by simpa) (by simpa) hcert hsig hform (by simpa using hown)
        (by simpa using hown') hdev (by simpa) (by simpa using hroot))
  · refine writes_of rfl rfl hr hid (access_0A0008 _ _ hsec)
      ((commitState_moves hsec hsafe' (by simpa) (by simpa) (by simpa) (by simpa) (by simpa)).trans ?_)
    simp only [cnt_secTarget, cnt_sec, cnt_deviceId, clearSent_secTarget, clearSent_sec, clearSent_deviceId]
  · refine writes_of rfl rfl hr hid (access_0A0008 _ _ hsec) ((sealCmd_moves hsec hsafe' (by simpa) (by simpa) (by simpa)).trans ?_)
    simp only [cnt_sec, clearSent_sec]
  · refine writes_of rfl rfl hr hid (access_0A0008 _ _ hsec) ((lockCmd_moves hsec hsafe' (by simpa) (by simpa)).trans ?_)
    simp only [cnt_sec, clearSent_sec]
  · refine writes_of rfl rfl hr hid (access_0A0008 _ _ hsec)
      ((reprovision_moves hsec hsafe' (by simpa) (by simpa) (by simpa) (by simpa) (by simpa)).trans ?_)
    simp only [cnt_sec, clearSent_sec]
  · exact writes_of rfl rfl hr hid (access_0A0008 _ _ hsec) (zeroiseCmd_acts hsec hsafe')
  · exact writes_of rfl rfl hr hid (access_0A0008 _ _ hsec) (unwrapCmd_blob hsec hsafe' (by simpa) (by simpa) (by simpa))
  · exact writes_of rfl rfl hr hid (access_0A0008 _ _ hsec)
      (loadPermit_holds hsec hsafe' (by simpa) (by simpa using hfree) (by simpa) hform (by simpa) (by simpa) huses (by simpa))
  · exact writes_of rfl rfl hr hid (access_0A0008 _ _ hsec) (clearPermits_sealed hsec hsafe' (by simpa))

end Sys2Proof.SecurityAndSealing
end

section
/-! The cascade (20_cascade): the enumeration of the ring, the role of a chip, the heartbeat, and the losses of the ring. -/
namespace Sys2Proof.CascadeLinks

open Machine
open StepJournalAndCommit (isMaster_iff isMember_iff isMaster_of_member casPass_member)

/-! ### The role that a chip takes (R450) -/

section
variable {s : State} {r : Role}

theorem takeRole_running (hsafe : s.fault.safe = false) :
    takeRole s r = post (modCas (if s.cas.role = r then s else bumpGen s) fun c => { c with role := r, roleKnown := true }) .armGo :=
  if_neg (ne_true_of_eq_false hsafe)

theorem takeRole_safe (hsafe : s.fault.safe = true) : takeRole s r = s := if_pos hsafe

/-- Outside the safe state, or where it is its own already, a chip has the role that it takes. -/
theorem takeRole_role (h : s.fault.safe = false ∨ s.cas.role = r) : (takeRole s r).cas.role = r := by
  cases hsafe : s.fault.safe with
  | false => rw [takeRole_running hsafe]; rfl
  | true => rw [takeRole_safe hsafe]; exact h.resolve_left (by rw [hsafe]; decide)

theorem roleLate_unknown (hknown : s.cas.roleKnown = false) : roleLate s = takeRole s .standalone :=
  if_neg (ne_true_of_eq_false hknown)

end

/-! ### The enumeration (R451) -/

section
variable {s : State} {n : Nat}

theorem retrain_master {rq : Acc} (hsec : rq.sec = true) (hrole : s.cas.role = .master) (harmed : isArmed s = false) :
    retrain rq s = casSend (modCas s fun c =>
      { c with failVerdicts := false, enumOut := true, ringOk := false, members := [], instances := 0, armChecks := [] })
      1 0xFF [0] := by
  simp only [retrain, secure, hsec, isMaster_iff.2 hrole, harmed, Bool.not_false, Bool.and_self, if_true]
  rfl

/-- The ENUM that returns to the master numbers the members of the ring. -/
theorem enumGot_returned (hrole : s.cas.role = .master) (hout : s.cas.enumOut = true) (hlow : 1 ≤ n) (hhigh : n ≤ 7) :
    enumGot n s = modCas (latch s 3 5) fun c =>
      { c with
        enumOut := false, ringOk := true, instances := n + 1,
        members := (upto (n + 1)).foldl (fun m i => sset {} m i { valid := true }) [] } := by
  have hmaster : isMaster (casGot s) = true := isMaster_iff.2 hrole
  have hring : ((casGot s).cas.enumOut && decide (1 ≤ n) && decide (n ≤ 7)) = true := by
    rw [decide_eq_true hlow, decide_eq_true hhigh, Bool.and_true, Bool.and_true]; exact hout
  simp only [enumGot, hmaster, hring, if_true]
  rfl

/-- An ENUM that finds a member, or makes one, gives it its position. -/
theorem enumGot_member (hrole : s.cas.role ≠ .master)
    (hmember : (if s.cas.roleKnown then latch s 3 5 else takeRole (latch s 3 5) .member).cas.role = .member) :
    enumGot n s =
      casForward (modCas (if s.cas.roleKnown then latch s 3 5 else takeRole (latch s 3 5) .member) fun c =>
        { c with position := n + 1 }) 1 0 0xFF [n + 1] := by
  have hmaster : isMaster (casGot s) = false := by rw [Bool.eq_false_iff, Ne, isMaster_iff]; exact hrole
  simp only [enumGot, hmaster, Bool.false_eq_true, if_false]
  exact if_pos (isMember_iff.2 hmember)

theorem enumLate_out (hrole : s.cas.role = .master) (hout : s.cas.enumOut = true) :
    enumLate s = raiseI (modCas s fun c => { c with enumOut := false }) (fcode 14 2 0) 12 :=
  if_pos (by rw [isMaster_iff.2 hrole, hout, Bool.and_self])

end

/-! ### The heartbeat and the losses (R452, R453, R459) -/

section
variable {s : State}

section
variable (hrole : s.cas.role = .master)
include hrole

theorem heartbeatSend_running (hsafe : s.fault.safe = false) :
    heartbeatSend s = casSend s 2 0xFF [s.mode.gen % 2 ^ 32, s.cas.chip] :=
  if_pos (by rw [isMaster_iff.2 hrole, hsafe, Bool.not_false, Bool.and_self])

theorem heartbeatLate_master :
    heartbeatLate s = raiseI (modCas s fun c =>
      { c with
        ringOk := false, failVerdicts := true,
        members := c.members.map fun (i, m) => (i, if i = 0 then m else { m with lost := true }) }) (fcode 14 2 2) 12 :=
  if_pos (isMaster_iff.2 hrole)

end

theorem heartbeatSend_safe (hsafe : s.fault.safe = true) : heartbeatSend s = s :=
  if_neg (by rw [hsafe, Bool.not_true, Bool.and_false]; decide)

section
variable (hrole : s.cas.role = .member)
include hrole

theorem heartbeatGot_member {gen chip : Nat} :
    heartbeatGot gen chip s =
      casForward (latch (modCas s fun c => { c with chip := chip % 2 ^ 16 }) 3 5) 2 0 0xFF [gen, chip] := by
  rw [heartbeatGot, isMember_iff.2 hrole, if_pos rfl]
  exact casPass_member (by simpa using hrole) ..

theorem heartbeatMissed_first (hlost : s.cas.masterLost = false) :
    heartbeatMissed s = raiseI (modCas s fun c => { c with masterLost := true }) (fcode 14 3 1) 12 :=
  if_pos (by rw [isMember_iff.2 hrole, hlost, Bool.not_false, Bool.and_self])

/-- A handshake that a member does not complete. -/
theorem casTimeout_member (hknown : s.cas.roleKnown = true) : casTimeout s = raiseI s (fcode 14 2 0) 12 := by
  have hring : (!s.cas.roleKnown || s.cas.role == .standalone) = false := by rw [hknown, hrole]; rfl
  simp only [casTimeout, hring, isMaster_of_member hrole, Bool.false_eq_true, if_false]
  rfl

end

end

/-- Settles O41: the enumeration and the losses at the master, then at a member, then the two ends of the wait for a role. -/
theorem cascadeRing : Obligations.CascadeRing := by
  intro s hr
  refine ⟨fun hrole => ⟨fun rq ⟨hid, hsec⟩ harmed => ?_, fun n hout hlow hhigh => ?_, fun hout => ?_, fun hsafe => ?_,
      fun hsafe => ?_, ?_⟩,
    fun hrole => ⟨fun n => ?_, fun g chip => ?_, fun hlost => ?_, fun hknown => ?_⟩, fun n hknown hrole hsafe => ?_, fun hknown => ?_⟩
  · exact writes_of rfl rfl hr hid (access_0C0010 _ _ hsec) (retrain_master hsec (by simpa) (by simpa))
  · exact does_of rfl rfl hr (enumGot_returned (s := clearSent s) hrole hout hlow hhigh)
  · exact does_of rfl rfl hr (enumLate_out (s := clearSent s) hrole hout)
  · exact does_of rfl rfl hr (heartbeatSend_running (s := clearSent s) hrole hsafe)
  · exact does_of rfl rfl hr (heartbeatSend_safe (s := clearSent s) hsafe)
  · exact does_of rfl rfl hr (heartbeatLate_master (s := clearSent s) hrole)
  · refine does_of rfl rfl hr (enumGot_member (s := clearSent s) (by simp [hrole]) ?_)
    cases hknown : s.cas.roleKnown with
    | true => simp [hknown, hrole]
    | false =>
      simp only [clearSent_cas_roleKnown, hknown, Bool.false_eq_true, if_false]
      exact takeRole_role (.inr hrole)
  · exact does_of rfl rfl hr (heartbeatGot_member (s := clearSent s) hrole)
  · exact does_of rfl rfl hr (heartbeatMissed_first (s := clearSent s) hrole hlost)
  · exact does_of rfl rfl hr (casTimeout_member (s := clearSent s) hrole hknown)
  · have hbecomes : takeRole (latch (clearSent s) 3 5) .member =
        if (clearSent s).cas.roleKnown then latch (clearSent s) 3 5 else takeRole (latch (clearSent s) 3 5) .member :=
      (if_neg (by simp [hknown])).symm
    refine does_of rfl rfl hr ((enumGot_member (s := clearSent s) (by simp [hrole]) ?_).trans (by rw [← hbecomes]))
    rw [← hbecomes]
    exact takeRole_role (.inl hsafe)
  · exact does_of rfl rfl hr (roleLate_unknown (s := clearSent s) hknown)

end Sys2Proof.CascadeLinks
end

section
/-! Bring-up and the memory test (21_bring_up): the bring-up commands and the end of one, and the March test of a range. -/
namespace Sys2Proof.BringUpAndMemoryTest

open Machine

/-! ### The bring-up commands (R399, R464) -/

section
variable {s : State} {rq : Acc}

/-- What the start of a bring-up command records. -/
def bringStart (cmd : Nat) (s : State) : State :=
  modBr s fun b => { b with busy := true, cmd := cmd, result := 0, passed := 0, failed := 0, aborted := 0, todo := [] }

/-- Unarmed, before reconciliation and with no command running, a bring-up command acts. -/
theorem bringCmd_acts (hsec : rq.sec = true) (harmed : isArmed s = false) (hrecon : s.qrs.reconDone = false)
    (hbring : s.bring.busy = false) (hqrs : s.qrs.busy = false) (cmd : Nat) {ok : Bool} (hok : ok = true) (f : State → State) :
    bringCmd rq cmd ok f s = f (bringStart cmd s) := by
  simp only [bringCmd, secure, hsec, harmed, hrecon, hbring, hqrs, hok, Bool.not_true, Bool.or_self, Bool.false_eq_true, if_false,
    if_true]
  rfl

section
variable (hsec : rq.sec = true) (harmed : isArmed s = false) (hrecon : s.qrs.reconDone = false) (hbring : s.bring.busy = false)
  (hqrs : s.qrs.busy = false)
include hsec harmed hrecon hbring hqrs

theorem selftestAllCmd_acts :
    selftestAllCmd rq s =
      bringTests (bringStart 3 s) s.build.positions selfAllowed (fun q => { q with selfRes := 3 }) fun b n => selfStart b n .bringup :=
  bringCmd_acts hsec harmed hrecon hbring hqrs 3 rfl _

theorem structAllCmd_acts {p : Nat} (hp : p = 15 ∨ p < s.build.partitions) :
    structAllCmd rq p s =
      bringTests (bringStart 4 s) (if p = 15 then s.build.positions else partPositions s p) structAllowed
        (fun q => { q with structRes := 3 }) fun b n => structStart b n .bringup := by
  have hok : (p == 15 || decide (p < s.build.partitions)) = true := by
    rw [Bool.or_eq_true, beq_iff_eq, decide_eq_true_eq]; exact hp
  refine (bringCmd_acts hsec harmed hrecon hbring hqrs 4 hok _).trans ?_
  simp only [beq_iff_eq]
  rfl

end

/-! ### The end of a bring-up command (R464) -/

section
variable (hbusy : s.bring.busy = true)
include hbusy

/-- RISER_TRAIN ends with the risers that have trained. -/
theorem bringDone_riserTrain {cs : List Nat} (hcmd : s.bring.cmd = 1) :
    bringDone cs s =
      let down := (upto s.build.cols).filter fun c => !(s.time.risers.contains c)
      let up := down.filter fun c => cs.contains c
      let b := forEach (down.filter fun c => !(cs.contains c)) s fun a c => raiseI a fcRiserDown 5 c
      bringEnds (modBr (risersTrained up b) fun b => { b with passed := up.length, failed := down.length - up.length }) 1 := by
  have hnot : (!s.bring.busy) = false := by rw [hbusy]; rfl
  rw [bringDone, hnot, hcmd]
  rfl

/-- FUSE_READ that the map has not ended by then. -/
theorem bringDone_fuseRead {cs : List Nat} (hcmd : s.bring.cmd = 2) : bringDone cs s = bringEnds s 3 := by
  have hnot : (!s.bring.busy) = false := by rw [hbusy]; rfl
  rw [bringDone, hnot, hcmd]
  rfl

end

end

/-- Settles O30: the four commands in the state in which they act, then the ends of RISER_TRAIN and of FUSE_READ. -/
theorem bringUp : Obligations.BringUp := by
  intro s hr
  refine ⟨fun rq ⟨hid, hsec⟩ harmed hrecon hbring hqrs => ?_, fun cs hcs hbusy hcmd => ?_, fun hbusy hcmd => ?_⟩
  · have hacts (cmd : Nat) (f : State → State) :
        bringCmd rq cmd true f (cnt (clearSent s) 10) = f (bringStart cmd (cnt (clearSent s) 10)) :=
      bringCmd_acts hsec (by simpa) (by simpa) (by simpa) (by simpa) cmd rfl f
    refine ⟨?_, ?_, ?_, fun p hp => ?_⟩
    · exact writes_of rfl rfl hr hid (access_001300 _ _ hsec) (hacts 1 id)
    · exact writes_of rfl rfl hr hid (access_001300 _ _ hsec) (hacts 2 fuseStart)
    · refine writes_of rfl rfl hr hid (access_001300 _ _ hsec)
        ((selftestAllCmd_acts hsec (by simpa) (by simpa) (by simpa) (by simpa)).trans ?_)
      simp only [cnt_build, clearSent_build]
      rfl
    · refine writes_of rfl rfl hr hid (access_001300 _ _ hsec)
        ((structAllCmd_acts hsec (by simpa) (by simpa) (by simpa) (by simpa) (by simpa)).trans ?_)
      simp only [cnt_build, cnt_partPositions, clearSent_build, clearSent_partPositions]
      rfl
  · exact does_of rfl (by simpa [wellFormed] using hcs) hr (bringDone_riserTrain (s := clearSent s) hbusy hcmd)
  · exact does_of rfl rfl hr (bringDone_fuseRead (s := clearSent s) hbusy hcmd)

/-! ### The memory test (R467, R468, R470) -/

section
variable {s : State} {rq : Acc}

/-- START on a routed range of whole GiB takes the range. -/
theorem mtStart_takesRange {suite : Nat} (hsec : rq.sec = true) (harmed : isArmed s = false) (hbusy : s.mem.busy = false)
    (hsuite : suite ≤ 1) (hrange : s.mem.base.toNat < s.mem.limit.toNat) (hbase : s.mem.base.toNat % 2 ^ 30 = 0)
    (hlimit : s.mem.limit.toNat % 2 ^ 30 = 0) (hrouted : rangeRouted s s.mem.base.toNat s.mem.limit.toNat = true) :
    mtStart rq suite s = mtIssue (modMt s fun m =>
      { base := m.base, limit := m.limit, first := s.mem.base.toNat, last := s.mem.limit.toNat, busy := true, suite := suite }) := by
  have hsuite' : decide (suite > 1) = false := decide_eq_false (by omega)
  have hrange' : decide (s.mem.base.toNat ≥ s.mem.limit.toNat) = false := decide_eq_false (by omega)
  simp only [mtStart, secure, hsec, harmed, hbusy, hsuite', hrange', hbase, hlimit, hrouted, bne_self_eq_false, Bool.not_true,
    Bool.or_self, Bool.false_eq_true, if_false, if_true]

theorem mtAbort_busy (hsec : rq.sec = true) (hbusy : s.mem.busy = true) :
    mtAbort rq s = dmaGo 5 (modMt (if s.mem.issued then dmaStops s 5 4 else s) fun m =>
      { m with busy := false, result := 3, pause := false, issued := false }) :=
  (if_pos hsec).trans (if_pos hbusy)

theorem mtPauseEnd_paused (hbusy : s.mem.busy = true) (hpause : s.mem.pause = true) :
    mtPauseEnd s = mtIssue (modMt s fun m => { m with pause := false }) :=
  if_pos (by rw [hbusy, hpause, Bool.and_self])

theorem mtDone_ended (hbusy : s.mem.busy = true) (helem : s.mem.elem = elemDone) :
    mtDone s = dmaGo 5 (modMt s fun m => { m with busy := false, result := if m.findings = 0 then 1 else 2 }) :=
  if_pos (by rw [hbusy, helem, beq_self_eq_true, Bool.and_self])

end

/-- Settles O31: START, ABORT, the end of a pause and the end of the suite. -/
theorem memoryTest : Obligations.MemoryTest := by
  intro s hr
  refine ⟨fun suite rq ⟨hid, hsec⟩ harmed hbusy hsuite hrange hbase hlimit hrouted => ?_, fun rq ⟨hid, hsec⟩ hbusy => ?_,
    fun hbusy hpause => ?_, fun hbusy helem => ?_⟩
  · refine writes_of rfl rfl hr hid (access_090100 _ _ hsec)
      ((mtStart_takesRange hsec (by simpa) (by simpa) hsuite (by simpa) (by simpa) (by simpa) (by simpa)).trans ?_)
    simp only [cnt_mem, clearSent_mem]
  · refine writes_of rfl rfl hr hid (access_090100 _ _ hsec) ((mtAbort_busy hsec (by simpa)).trans ?_)
    simp only [cnt_mem, clearSent_mem]
  · exact does_of rfl rfl hr (mtPauseEnd_paused (s := clearSent s) hbusy hpause)
  · exact does_of rfl rfl hr (mtDone_ended (s := clearSent s) hbusy helem)

end Sys2Proof.BringUpAndMemoryTest
end

section
/-! Observability (22_observability): the counter commands, the readout of the rings, the dump lists and the parts of a husk. -/
namespace Sys2Proof.Observability

open Machine

/-! ### The OBSERVE block under a count of its own counters -/

section
variable (s : State) (i k : Nat)

theorem cnt_obs_cntBusy : (cnt s i k).obs.cntBusy = s.obs.cntBusy := by unfold cnt; split <;> rfl
theorem cnt_obs_run : (cnt s i k).obs.run = s.obs.run := by unfold cnt; split <;> rfl
theorem cnt_obs_result : (cnt s i k).obs.result = s.obs.result := by unfold cnt; split <;> rfl

end

section
variable {s : State} {rq : Acc}

section
variable (hsec : rq.sec = true)
include hsec

/-! ### The counters (R474) -/

/-- A command on the counters of the block misses no tile. -/
theorem cntCmd_block (hbusy : s.obs.cntBusy = false) {cmd : Nat} (hlow : 1 ≤ cmd) (hhigh : cmd ≤ 3) (tag target : Nat) :
    cntCmd rq cmd 0 tag target s = modOb s fun o =>
      { o with
        counts := if cmd == 1 then [] else o.counts, running := cmd != 2, tag := tag, cntBusy := true, cntTag := tag, missed := 0 } := by
  have hcmd : (cmd == 0) = false := beq_false_of_ne (by omega)
  have hcmd' : decide (cmd > 3) = false := decide_eq_false (by omega)
  simp only [cntCmd, secure, hsec, hbusy, hcmd, hcmd', cntScopeOk, beq_self_eq_true, Bool.true_or, Bool.not_true, Bool.or_self,
    Bool.false_eq_true, if_false, if_true]
  rfl

/-- CLEAR_START on all checkers misses those whose riser is down. -/
theorem cntCmd_clearCheckers (hbusy : s.obs.cntBusy = false) (tag target : Nat) :
    cntCmd rq 1 3 tag target s =
      let b := forEach (s.build.positions.filter (riserUp s)) s fun b n => modObs b n fun o =>
        { o with counts := [], running := true, tag := tag }
      modOb b fun o =>
        { o with cntBusy := true, cntTag := tag, missed := (s.build.positions.filter fun n => !(riserUp s n)).length } := by
  have hup : riserUp (forEach (s.build.positions.filter (riserUp s)) s fun b n => modObs b n (cntAct 1 tag)) = riserUp s :=
    forEach_inv riserUp (f := fun b n => modObs b n (cntAct 1 tag)) (fun _ _ => rfl) _ _
  have hok : (s.obs.cntBusy || (1 : Nat) == 0 || decide ((1 : Nat) > 3) || !(cntScopeOk s 3 target)) = false := by
    simp [hbusy, cntScopeOk]
  have hscope : ((3 : Nat) == 0) = false := rfl
  simp only [cntCmd, secure, hsec, hok, hscope, cntTiles, hup, Bool.false_eq_true, if_false, if_true]
  rfl

/-! ### The rings (R478) -/

theorem ringSel_up {v : Word} {n i : Nat} (hn : fld v 27 16 = n) (hi : fld v 5 0 = i) (htile : n < s.build.tiles)
    (hup : riserUp s n = true) :
    ringSel rq v s =
      modOb (modOb s fun o => { o with ringSel := pack [(16, 12, n), (0, 6, i)], ringTile := n, ringIndex := i }) fun o =>
        { o with
          ringFailed := false, ringGen := wrapAdd 16 o.ringGen 1,
          ringData := (upto 8).flatMap fun k => ringWords (((tile s n).obs.ring[i + k]?).getD {}) } := by
  subst hn hi
  exact (if_pos hsec).trans (if_pos (by rw [Bool.and_eq_true, decide_eq_true_eq]; exact ⟨htile, hup⟩))

theorem ringSel_down {v : Word} {n i : Nat} (hn : fld v 27 16 = n) (hi : fld v 5 0 = i) (hdown : riserUp s n = false) :
    ringSel rq v s =
      modOb (modOb s fun o => { o with ringSel := pack [(16, 12, n), (0, 6, i)], ringTile := n, ringIndex := i }) fun o =>
        { o with ringFailed := true } := by
  subst hn hi
  exact (if_pos hsec).trans (if_neg (by rw [Bool.and_eq_true, not_and]; exact fun _ => ne_true_of_eq_false hdown))

/-! ### The dump lists (R480, R482) -/

theorem dumpArmCmd_arms {list : List Word} (hstate : secState s = .open_ ∨ secState s = .sealed_) (hrun : s.obs.run = none) :
    dumpArmCmd rq list s =
      let es := dumpEntries list
      let b := modOb (dumpDiscard s) fun o => { o with entries := es, nextDst := 0, fired := [] }
      forEach ((upto es.length).zip es) b fun b (i, e) => if e.refused then dumpOutcome b i 1 else b := by
  have hok : (secState s == .provision || secState s == .locked || s.obs.run.isSome) = false := by
    rcases hstate with h | h <;> rw [h, hrun] <;> rfl
  exact (if_pos hsec).trans (if_neg (ne_true_of_eq_false hok))

theorem dumpCancelCmd_discards : dumpCancelCmd rq s = dumpDiscard s := if_pos hsec

end

/-! ### The parts of a husk (R445, R481) -/

section
variable {r : DumpRun} (hrun : s.obs.run = some r) (hwritten : r.written = true)
include hrun hwritten

theorem huskDone_next (hmore : r.offset + r.bytes.length < (runEntry s r).len) :
    huskDone s =
      let off := r.offset + r.bytes.length
      let dst := r.dst + huskSpace r.bytes.length
      huskRead (modOb s fun o => { o with nextDst := dst })
        { entry := r.entry, part := r.part + 1, offset := off, dst := dst, serial := r.serial } := by
  simp only [huskDone, hrun, hwritten, Bool.not_true, Bool.false_eq_true, if_false]
  exact if_pos hmore

theorem huskDone_last (hend : (runEntry s r).len ≤ r.offset + r.bytes.length) :
    huskDone s =
      dumpGo (dumpOutcome (modOb s fun o => { o with nextDst := r.dst + huskSpace r.bytes.length, run := none }) r.entry 0) := by
  simp only [huskDone, hrun, hwritten, Bool.not_true, Bool.false_eq_true, if_false]
  exact if_neg (Nat.not_lt.2 hend)

end

end

/-- Settles O43: the counter commands and their end, the readout of a ring, the dump commands and their result, and the end of a
husk part. -/
theorem observation : Obligations.Observation := by
  intro s rq hr ⟨hid, hsec⟩
  refine ⟨fun hbusy => ?_, does_of rfl rfl hr rfl, fun v n i hn hi htile => ⟨fun hup => ?_, fun hdown => ?_⟩,
    fun list hstate hrun => ?_, ?_, fun v hvalid hv => ?_, fun r hrun hwritten => ⟨fun hmore => ?_, fun hend => ?_⟩⟩
  · have hbusy' : (cnt (clearSent s) 10).obs.cntBusy = false := (cnt_obs_cntBusy ..).trans hbusy
    have hblock {cmd : Nat} (hlow : 1 ≤ cmd) (hhigh : cmd ≤ 3) (tag target : Nat) := cntCmd_block hsec hbusy' hlow hhigh tag target
    refine ⟨fun tag x => ?_, fun tag x => ?_, fun tag x => ?_, fun tag x => ?_⟩
    · exact writes_of rfl rfl hr hid (access_0B0000 _ _ hsec) (hblock (by decide) (by decide) tag x)
    · exact writes_of rfl rfl hr hid (access_0B0000 _ _ hsec) (hblock (by decide) (by decide) tag x)
    · exact writes_of rfl rfl hr hid (access_0B0000 _ _ hsec) (hblock (by decide) (by decide) tag x)
    · refine writes_of rfl rfl hr hid (access_0B0000 _ _ hsec) ((cntCmd_clearCheckers hsec hbusy' tag x).trans ?_)
      have hup : riserUp (cnt (clearSent s) 10) = riserUp s := by funext n; simp
      simp only [cnt_build, clearSent_build, hup]
  · refine writes_of rfl rfl hr hid (access_0B0010 _ _ hsec) ((ringSel_up hsec hn hi (by simpa) (by simpa)).trans ?_)
    simp only [cnt_tile, clearSent_tile]
  · exact writes_of rfl rfl hr hid (access_0B0010 _ _ hsec) (ringSel_down hsec hn hi (by simpa))
  · exact writes_of rfl rfl hr hid (access_0B0038 _ _ hsec)
      (dumpArmCmd_arms hsec (by simpa) ((cnt_obs_run ..).trans hrun))
  · exact writes_of rfl rfl hr hid (access_0B0038 _ _ hsec) (dumpCancelCmd_discards hsec)
  · have hack : heldAck (cnt (clearSent s) 10).obs.result v = { (cnt (clearSent s) 10).obs.result with valid := false } :=
      ResidueChecksums.heldAck_seq (by rw [cnt_obs_result]; exact hvalid) (by rw [cnt_obs_result]; exact hv)
    exact writes_of rfl rfl hr hid (access_0B0048 _ _ hsec)
      (congrArg (fun h => modOb (cnt (clearSent s) 10) fun o => { o with result := h }) hack)
  · exact does_of rfl rfl hr (huskDone_next (s := clearSent s) hrun hwritten hmore)
  · exact does_of rfl rfl hr (huskDone_last (s := clearSent s) hrun hwritten hend)

end Sys2Proof.Observability
end
